-- ==== Sys2Proof/Word.lean ====
section
/-! DEFINITION. The words of the PLUVIA PV256D: bytes on the wire and in the array, and the
16-bit and 32-bit fields made of them. The byte-order helpers stand in Decode.lean. -/

namespace Sys2Proof

/-- One byte: of the wire, of the array, of a record. -/
abbrev Byte := BitVec 8

/-- A two-byte field (a partition's block numbers, a seal offset, a sequence number). -/
abbrev Half := BitVec 16

/-- A four-byte field (an address on the wire, a generation, a CRC). -/
abbrev Word := BitVec 32

end Sys2Proof
end

