-- ==== Sys2Proof/Config.lean ====
section
/-! DEFINITION. What the part fixes: its sizes and capacities (00_scope section 1 and the rules
cited), the identification parameter space, and the model's one free value. -/

namespace Sys2Proof.Config

/-- Bytes of the array, 32 MB (00_scope section 4.4; R20, R21). -/
def arrayBytes : Nat := 0x2000000
/-- Bytes of a bank, 16 MB (00_scope section 4.4; R27). -/
def bankBytes : Nat := 0x1000000
/-- Bytes of a page (00_scope section 4.4). -/
def pageBytes : Nat := 0x100
/-- Bytes of a sector (00_scope section 4.4). -/
def sectorBytes : Nat := 0x1000
/-- Bytes of a block (00_scope section 4.4). -/
def blockBytes : Nat := 0x10000
/-- Blocks of the array and of Port A's logical space (00_scope section 4.4; R67). -/
def blocks : Nat := 512
/-- Entries of the work queue (R73). -/
def queueDepth : Nat := 8
/-- A port's outstanding cap (R44, R50). -/
def outstandingCap : Nat := 4
/-- Job steps outstanding at most (R122 condition 2). -/
def jobWindow : Nat := 2
/-- Records of a completion FIFO (R154). -/
def fifoDepth : Nat := 8
/-- Records of the event log (R156). -/
def logDepth : Nat := 16
/-- Descriptors of the job list (R112). -/
def jobListDepth : Nat := 8
/-- Bytes of a seal page (R32). -/
def sealPageBytes : Nat := 512
/-- Seal pages (R32). -/
def sealPages : Nat := 3
/-- The mark byte that arms continuation (R12). -/
def continuationMark : Byte := 0xA5#8
/-- Bytes of a configuration image (chapter 4.2). -/
def imageBytes : Nat := 205
/-- Bytes of a store slot (chapter 8.3). -/
def slotBytes : Nat := 213

/-- The 57 bytes of the identification parameter space (R171). -/
def identification : List Byte :=
  [0x50, 0x56, 0x32,                          -- vendor, device
   0x02, 0x00, 0x00, 0x00,                    -- array size
   0x01, 0x00, 0x10, 0x00,                    -- page size, sector size
   0x00, 0x01, 0x00, 0x00,                    -- block size
   0x02, 0x10, 0x0C, 0x0D, 0xCD,              -- banks, entries, entry size, settings size, image size
   0x00, 0xD5, 0x02,                          -- slot size, slot count
   0x08, 0x04, 0x02, 0x06,                    -- queue, outstanding cap, job steps, buffers
   0x03, 0x03, 0x02,                          -- buffer caps A, M, JOB
   0x01, 0x00, 0x02, 0x08, 0x04,              -- latch, mailbox slots, FIFO records, record size
   0x10, 0x0A, 0x08, 0x04,                    -- log records, event size, job list, options
   0x03, 0x02, 0x00, 0xA5,                    -- seal pages, seal page size, continuation mark
   0x01, 0x28,                                -- run quantum, suspend latency
   0x00, 0x01, 0x86, 0xA0,                    -- endurance
   0x01, 0x90, 0x00, 0x2D, 0x01, 0x5E, 0x00, 0x32]  -- typical times

/-- FREE VALUE (assumption 9). A commit completion that takes a LAPSED watchdog to DISABLED logs two
events, the commit's own (R142) and WATCHDOG_DISABLED (R110), and no rule says which is first.
True: the commit's event is first. Nothing can evaluate it. -/
opaque commitEventFirst : Bool

end Sys2Proof.Config
end

