-- ==== Sys2Proof/Syntax.lean ====
section
/-! DEFINITION. The commands of the PV256D: one constructor of `Instr` for each row of
spec/opcode_table.json, with its operands, and the code names of chapter 11.2. -/

namespace Sys2Proof

/-- The two serial ports: Port A, the application port, and Port M, the management port. -/
inductive Port where
  | a
  | m
deriving DecidableEq, Repr

/-- The two mailbox slots (chapter 6.2). -/
inductive SlotId where
  | s0
  | s1
deriving DecidableEq, Repr

/-- What the controller has sent in a transaction when SEL_N goes high (R5, R9): the whole bytes that
followed the command byte (fixed fields, then data in or surplus), and whether a part byte came
after them. In a CONTINUATION_TRANSACTION, which has no command byte, they are all the whole bytes. -/
structure Frame where
  bytes : List Byte
  part : Bool := false
deriving DecidableEq, Repr

/-- How the cells of a target answer an operation that ends: for each listed (offset, mask) the bits of
the mask do not reach the value the operation was to give them (R38, R39, R81, R142, R145, R147,
R148). Nothing constrains the list. Offsets count from the base of the target. -/
abbrev StuckBits := List Host.Cell

/-- What RESET_N or a loss of power leaves of the operations it cuts short (R143, R164): the bits of the
ACTIVE and of the SUSPENDED entry's target that keep their old value, and the bytes left in the slot
a COMMIT was writing (`none`: every byte, the CRC included, had been programmed). -/
structure Leftover where
  active : StuckBits := []
  suspended : StuckBits := []
  slot : Option (List Byte) := none
deriving DecidableEq, Repr

/-- The commands of chapter 11.2, as the command byte names them. -/
inductive Command where
  | read | wrapRead | streamRead
  | armWrite | disarmWrite
  | pageProgram | sectorErase | blockErase
  | suspend | resume | cancel
  | readPortStatus | readCompletions
  | setLanes | setWait | setWrap | setIrqMask
  | resetArm | resetPort | dormant | wake
  | identify | readSeal
  | tableRead | tableWriteEntry | tableClearEntry | stageFromActive | commit | swapViews
  | settingsRead | settingsWriteStaged | settingsWriteLive | lockSession
  | mailboxRead | mailboxRelease | mailboxRedirect | mailboxDeny | mailboxDataRead | mailboxDataWrite
  | heartbeat
  | jobLoad | jobStart | jobPause | jobAbort | jobRead | jobClear
  | eventRead | eventPeek
  | sealProgram | sealLock | guardFuse
deriving DecidableEq, Repr

/-- The rows of spec/opcode_table.json. A command of a port stands for the instant at which SEL_N of that
port goes high at the end of its transaction (R10); its operands are the port and the frame. -/
inductive Instr where
  /-- READ (R21): the end of the transaction; its bytes are fetched by DATA_BYTE_FETCH. Frame: address (4). -/
  | read (p : Port) (f : Frame)
  /-- WRAP_READ (R22). Frame: address (4). -/
  | wrapRead (p : Port) (f : Frame)
  /-- STREAM_READ (R23). Frame: address (4), mark (1). -/
  | streamRead (p : Port) (f : Frame)
  /-- CONTINUATION_TRANSACTION (R13). Frame: address (4, the first byte 00h or 01h), mark (1). -/
  | continuationTransaction (p : Port) (f : Frame)
  /-- READ_SEAL (R32). Frame: seal page (1), offset (2). -/
  | readSeal (p : Port) (f : Frame)
  /-- DATA_BYTE_FETCH (R24, R6): the output of the next data-out byte begins. `wire` is what the port has
  received since SEL_N fell, command byte first; it counts at the first fetch of a transaction. -/
  | dataByteFetch (p : Port) (wire : List Byte)
  /-- UNKNOWN_COMMAND (R8): the end of a transaction whose command byte is not recognised. -/
  | unknownCommand (p : Port) (code : Byte) (f : Frame)
  /-- ARM_WRITE (R34). No field. -/
  | armWrite (p : Port) (f : Frame)
  /-- DISARM_WRITE (R34). No field. -/
  | disarmWrite (p : Port) (f : Frame)
  /-- PAGE_PROGRAM (R40). Frame: address (4), data in. -/
  | pageProgram (p : Port) (f : Frame)
  /-- SECTOR_ERASE (R40). Frame: address (4). -/
  | sectorErase (p : Port) (f : Frame)
  /-- BLOCK_ERASE (R40). Frame: address (4). -/
  | blockErase (p : Port) (f : Frame)
  /-- SUSPEND (R86). No field. -/
  | suspend (p : Port) (f : Frame)
  /-- RESUME (R89). No field. -/
  | resume (p : Port) (f : Frame)
  /-- CANCEL (R84). Frame: tag (1). -/
  | cancel (p : Port) (f : Frame)
  /-- READ_PORT_STATUS (R149): the end of the status read. Frame: clear selector (1). -/
  | readPortStatus (p : Port) (f : Frame)
  /-- READ_COMPLETIONS (R155): the end of the status read. No field. -/
  | readCompletions (p : Port) (f : Frame)
  /-- COMPLETION_POP (R155): all of byte 3 of a delivery has been clocked. -/
  | completionPop (p : Port)
  /-- SET_LANES (R11). Frame: value (1). -/
  | setLanes (p : Port) (f : Frame)
  /-- SET_WAIT (R11). Frame: value (1). -/
  | setWait (p : Port) (f : Frame)
  /-- SET_WRAP (R11). Frame: value (1). -/
  | setWrap (p : Port) (f : Frame)
  /-- SET_IRQ_MASK (R11). Frame: value (1). -/
  | setIrqMask (p : Port) (f : Frame)
  /-- RESET_ARM (R14). No field. -/
  | resetArm (p : Port) (f : Frame)
  /-- RESET_PORT (R14, R165). No field. -/
  | resetPort (p : Port) (f : Frame)
  /-- DORMANT (R166). No field. `aWire`: the whole bytes that a Port A transaction in flight has carried at
  this instant (R167 asks whether it has carried one). -/
  | dormant (p : Port) (f : Frame) (aWire : List Byte)
  /-- WAKE (R169). No field. -/
  | wake (p : Port) (f : Frame)
  /-- IDENTIFY (R170): the end of the status read. No field. -/
  | identify (p : Port) (f : Frame)
  /-- TABLE_READ (R62): the end of the status read. Frame: entry index and image (1). -/
  | tableRead (p : Port) (f : Frame)
  /-- TABLE_WRITE_ENTRY (R64). Frame: entry index (1), entry (12). -/
  | tableWriteEntry (p : Port) (f : Frame)
  /-- TABLE_CLEAR_ENTRY (R65). Frame: entry index (1). -/
  | tableClearEntry (p : Port) (f : Frame)
  /-- STAGE_FROM_ACTIVE (R66). No field. -/
  | stageFromActive (p : Port) (f : Frame)
  /-- COMMIT (R140). No field. -/
  | commit (p : Port) (f : Frame)
  /-- SWAP_VIEWS (R70). Frame: entry index (1), entry index (1). -/
  | swapViews (p : Port) (f : Frame)
  /-- SETTINGS_READ (R133): the end of the status read. Frame: image selector (1). -/
  | settingsRead (p : Port) (f : Frame)
  /-- SETTINGS_WRITE_STAGED (R134). Frame: byte offset (1), value (1). -/
  | settingsWriteStaged (p : Port) (f : Frame)
  /-- SETTINGS_WRITE_LIVE (R134). Frame: byte offset (1), value (1). -/
  | settingsWriteLive (p : Port) (f : Frame)
  /-- LOCK_SESSION (R137). No field. -/
  | lockSession (p : Port) (f : Frame)
  /-- MAILBOX_READ (R97): the end of the status read. Frame: slot (1). -/
  | mailboxRead (p : Port) (f : Frame)
  /-- MAILBOX_RELEASE (R100). Frame: slot (1). -/
  | mailboxRelease (p : Port) (f : Frame)
  /-- MAILBOX_REDIRECT (R101). Frame: slot (1), physical address (4). -/
  | mailboxRedirect (p : Port) (f : Frame)
  /-- MAILBOX_DENY (R102). Frame: slot (1). -/
  | mailboxDeny (p : Port) (f : Frame)
  /-- MAILBOX_DATA_READ (R98): the end of the status read. Frame: slot (1), offset (1). -/
  | mailboxDataRead (p : Port) (f : Frame)
  /-- MAILBOX_DATA_WRITE (R103). Frame: slot (1), offset (1), data in. -/
  | mailboxDataWrite (p : Port) (f : Frame)
  /-- RELEASING_SLOT_ENTRY (R100, R17). -/
  | releasingSlotEntry
  /-- HEARTBEAT (R107). No field. -/
  | heartbeat (p : Port) (f : Frame)
  /-- JOB_LOAD (R113). Frame: descriptor (14), option records. -/
  | jobLoad (p : Port) (f : Frame)
  /-- JOB_START (R116). No field. -/
  | jobStart (p : Port) (f : Frame)
  /-- JOB_PAUSE (R117). No field. -/
  | jobPause (p : Port) (f : Frame)
  /-- JOB_ABORT (R118). No field. -/
  | jobAbort (p : Port) (f : Frame)
  /-- JOB_READ (R119): the end of the status read. Frame: list index (1). -/
  | jobRead (p : Port) (f : Frame)
  /-- JOB_CLEAR (R120). No field. -/
  | jobClear (p : Port) (f : Frame)
  /-- EVENT_READ (R157): the end of the status read. Frame: clear selector (1). -/
  | eventRead (p : Port) (f : Frame)
  /-- EVENT_POP (R157): all of byte 9 of a delivery has been clocked on Port M. -/
  | eventPop
  /-- EVENT_PEEK (R158): the end of the status read. No field. -/
  | eventPeek (p : Port) (f : Frame)
  /-- SEAL_PROGRAM (R146). Frame: seal page (1), offset (2), data in. -/
  | sealProgram (p : Port) (f : Frame)
  /-- SEAL_LOCK (R148). Frame: seal page (1). -/
  | sealLock (p : Port) (f : Frame)
  /-- GUARD_FUSE (R144). No field. -/
  | guardFuse (p : Port) (f : Frame)
  /-- ENTRY_START (R78): the start decision on the WAITING entries. -/
  | entryStart
  /-- ENTRY_RESTART (R91): the start decision on the SUSPENDED entry. -/
  | entryRestart
  /-- OPERATION_COMPLETION (R82). `stuck`: the bits of the target that the check of R81 finds wrong. -/
  | operationCompletion (stuck : StuckBits)
  /-- SUSPEND_TAKEN (R88). -/
  | suspendTaken
  /-- RUN_QUANTUM_EXPIRY (R87). -/
  | runQuantumExpiry
  /-- HOLD_DEADLINE_EXPIRY (R90). -/
  | holdDeadlineExpiry
  /-- TRAP_DEADLINE_EXPIRY (R104) of one slot. -/
  | trapDeadlineExpiry (slot : SlotId)
  /-- WATCHDOG_WARNING_POINT (R106). -/
  | watchdogWarningPoint
  /-- WATCHDOG_LAPSE (R108). -/
  | watchdogLapse
  /-- JOB_STEP_ISSUE (R123). -/
  | jobStepIssue
  /-- CHUNK_READ (R127). -/
  | chunkRead
  /-- POWER_ON (R161). `left`: what the supply's fall left of an operation, where no POWER_LOSS reported it. -/
  | powerOn (left : Leftover)
  /-- RESET_N_ASSERT (R162): the falling edge of RESET_N. -/
  | resetNAssert (left : Leftover)
  /-- RESET_N_RELEASE (R162): the rising edge of RESET_N. -/
  | resetNRelease
  /-- TRANSACTION_BEGIN (R2): the falling edge of SEL_N. -/
  | transactionBegin (p : Port)
  /-- IGNORED_TRANSACTION_END (R2): the rising edge of SEL_N at the end of an ignored or null transaction. -/
  | ignoredTransactionEnd (p : Port)
  /-- TICK (R15). -/
  | tick
  /-- GUARD_N_CHANGE (R136): the new level of the pin, `true` for high. -/
  | guardNChange (high : Bool)
  /-- POWER_LOSS (R173). -/
  | powerLoss (left : Leftover)
deriving DecidableEq, Repr

end Sys2Proof
end

