-- ==== Sys2Proof/Decode.lean ====
section
/-! DEFINITION. Decoding: byte order (00_scope section 4.5), the command codes of chapter 11.2 and
the ports that recognise them (R8), and the host's `decodeTableWord`. -/

namespace Sys2Proof

/-- The byte at position `i` of a frame; 00h past its end (never read there once the frame is complete). -/
def byteAt (bs : List Byte) (i : Nat) : Byte := bs.getD i 0

/-- Two bytes, most significant first (00_scope section 4.5). -/
def be16 (bs : List Byte) (i : Nat) : Half := byteAt bs i ++ byteAt bs (i + 1)

/-- Four bytes, most significant first (00_scope section 4.5). -/
def be32 (bs : List Byte) (i : Nat) : Word := be16 bs i ++ be16 bs (i + 2)

/-- The two bytes of a half word, most significant first. -/
def bytes16 (h : Half) : List Byte := [h.extractLsb' 8 8, h.extractLsb' 0 8]

/-- The four bytes of a word, most significant first. -/
def bytes32 (w : Word) : List Byte :=
  [w.extractLsb' 24 8, w.extractLsb' 16 8, w.extractLsb' 8 8, w.extractLsb' 0 8]

/-- The code of each command (chapter 11.2). -/
def commandCode : Command → Byte
  | .read => 0x11 | .wrapRead => 0x14 | .streamRead => 0x1C
  | .armWrite => 0x21 | .disarmWrite => 0x22
  | .pageProgram => 0x30 | .sectorErase => 0x38 | .blockErase => 0x3B
  | .suspend => 0x41 | .resume => 0x42 | .cancel => 0x44
  | .readPortStatus => 0x50 | .readCompletions => 0x51
  | .setLanes => 0x60 | .setWait => 0x61 | .setWrap => 0x62 | .setIrqMask => 0x63
  | .resetArm => 0x70 | .resetPort => 0x71 | .dormant => 0x7A | .wake => 0x7B
  | .identify => 0x80 | .readSeal => 0x81
  | .tableRead => 0x90 | .tableWriteEntry => 0x91 | .tableClearEntry => 0x92
  | .stageFromActive => 0x93 | .commit => 0x94 | .swapViews => 0x95
  | .settingsRead => 0x96 | .settingsWriteStaged => 0x97 | .settingsWriteLive => 0x98
  | .lockSession => 0x9A
  | .mailboxRead => 0xA0 | .mailboxRelease => 0xA1 | .mailboxRedirect => 0xA2
  | .mailboxDeny => 0xA3 | .mailboxDataRead => 0xA4 | .mailboxDataWrite => 0xA5
  | .heartbeat => 0xB0
  | .jobLoad => 0xC0 | .jobStart => 0xC1 | .jobPause => 0xC2 | .jobAbort => 0xC3
  | .jobRead => 0xC4 | .jobClear => 0xC5
  | .eventRead => 0xD0 | .eventPeek => 0xD1
  | .sealProgram => 0xE0 | .sealLock => 0xE1 | .guardFuse => 0xE2

/-- The command a byte names; `none` for a code that belongs to no command (chapter 11.2, R8). -/
def decodeCommand (b : Byte) : Option Command :=
  match b.toNat with
  | 0x11 => some .read | 0x14 => some .wrapRead | 0x1C => some .streamRead
  | 0x21 => some .armWrite | 0x22 => some .disarmWrite
  | 0x30 => some .pageProgram | 0x38 => some .sectorErase | 0x3B => some .blockErase
  | 0x41 => some .suspend | 0x42 => some .resume | 0x44 => some .cancel
  | 0x50 => some .readPortStatus | 0x51 => some .readCompletions
  | 0x60 => some .setLanes | 0x61 => some .setWait | 0x62 => some .setWrap
  | 0x63 => some .setIrqMask
  | 0x70 => some .resetArm | 0x71 => some .resetPort
  | 0x7A => some .dormant | 0x7B => some .wake
  | 0x80 => some .identify | 0x81 => some .readSeal
  | 0x90 => some .tableRead | 0x91 => some .tableWriteEntry | 0x92 => some .tableClearEntry
  | 0x93 => some .stageFromActive | 0x94 => some .commit | 0x95 => some .swapViews
  | 0x96 => some .settingsRead | 0x97 => some .settingsWriteStaged
  | 0x98 => some .settingsWriteLive | 0x9A => some .lockSession
  | 0xA0 => some .mailboxRead | 0xA1 => some .mailboxRelease | 0xA2 => some .mailboxRedirect
  | 0xA3 => some .mailboxDeny | 0xA4 => some .mailboxDataRead | 0xA5 => some .mailboxDataWrite
  | 0xB0 => some .heartbeat
  | 0xC0 => some .jobLoad | 0xC1 => some .jobStart | 0xC2 => some .jobPause
  | 0xC3 => some .jobAbort | 0xC4 => some .jobRead | 0xC5 => some .jobClear
  | 0xD0 => some .eventRead | 0xD1 => some .eventPeek
  | 0xE0 => some .sealProgram | 0xE1 => some .sealLock | 0xE2 => some .guardFuse
  | _ => none

/-- The commands that Port M alone recognises (R8). -/
def portMOnly : Command → Bool
  | .dormant | .tableRead | .tableWriteEntry | .tableClearEntry | .stageFromActive | .commit
  | .swapViews | .settingsRead | .settingsWriteStaged | .settingsWriteLive | .lockSession
  | .mailboxRead | .mailboxRelease | .mailboxRedirect | .mailboxDeny | .mailboxDataRead
  | .mailboxDataWrite | .heartbeat | .jobLoad | .jobStart | .jobPause | .jobAbort | .jobRead
  | .jobClear | .eventRead | .eventPeek | .sealProgram | .sealLock | .guardFuse => true
  | .read | .wrapRead | .streamRead | .armWrite | .disarmWrite | .pageProgram | .sectorErase
  | .blockErase | .suspend | .resume | .cancel | .readPortStatus | .readCompletions | .setLanes
  | .setWait | .setWrap | .setIrqMask | .resetArm | .resetPort | .wake | .identify
  | .readSeal => false

/-- Whether a port recognises a command (R8). -/
def recognises : Port → Command → Bool
  | .m, _ => true
  | .a, c => !portMOnly c

/-- The command that a port reads from a command byte (R8). -/
def decodeFor (p : Port) (b : Byte) : Option Command :=
  match decodeCommand b with
  | some c => if recognises p c then some c else none
  | none => none

/-- A first byte that a port with continuation ARMED takes as the first address byte (R13). -/
def isAddressLead (b : Byte) : Bool := b == 0x00#8 || b == 0x01#8

/-- The host's reading of a table word. No row of spec/opcode_table.json gives bits (its "fields" are
empty and it has no "fixed"), so no word spells a command (assumption 1). -/
def decodeTableWord (_nbits _w : Nat) : Option Instr := none

end Sys2Proof
end

