-- ==== Sys2Proof/Machine/Memory.lean ====
section
/-! DEFINITION. Addressed storage in one canonical form: the array, the seal pages and the page buffers.
An unlisted address reads FFh, the erased value (R19, R32, R37; assumption 3). -/

namespace Sys2Proof.Machine

/-- Cells with strictly rising addresses, none of them FFh. -/
abbrev Memory := List Host.Cell

/-- What an unlisted address reads as: an erased byte (R19), a seal byte never programmed (R32), a
buffer byte that nothing was sent to (R37). -/
def erasedByte : Byte := 0xFF#8

/-- One byte of a memory. -/
def memRead (m : Memory) (a : Nat) : Byte := (m.lookup a).getD erasedByte

/-- Writes one byte, keeping the canonical form. -/
def memWrite : Memory → Nat → Byte → Memory
  | [], a, b => if b = erasedByte then [] else [(a, b)]
  | c :: m, a, b =>
    if a < c.1 then (if b = erasedByte then c :: m else (a, b) :: c :: m)
    else if a = c.1 then (if b = erasedByte then m else (a, b) :: m)
    else c :: memWrite m a b

/-- The canonical form, from a lower bound on the addresses. -/
def memWfFrom : Nat → Memory → Bool
  | _, [] => true
  | lo, c :: m => decide (lo ≤ c.1) && decide (c.2 ≠ erasedByte) && memWfFrom (c.1 + 1) m

/-- The canonical form: addresses strictly rising, no cell FFh. -/
def Memory.wf (m : Memory) : Bool := memWfFrom 0 m

/-- The bits of the byte at an offset of a target that an operation leaves wrong. -/
def stuckMask (stuck : StuckBits) (off : Nat) : Byte := (stuck.lookup off).getD 0

/-- What a program leaves in one byte (R38, R81): the AND of old and new, but for the stuck bits, which
keep their old value. -/
def programmedByte (old new mask : Byte) : Byte := (old &&& new) ||| (old &&& mask)

/-- What an erase leaves in one byte (R39): FFh, but for the stuck bits, which keep their old value. -/
def erasedWith (old mask : Byte) : Byte := old ||| ~~~mask

/-- A program of a page buffer at `base` (R38, R147). A buffer byte of FFh changes nothing. -/
def memProgram (m : Memory) (base : Nat) (buf : Memory) (stuck : StuckBits) : Memory :=
  buf.foldl (fun m c =>
    memWrite m (base + c.1) (programmedByte (memRead m (base + c.1)) c.2 (stuckMask stuck c.1))) m

/-- An erase of `len` bytes at `base` (R39). -/
def memErase (m : Memory) (base len : Nat) (stuck : StuckBits) : Memory :=
  m.filterMap fun c =>
    if base ≤ c.1 ∧ c.1 < base + len then
      let v := erasedWith c.2 (stuckMask stuck (c.1 - base))
      if v = erasedByte then none else some (c.1, v)
    else some c

/-- The 256 bytes of a page as buffer content (R123). -/
def memPage (m : Memory) (base : Nat) : Memory :=
  m.filterMap fun c =>
    if base ≤ c.1 ∧ c.1 < base + Config.pageBytes then some (c.1 - base, c.2) else none

/-- A buffer filled with one value (R123, FILL). -/
def memFill (v : Byte) : Memory :=
  if v = erasedByte then [] else (List.range Config.pageBytes).map fun i => (i, v)

/-- Positions of a 256-byte holding area that hold a byte; any byte may be held (R7). -/
abbrev Latch := List Host.Cell

/-- Puts a byte at a position of the latch, over what it held, positions rising (R7). -/
def latchPut : Latch → Nat → Byte → Latch
  | [], i, b => [(i, b)]
  | c :: l, i, b =>
    if i < c.1 then (i, b) :: c :: l
    else if i = c.1 then (i, b) :: l
    else c :: latchPut l i b

/-- The n-th data byte goes to position (s + n) modulo 256 (R7). -/
def latchFill (l : Latch) (s : Nat) : List Byte → Latch
  | [] => l
  | b :: bs => latchFill (latchPut l (s % 256) b) (s + 1) bs

/-- Copies each latch position that holds a byte into a buffer at the same offset (R37, R103, R146). -/
def latchCopy (l : Latch) (buf : Memory) : Memory :=
  l.foldl (fun m c => memWrite m c.1 c.2) buf

/-- The received-byte count saturates at 65,535 (R7). -/
def receivedCount (data : List Byte) : Nat := min data.length 65535

end Sys2Proof.Machine
end

