-- ==== Sys2Proof/Machine/Image.lean ====
section
/-! DEFINITION. The configuration image: partition entries, settings, their bytes, the CRC-32 and the
store slots (chapters 4.1, 4.2, 8.1, 8.3), and the factory image. -/

namespace Sys2Proof.Machine

/-- A partition entry, its 12 bytes kept as written (chapter 4.1, R54, R55). -/
structure PartEntry where
  flags : Byte
  physBase : Half
  length : Half
  viewBase : Half
  aRights : Byte
  mRights : Byte
  trapPolicy : Byte
  defaultAction : Byte
  aliasIndex : Byte
deriving DecidableEq, Repr

/-- The settings record (R132), 13 bytes. -/
structure Settings where
  aLanes : Byte
  mLanes : Byte
  aWait : Byte
  mWait : Byte
  aWrap : Byte
  mWrap : Byte
  aIrqMask : Byte
  mIrqMask : Byte
  filler : Byte
  trapTimeout : Byte
  watchdogInterval : Byte
  holdLimit : Byte
  guardMode : Byte
deriving DecidableEq, Repr

/-- A configuration image (chapter 4.2). -/
structure Image where
  settings : Settings
  entries : Vector PartEntry 16
deriving DecidableEq, Repr

/-- What a slot's bytes are (R138). -/
inductive SlotClass where
  | blank
  | valid
  | torn
deriving DecidableEq, Repr

/-- VALID, bit 0 of the flags (chapter 4.1). -/
def entryValid (e : PartEntry) : Bool := e.flags.getLsbD 0
/-- SWAPPABLE, bit 1 of the flags (chapter 4.1). -/
def entrySwappable (e : PartEntry) : Bool := e.flags.getLsbD 1
/-- Whether the entry has a view (R54). -/
def entryHasView (e : PartEntry) : Bool := e.viewBase != 0xFFFF#16

/-- The cleared pattern (R55). -/
def clearedEntry : PartEntry :=
  { flags := 0x00, physBase := 0xFFFF, length := 0xFFFF, viewBase := 0xFFFF, aRights := 0xFF,
    mRights := 0xFF, trapPolicy := 0xFF, defaultAction := 0xFF, aliasIndex := 0xFF }

/-- The 12 bytes of an entry (chapter 4.1). -/
def entryBytes (e : PartEntry) : List Byte :=
  [e.flags] ++ bytes16 e.physBase ++ bytes16 e.length ++ bytes16 e.viewBase ++
    [e.aRights, e.mRights, e.trapPolicy, e.defaultAction, e.aliasIndex]

/-- The entry that 12 bytes describe (chapter 4.1). -/
def entryOf (bs : List Byte) : PartEntry :=
  { flags := byteAt bs 0, physBase := be16 bs 1, length := be16 bs 3, viewBase := be16 bs 5,
    aRights := byteAt bs 7, mRights := byteAt bs 8, trapPolicy := byteAt bs 9,
    defaultAction := byteAt bs 10, aliasIndex := byteAt bs 11 }

/-- The 13 bytes of the settings record (R132). -/
def settingsBytes (t : Settings) : List Byte :=
  [t.aLanes, t.mLanes, t.aWait, t.mWait, t.aWrap, t.mWrap, t.aIrqMask, t.mIrqMask, t.filler,
    t.trapTimeout, t.watchdogInterval, t.holdLimit, t.guardMode]

/-- The settings that 13 bytes describe (R132). -/
def settingsOf (bs : List Byte) : Settings :=
  { aLanes := byteAt bs 0, mLanes := byteAt bs 1, aWait := byteAt bs 2, mWait := byteAt bs 3,
    aWrap := byteAt bs 4, mWrap := byteAt bs 5, aIrqMask := byteAt bs 6, mIrqMask := byteAt bs 7,
    filler := byteAt bs 8, trapTimeout := byteAt bs 9, watchdogInterval := byteAt bs 10,
    holdLimit := byteAt bs 11, guardMode := byteAt bs 12 }

/-- Writes one byte of the settings record (R134); an offset past 12 writes nothing. -/
def settingsPut (t : Settings) (off : Nat) (v : Byte) : Settings :=
  match off with
  | 0 => { t with aLanes := v }
  | 1 => { t with mLanes := v }
  | 2 => { t with aWait := v }
  | 3 => { t with mWait := v }
  | 4 => { t with aWrap := v }
  | 5 => { t with mWrap := v }
  | 6 => { t with aIrqMask := v }
  | 7 => { t with mIrqMask := v }
  | 8 => { t with filler := v }
  | 9 => { t with trapTimeout := v }
  | 10 => { t with watchdogInterval := v }
  | 11 => { t with holdLimit := v }
  | 12 => { t with guardMode := v }
  | _ => t

/-- The range of each settings byte (R132). -/
def settingInRange (off : Nat) (v : Byte) : Bool :=
  match off with
  | 0 | 1 => v.toNat ≤ 2
  | 2 | 3 => v.toNat ≤ 15
  | 4 | 5 => v.toNat ≤ 3
  | 11 => 1 ≤ v.toNat
  | 12 => v.toNat ≤ 1
  | _ => true

/-- The 205 bytes of an image (chapter 4.2). -/
def imageToBytes (im : Image) : List Byte :=
  settingsBytes im.settings ++ im.entries.toList.flatMap entryBytes

/-- The image that 205 bytes describe (chapter 4.2). -/
def imageOf (bs : List Byte) : Image :=
  { settings := settingsOf bs
    entries := Vector.ofFn fun i => entryOf (bs.drop (13 + 12 * i.val)) }

/-- One bit of the CRC-32: shift toward the low end, and combine when the bit shifted out is 1 (R129). -/
def crcBit (r : Word) : Word := if r.getLsbD 0 then (r >>> 1) ^^^ 0xEDB88320#32 else r >>> 1

/-- One byte of the CRC-32 (R129). -/
def crcByte (r : Word) (b : Byte) : Word :=
  crcBit (crcBit (crcBit (crcBit (crcBit (crcBit (crcBit (crcBit (r ^^^ b.setWidth 32))))))))

/-- Hands a word on by its value: `withValue w k = k w` (Laws/Image.lean). Lean's kernel then evaluates a
long run one byte at a time, where it would otherwise build one deep term. -/
def withValue {α : Type} (w : Word) (k : Word → α) : α :=
  match w.toNat with
  | 0 => k 0#32
  | n + 1 => k (BitVec.ofNat 32 (n + 1))

/-- The running register after some bytes, in ascending order (R129). -/
def crcRun (r : Word) : List Byte → Word
  | [] => r
  | b :: bs => withValue (crcByte r b) fun r' => crcRun r' bs

/-- The value a register stands for after the last byte (R129). -/
def crcFinal (r : Word) : Word := r ^^^ 0xFFFFFFFF#32

/-- CRC-32 from a seed (R129). -/
def crc32 (seed : Word) (bs : List Byte) : Word := crcFinal (crcRun seed bs)

/-- Bytes 0 to 208 of a slot: the generation and the image (chapter 8.3). -/
def slotBody (gen : Word) (im : Image) : List Byte := bytes32 gen ++ imageToBytes im

/-- The 213 bytes of a slot that holds an image (chapter 8.3). -/
def slotOf (gen : Word) (im : Image) : List Byte :=
  slotBody gen im ++ bytes32 (crc32 0xFFFFFFFF#32 (slotBody gen im))

/-- A slot all of FFh (R138). -/
def blankSlot : List Byte := List.replicate Config.slotBytes 0xFF#8

/-- The generation field of a slot (chapter 8.3). -/
def slotGeneration (bs : List Byte) : Word := be32 bs 0

/-- The image field of a slot, its 205 bytes (chapter 8.3). -/
def slotImageBytes (bs : List Byte) : List Byte := (bs.drop 4).take Config.imageBytes

/-- The CRC field of a slot equals the CRC-32 over its bytes 0 to 208 (R138). -/
def slotCrcOk (bs : List Byte) : Bool := be32 bs 209 == crc32 0xFFFFFFFF#32 (bs.take 209)

/-- Classification of a slot from its bytes (R138). -/
def classify (bs : List Byte) : SlotClass :=
  if bs.all (· == 0xFF#8) then .blank
  else if slotGeneration bs != 0#32 && slotCrcOk bs then .valid
  else .torn

/-- The code of a slot state in status byte 9 (R138, R151). -/
def slotClassCode : SlotClass → Nat
  | .blank => 0
  | .valid => 1
  | .torn => 2

/-- A slot's bytes brought to 213: cut off, or filled with FFh. -/
def slotFit (bs : List Byte) : List Byte := (bs ++ blankSlot).take Config.slotBytes

/-- The bytes that a slot holds after a write that leaves some bits wrong (R142). -/
def slotWithStuck (bs : List Byte) (stuck : StuckBits) : List Byte :=
  bs.mapIdx fun i b => b ^^^ stuckMask stuck i

/-- The bytes that a commit leaves in the slot it did not complete: they never classify as VALID, since a slot
is VALID only if a commit wrote it in full (R56, R142, R143); bytes that would are taken as an erased slot
(assumption 10). -/
def unfinishedSlot (bs : List Byte) : List Byte := if classify bs = .valid then blankSlot else bs

/-- The factory settings (R132). -/
def factorySettings : Settings :=
  { aLanes := 0, mLanes := 0, aWait := 8, mWait := 8, aWrap := 2, mWrap := 2, aIrqMask := 0,
    mIrqMask := 0, filler := 0xFF, trapTimeout := 50, watchdogInterval := 0, holdLimit := 20,
    guardMode := 0 }

/-- Entry 0 of the factory image (chapter 4.9). -/
def factoryEntry : PartEntry :=
  { flags := 0x01, physBase := 0, length := 512, viewBase := 0, aRights := 2, mRights := 2,
    trapPolicy := 0, defaultAction := 0, aliasIndex := 0xFF }

/-- The factory image (R132, chapter 4.9). -/
def factoryImage : Image :=
  { settings := factorySettings
    entries := Vector.ofFn fun i => if i.val = 0 then factoryEntry else clearedEntry }

end Sys2Proof.Machine
end

