-- ==== Sys2Proof/Machine/Partitions.lean ====
section
/-! DEFINITION. The partition table at work: translation (R58), the partition of a physical block (R59)
and validation at commit (R67, R68). -/

namespace Sys2Proof.Machine

/-- The blocks of a range [base, base + len) that two ranges share (R67 codes 2 and 4). -/
def rangesMeet (b1 l1 b2 l2 : Nat) : Bool := max b1 b2 < min (b1 + l1) (b2 + l2)

/-- The entry is valid, has a view, and its view covers a logical block (R58). -/
def viewCovers (e : PartEntry) (b : Nat) : Bool :=
  entryValid e && entryHasView e &&
    decide (e.viewBase.toNat ≤ b) && decide (b < e.viewBase.toNat + e.length.toNat)

/-- The entry is valid and its physical range covers a physical block (R59). -/
def physCovers (e : PartEntry) (p : Nat) : Bool :=
  entryValid e && decide (e.physBase.toNat ≤ p) && decide (p < e.physBase.toNat + e.length.toNat)

/-- The entry of lowest index with a property; in an image that passes validation a covering entry is
unique (R56, R58, R59). -/
def findEntry (im : Image) (has : PartEntry → Bool) : Option (Fin 16) :=
  (List.finRange 16).find? fun i => has im.entries[i]

/-- The covering entry of a logical address (R58). -/
def coveringEntry (im : Image) (l : Nat) : Option (Fin 16) :=
  findEntry im fun e => viewCovers e (l / Config.blockBytes)

/-- The physical address of a logical address in a covering entry (R58). -/
def physicalOf (e : PartEntry) (l : Nat) : Nat :=
  (e.physBase.toNat + l / Config.blockBytes - e.viewBase.toNat) * Config.blockBytes
    + l % Config.blockBytes

/-- Translation of a logical address: the covering entry and the physical address (R58). -/
def translate (im : Image) (l : Nat) : Option (Fin 16 × Nat) :=
  match coveringEntry im l with
  | some i => some (i, physicalOf im.entries[i] l)
  | none => none

/-- The partition of a physical address (R59); `none` is unpartitioned space. -/
def partitionOf (im : Image) (p : Nat) : Option (Fin 16) :=
  findEntry im fun e => physCovers e (p / Config.blockBytes)

/-- The entry an alias field names, when it is an index of the table. -/
def aliasEntry (im : Image) (i : Byte) : Option PartEntry :=
  if h : i.toNat < 16 then some im.entries[i.toNat] else none

/-- Code 6 of R67: the alias fault of the entry at index `i`. -/
def aliasFault (im : Image) (i : Fin 16) (e : PartEntry) : Bool :=
  (e.aliasIndex != 0xFF#8 || entrySwappable e) &&
    (e.aliasIndex == 0xFF#8 || e.aliasIndex.toNat == i.val ||
      match aliasEntry im e.aliasIndex with
      | none => true
      | some q =>
        !entryValid q || q.aliasIndex.toNat != i.val || q.length != e.length ||
          !entrySwappable e || !entrySwappable q || !entryHasView e || !entryHasView q)

/-- A valid entry of lower index that meets a condition (R67 codes 2 and 4). -/
def lowerEntry (im : Image) (i : Fin 16) (has : PartEntry → Bool) : Bool :=
  (List.finRange 16).any fun j =>
    decide (j.val < i.val) && entryValid im.entries[j] && has im.entries[j]

/-- The fault code of the valid entry at an index, the first that holds; 0 for none (R67). -/
def entryFault (im : Image) (i : Fin 16) : Nat :=
  let e := im.entries[i]
  if e.physBase.toNat + e.length.toNat > Config.blocks then 1
  else if lowerEntry im i fun q =>
      rangesMeet e.physBase.toNat e.length.toNat q.physBase.toNat q.length.toNat then 2
  else if entryHasView e && decide (e.viewBase.toNat + e.length.toNat > Config.blocks) then 3
  else if entryHasView e && lowerEntry im i fun q =>
      entryHasView q && rangesMeet e.viewBase.toNat e.length.toNat q.viewBase.toNat q.length.toNat
    then 4
  else if (e.aRights == 0#8) == entryHasView e then 5
  else if aliasFault im i e then 6
  else if e.trapPolicy != 0#8 && e.aRights != 2#8 then 7
  else 0

/-- The first failing valid entry, in ascending index order, with its code (R68). -/
def tableFault (im : Image) : Option (Fin 16 × Nat) :=
  (List.finRange 16).findSome? fun i =>
    if entryValid im.entries[i] && entryFault im i != 0 then some (i, entryFault im i) else none

/-- The validation detail (R69): index in the high nibble, code in the low one, 00h when it passes. -/
def validationDetail (im : Image) : Byte :=
  match tableFault im with
  | some (i, code) => BitVec.ofNat 8 (16 * i.val + code)
  | none => 0x00

/-- The field ranges that TABLE_WRITE_ENTRY checks (R64). -/
def entryInRange (e : PartEntry) : Bool :=
  decide (e.flags.toNat < 4) &&
    (!entryValid e ||
      (decide (e.physBase.toNat ≤ 511) && decide (1 ≤ e.length.toNat) && decide (e.length.toNat ≤ 512)
        && (decide (e.viewBase.toNat ≤ 511) || e.viewBase == 0xFFFF#16)
        && decide (e.aRights.toNat ≤ 2)
        && decide (1 ≤ e.mRights.toNat) && decide (e.mRights.toNat ≤ 2)
        && decide (e.trapPolicy.toNat ≤ 2) && decide (e.defaultAction.toNat ≤ 1)
        && (decide (e.aliasIndex.toNat ≤ 15) || e.aliasIndex == 0xFF#8)))

end Sys2Proof.Machine
end

