-- ==== Sys2Proof/Machine/State.lean ====
section
/-! DEFINITION. The state of the PV256D: every register, latch, FIFO, counter, timer, image and pin that
the manual gives it, the queue of waiting commands, and the state after power-on of a shipped device. -/

namespace Sys2Proof.Machine

/-- Why the machine stops. The manual gives every event an effect (a refusal code, a filler byte and a
dropped event are effects), so no meaning faults and the type has no constructor. -/
inductive Fault where
deriving DecidableEq, Repr

/-- Why a command has no meaning. -/
inductive Refusal where
  /-- Raised only by an arm of `exec` that has no meaning yet; safe. No arm raises it now. -/
  | notModelled (mnemonic : String)
deriving DecidableEq, Repr

/-- The lane mode of a port (R3). -/
inductive LaneMode where
  | one
  | fourData
  | fourAll
deriving DecidableEq, Repr

/-- The wrap length of a port: 16, 32, 64 or 256 bytes (R11). -/
inductive WrapLen where
  | b16
  | b32
  | b64
  | b256
deriving DecidableEq, Repr

/-- The levels that a port drives while one byte travels: for each clock, the lanes driven (IO0 to IO3)
with their levels. A lane that is not listed is undriven (R3). -/
abbrev Signal := List (List (Fin 4 × Bool))

/-- The transaction states of R4. -/
inductive TxState where
  | idle
  | command
  | address
  | mark
  | wait
  | data
deriving DecidableEq, Repr

/-- A memory read or status read with its fixed fields (R5). -/
inductive ReadOp where
  | read (addr : Word)
  | wrapRead (addr : Word)
  /-- STREAM_READ, or a continuation transaction (`cont`). -/
  | streamRead (addr : Word) (cont : Bool)
  | readSeal (page : Byte) (offset : Half)
  | portStatus (selector : Byte)
  | completions
  | identify
  | table (field : Byte)
  | settings (selector : Byte)
  | mailbox (slot : Byte)
  | mailboxData (slot : Byte) (offset : Byte)
  | job (index : Byte)
  | events (selector : Byte)
  | peek
deriving DecidableEq, Repr

/-- A delivery of READ_COMPLETIONS, EVENT_READ or EVENT_PEEK under way: the chosen record's bytes, and
whether the record is still in its FIFO or log and is to be popped (R155, R157). -/
structure Delivery where
  bytes : List Byte
  present : Bool
deriving DecidableEq, Repr

/-- A transaction in progress: what the port sampled at the falling edge of SEL_N (R3, R14, R149), the
bytes it has taken in and the state they have brought it to (R4), and the read it has decoded once
data-out has begun. -/
structure Tx where
  lane : LaneMode
  wait : BitVec 4
  wrap : WrapLen
  contArmed : Bool           -- continuation ARMED at the falling edge (R13, R149)
  resetArmed : Bool          -- reset-arm ARMED at the falling edge (R14)
  dormant : Bool             -- the transaction began while the device was DORMANT (R168)
  phase : TxState            -- R4
  wire : List Byte           -- the whole bytes clocked in so far, wait bytes included (R4)
  readOp : Option ReadOp     -- the read whose bytes are being fetched
  fetched : Nat              -- data-out bytes fetched so far (the n of R21)
  delivery : Option Delivery
  peekAt : Nat               -- EVENT_PEEK's next position (R158)
  lostSince : Bool           -- a completion record was lost since the last fetch of byte 0 (R152)
deriving DecidableEq, Repr

/-- The SEL_N pin of a port and what the port makes of it (R2). -/
inductive Sel where
  /-- SEL_N high: no transaction. -/
  | high
  /-- SEL_N low, every clock edge ignored until it has gone high. -/
  | ignored
  /-- SEL_N low, a transaction in progress. -/
  | opened (tx : Tx)
deriving DecidableEq, Repr

/-- The three read flags of a port (R30). -/
structure ReadFlags where
  masked : Bool
  collided : Bool
  suspendedRange : Bool
deriving DecidableEq, Repr

/-- The refusal codes of Table 9-1. -/
inductive RefusalCode where
  | none
  | unknownCommand
  | frameTorn
  | notArmed
  | addressRange
  | noData
  | unmapped
  | protected_
  | guarded
  | storeUpdating
  | portLimit
  | noBuffer
  | trapFull
  | queueFull
  | notFound
  | notOwner
  | suspendRefused
  | resumeRefused
  | tableInvalid
  | badArgument
  | busy
  | jobListFull
  | jobState
  | sequence
  | interrupted
  | sealLocked
  | slotState
  | dirty
  | entryState
  | storeExhausted
deriving DecidableEq, Repr

/-- The origin of a queue entry (00_scope section 4.1). -/
inductive Origin where
  | a
  | m
  | job
deriving DecidableEq, Repr

/-- The kinds of a queue entry (R74). -/
inductive Kind where
  | pageProgram
  | sectorErase
  | blockErase
  | commit
  | guardFuse
  | sealProgram
  | sealLock
deriving DecidableEq, Repr

/-- The target of a queue entry (R74). -/
inductive Target where
  /-- COMMIT and GUARD_FUSE. -/
  | nothing
  /-- A physical range of the array. -/
  | array (base len : Nat)
  /-- A seal page, with the base of the half a SEAL_PROGRAM writes. -/
  | sealPage (page half : Nat)
deriving DecidableEq, Repr

/-- The states of a queue entry (R75). -/
inductive EntryState where
  | waiting
  | active
  | suspended
deriving DecidableEq, Repr

/-- A queue entry (chapter 5.1). -/
structure Entry where
  tag : Byte
  origin : Origin
  kind : Kind
  target : Target
  buffer : Option (Fin 6)
  state : EntryState
  resumePending : Bool
  redirected : Bool
  auto : Bool
  orphan : Bool
deriving DecidableEq, Repr

/-- The outcomes of a completion record (chapter 9.3). -/
inductive OpOutcome where
  | done
  | failed
  | denied
  | cancelled
deriving DecidableEq, Repr

/-- A completion record (chapter 9.3). -/
structure Completion where
  tag : Byte
  kind : Kind
  outcome : OpOutcome
  redirected : Bool
  auto : Bool
deriving DecidableEq, Repr

/-- The state each port interface keeps (chapter 1.1). -/
structure PortState where
  sel : Sel
  lane : LaneMode
  wait : BitVec 4
  wrap : WrapLen
  irqMask : Byte
  wel : Bool
  contArmed : Bool
  resetArmed : Bool
  latch : Latch
  received : Nat             -- the received-byte count (R7)
  flags : ReadFlags
  lastRefusal : RefusalCode
  refusalNew : Bool
  lastTag : Byte
  tagNext : Byte             -- the tag counter (R48)
  fifo : List Completion     -- oldest first (R154)
  completionLost : Bool
  driven : Option Signal     -- the data-out byte on the lanes; none when no lane is driven (R3)
deriving DecidableEq, Repr

/-- An owned page buffer: the origin it is counted against, and its content (R51). -/
structure PageBuf where
  origin : Origin
  data : Memory
deriving DecidableEq, Repr

/-- The states of a mailbox slot (chapter 6.2). -/
inductive SlotState where
  | empty
  | held
  | releasing
deriving DecidableEq, Repr

/-- A mailbox slot (R96). -/
structure MailSlot where
  state : SlotState
  tag : Byte
  kind : Kind
  entry : Nat                -- index of the covering entry
  logical : Nat
  physical : Nat
  deadline : Option Nat      -- ticks left of the trap deadline; none when it does not run
  release : Bool             -- the captured default action: true for RELEASE
  count : Nat                -- the data count
  redirected : Bool
  auto : Bool
  buffer : Option (Fin 6)
deriving DecidableEq, Repr

/-- The watchdog states (chapter 6.4). -/
inductive WatchState where
  | disabled
  | armed
  | lapsed
deriving DecidableEq, Repr

/-- The management watchdog: its state, the ticks left to the deadline and to the warning point, WARN. -/
structure Watchdog where
  state : WatchState
  left : Nat
  warnLeft : Nat
  warn : Bool
deriving DecidableEq, Repr

/-- The suspend state of the sequencer (chapter 5.5). -/
inductive SuspendState where
  | none
  | pending
  | taking
deriving DecidableEq, Repr

/-- What an ACTIVE COMMIT found at its start (R141). -/
inductive CommitRun where
  /-- The staging image equals the selected slot's. -/
  | unchanged
  /-- The slot being written. -/
  | writing (slot : SlotId)
deriving DecidableEq, Repr

/-- The kinds of a job (chapter 7.1). -/
inductive JobKind where
  | copy
  | fill
  | eraseRange
  | verify
  | digest
deriving DecidableEq, Repr

/-- The states of a descriptor (chapter 7.1). -/
inductive JobState where
  | loaded
  | running
  | done
  | faulted
  | cancelled
deriving DecidableEq, Repr

/-- The fault codes of a descriptor (chapter 7.1). -/
inductive JobFault where
  | protected_
  | opFailed
  | mismatch
  | guarded
deriving DecidableEq, Repr

/-- A descriptor of the job list (R112). -/
structure Descriptor where
  id : Byte
  state : JobState
  kind : JobKind
  source : Nat
  dest : Nat
  length : Nat
  preErase : Bool
  fill : Byte
  stop : Bool                -- MISMATCH_POLICY STOP
  seed : Word
  bytesDone : Nat
  digest : Option Word
  mismatches : Option Word
  firstMismatch : Option Nat
  fault : Option (JobFault × Nat)
deriving DecidableEq, Repr

/-- The engine states (chapter 7.3). -/
inductive EngineState where
  | idle
  | running
  | pausing
  | paused
  | aborting
  | halted
deriving DecidableEq, Repr

/-- The cursor at the next step to issue (R121): the position in the range, and whether the PRE_ERASE
of the sector at that position has been issued. -/
structure Cursor where
  pos : Nat
  erased : Bool
deriving DecidableEq, Repr

/-- The event kinds of Table 9-2. -/
inductive EventKind where
  | modifyRefused
  | opFailed
  | trapTimeout
  | trapDenied
  | trapAuto
  | trapRedirected
  | watchdogLapse
  | watchdogRestored
  | watchdogDisabled
  | suspendExpired
  | frameTorn
  | commitDone
  | commitUnchanged
  | commitFailed
  | storeSlotTorn
  | storeDefaulted
  | jobDone
  | jobFault
  | portReset
  | resetAborted
  | sealLocked
  | guardSealed
  | sessionLocked
deriving DecidableEq, Repr

/-- An event record (chapter 9.4); origin is its code: 0 DEVICE, 1 A, 2 M, 3 JOB. -/
structure Event where
  seq : Half
  kind : EventKind
  origin : Byte
  tag : Byte
  detail : Byte
  address : Word
deriving DecidableEq, Repr

/-- An entry that RESET_N cut short, recorded for RESET_ABORTED (R162, R163). -/
structure Aborted where
  origin : Origin
  tag : Byte
  kind : Kind
  address : Word
deriving DecidableEq, Repr

/-- The model's own: which timers were started in the present instant, whose tick they do not count (R15). A
mark of a mailbox slot is its trap deadline's. -/
structure StartedTimers where
  trap0 : Bool
  trap1 : Bool
  quantum : Bool
  hold : Bool
  watchdog : Bool
deriving DecidableEq, Repr

/-- No timer was started in the present instant. -/
def noneStarted : StartedTimers :=
  { trap0 := false, trap1 := false, quantum := false, hold := false, watchdog := false }

/-- The power and reset condition of the device (R161, R162, R166). -/
inductive Power where
  /-- Below the operating level, or not yet powered. -/
  | off
  /-- At the operating level with RESET_N low, the power-on step still to come (R161). -/
  | waiting
  /-- In reset: RESET_N low after power-on (R162). -/
  | inReset
  | active
  | dormant
deriving DecidableEq, Repr

/-- The whole machine. -/
structure State where
  power : Power
  resetN : Bool              -- level of RESET_N, true high
  guardN : Bool              -- level of GUARD_N, true high (R136)
  portA : PortState
  portM : PortState
  array : Memory
  pool : Vector (Option PageBuf) 6
  queue : List Entry         -- arrival order (R73)
  suspend : SuspendState
  quantum : Option Nat       -- ticks left of the run quantum (R87)
  hold : Option Nat          -- ticks left of the hold deadline (R88)
  slot0 : MailSlot
  slot1 : MailSlot
  watchdog : Watchdog
  started : StartedTimers    -- the timers started in the present instant (R15)
  activeImage : Image
  stagingImage : Image
  dirty : Bool
  validation : Byte
  store0 : List Byte         -- the 213 bytes of store slot 0 (chapter 8.3)
  store1 : List Byte
  class0 : SlotClass         -- slot states (R138)
  class1 : SlotClass
  selected : Option SlotId
  generation : Word
  commitRun : Option CommitRun
  fuse : Bool                -- the guard fuse, true blown
  sessionLock : Bool
  sealStore : Memory         -- byte (512 * page + offset) of the seal pages
  sealLocks : BitVec 3
  jobs : List Descriptor     -- list order (R112)
  engine : EngineState
  current : Option Nat       -- list index of the current descriptor
  cursor : Cursor
  crc : Word                 -- the Digest Unit's running register (R129)
  jobIdNext : Byte
  jobAttn : Bool
  log : List Event           -- oldest first (R156)
  seqNext : Half
  overflow : Byte
  aborted : List Aborted
  irqA : Bool                -- IRQ_A_N is driven low
  irqM : Bool                -- IRQ_M_N is driven low
  pending : List Instr       -- the commands waiting, first in first out
  arriving : List (List Instr) -- the events of the instants to come, each instant's in any order (R17)
  instantLeft : Nat          -- commands of the present instant still to run (R17)
deriving DecidableEq, Repr

/-- No read flag set. -/
def noFlags : ReadFlags := { masked := false, collided := false, suspendedRange := false }

/-- An EMPTY slot (R97). -/
def emptySlot : MailSlot :=
  { state := .empty, tag := 0, kind := .pageProgram, entry := 0, logical := 0, physical := 0,
    deadline := none, release := false, count := 0, redirected := false, auto := false,
    buffer := none }

/-- A port after power-on under the factory defaults (R132, chapter 10.4), SEL_N high. -/
def PortState.reset : PortState :=
  { sel := .high, lane := .one, wait := 8, wrap := .b64, irqMask := 0, wel := false,
    contArmed := false, resetArmed := false, latch := [], received := 0, flags := noFlags,
    lastRefusal := .none, refusalNew := false, lastTag := 0, tagNext := 1, fifo := [],
    completionLost := false, driven := none }

/-- The shipped device right after its first power-on: store slot 0 holds the factory image with
generation 1, slot 1 is BLANK, the fuse is unblown (R138, chapter 8.2); every volatile item has its
power-on value (chapter 10.4). The values that the manual does not give (array content, seal locks,
pin levels) are those of assumptions 3 and 4. -/
def State.reset : State :=
  { power := .active, resetN := true, guardN := false
    portA := PortState.reset, portM := PortState.reset
    array := [], pool := Vector.replicate 6 none
    queue := [], suspend := .none, quantum := none, hold := none
    slot0 := emptySlot, slot1 := emptySlot
    watchdog := { state := .disabled, left := 0, warnLeft := 0, warn := false }
    started := noneStarted
    activeImage := factoryImage, stagingImage := factoryImage, dirty := false, validation := 0
    store0 := slotOf 1 factoryImage, store1 := blankSlot, class0 := .valid, class1 := .blank
    selected := some .s0, generation := 1, commitRun := none
    fuse := false, sessionLock := false, sealStore := [], sealLocks := 0
    jobs := [], engine := .idle, current := none, cursor := { pos := 0, erased := false }
    crc := 0, jobIdNext := 1, jobAttn := false
    log := [], seqNext := 0, overflow := 0, aborted := []
    irqA := false, irqM := false, pending := [], arriving := [], instantLeft := 0 }

end Sys2Proof.Machine
end

