-- ==== Sys2Proof/Machine/Operands.lean ====
section
/-! DEFINITION. The frames that carry a command: fixed fields and classes (R5), torn frames (R9),
the states of a transaction (R4), the lanes that carry it (R3), the option records of JOB_LOAD, and
the fields of each command. -/

namespace Sys2Proof.Machine

/-- The three classes of R5. -/
inductive CommandClass where
  | memoryRead
  | statusRead
  | request
deriving DecidableEq, Repr

/-- The class of a command (R5, chapter 11.2). -/
def commandClass : Command → CommandClass
  | .read | .wrapRead | .streamRead | .readSeal => .memoryRead
  | .readPortStatus | .readCompletions | .identify | .tableRead | .settingsRead | .mailboxRead
  | .mailboxDataRead | .jobRead | .eventRead | .eventPeek => .statusRead
  | .armWrite | .disarmWrite | .pageProgram | .sectorErase | .blockErase | .suspend | .resume
  | .cancel | .setLanes | .setWait | .setWrap | .setIrqMask | .resetArm | .resetPort | .dormant
  | .wake | .tableWriteEntry | .tableClearEntry | .stageFromActive | .commit | .swapViews
  | .settingsWriteStaged | .settingsWriteLive | .lockSession | .mailboxRelease | .mailboxRedirect
  | .mailboxDeny | .mailboxDataWrite | .heartbeat | .jobLoad | .jobStart | .jobPause | .jobAbort
  | .jobClear | .sealProgram | .sealLock | .guardFuse => .request

/-- Bytes of the fixed fields after the command byte (R5), the mark of STREAM_READ included. JOB_LOAD's
14 fixed bytes are followed by its option records (`jobOptionsOf`). -/
def fixedLen : Command → Nat
  | .read | .wrapRead | .pageProgram | .sectorErase | .blockErase => 4
  | .streamRead => 5
  | .readSeal | .sealProgram => 3
  | .readPortStatus | .eventRead | .tableRead | .settingsRead | .mailboxRead | .jobRead | .cancel
  | .setLanes | .setWait | .setWrap | .setIrqMask | .tableClearEntry | .sealLock
  | .mailboxRelease | .mailboxDeny => 1
  | .mailboxDataRead | .mailboxDataWrite | .swapViews | .settingsWriteStaged
  | .settingsWriteLive => 2
  | .tableWriteEntry => 13
  | .mailboxRedirect => 5
  | .jobLoad => 14
  | .readCompletions | .identify | .eventPeek | .armWrite | .disarmWrite | .suspend | .resume
  | .resetArm | .resetPort | .wake | .dormant | .stageFromActive | .commit | .lockSession
  | .heartbeat | .jobStart | .jobPause | .jobAbort | .jobClear | .guardFuse => 0

/-- An option record of JOB_LOAD (chapter 7.2); `badType` stands for a type byte outside 1 to 4. -/
inductive JobOption where
  | preErase
  | fillValue (v : Byte)
  | mismatchPolicy (v : Byte)
  | digestSeed (v : Word)
  | badType
deriving DecidableEq, Repr

/-- The option records in a run of bytes, at most `n` of them; `none` when the bytes end before the last
record does. Parsing stops after a type byte outside 1 to 4 (R5). -/
def parseOptions : Nat → List Byte → Option (List JobOption)
  | 0, _ => some []
  | _ + 1, [] => none
  | n + 1, t :: bs =>
    if t = 1 then (parseOptions n bs).map (.preErase :: ·)
    else if t = 2 then
      if bs.length < 1 then none
      else (parseOptions n (bs.drop 1)).map (.fillValue (byteAt bs 0) :: ·)
    else if t = 3 then
      if bs.length < 1 then none
      else (parseOptions n (bs.drop 1)).map (.mismatchPolicy (byteAt bs 0) :: ·)
    else if t = 4 then
      if bs.length < 4 then none
      else (parseOptions n (bs.drop 4)).map (.digestSeed (be32 bs 0) :: ·)
    else some [.badType]

/-- The option records of a JOB_LOAD frame: one for each of the first four options counted (R5). -/
def jobOptionsOf (bs : List Byte) : Option (List JobOption) :=
  if bs.length < 14 then none else parseOptions (min (byteAt bs 13).toNat 4) (bs.drop 14)

/-- Every required field of the command has been received in full (R5, R9). -/
def frameComplete (c : Command) (bs : List Byte) : Bool :=
  match c with
  | .jobLoad => (jobOptionsOf bs).isSome
  | _ => decide (fixedLen c ≤ bs.length)

/-- A torn frame (R9): a required field not in full or, for a request, a part byte at the end. -/
def torn (c : Command) (f : Frame) : Bool :=
  !frameComplete c f.bytes || (commandClass c == .request && f.part)

/-! ### The states of a transaction -/

/-- What the bytes of a transaction carry: a command, the bytes after its command byte, and whether it is
a continuation transaction, a STREAM_READ without a command byte (R13). -/
structure Framing where
  command : Command
  bytes : List Byte
  cont : Bool
deriving DecidableEq, Repr

/-- The framing of a transaction's bytes: with continuation ARMED a first byte of 00h or 01h leads an
address (R13); a byte that the port does not recognise carries no command (R8). -/
def framing (p : Port) (contArmed : Bool) : List Byte → Option Framing
  | [] => none
  | b :: bs =>
    if contArmed && isAddressLead b then some ⟨.streamRead, b :: bs, true⟩
    else (decodeFor p b).map fun c => ⟨c, bs, false⟩

/-- The state after the last fixed field, the mark of STREAM_READ among them (R4, R6): only a memory read
has wait bytes. -/
def afterFields (c : Command) (wait : Nat) : TxState :=
  if commandClass c = .memoryRead ∧ wait ≠ 0 then .wait else .data

/-- The state after a byte of the fixed fields, `bs` the bytes of them so far (R4). -/
def afterField (c : Command) (wait : Nat) (bs : List Byte) : TxState :=
  if frameComplete c bs then afterFields c wait
  else if c = .streamRead ∧ bs.length = 4 then .mark
  else .address

/-- The state after a wait byte, `bs` the bytes clocked since the command byte (R4, R6). -/
def afterWait (c : Command) (wait : Nat) (bs : List Byte) : TxState :=
  if fixedLen c + wait ≤ bs.length then .data else .wait

/-- The table of R4: the state that a whole byte brings a port to, `wire` the bytes with that byte. A port
whose command byte was not recognised stays in COMMAND. -/
def nextTxState (p : Port) (tx : Tx) (wire : List Byte) : TxState :=
  match framing p tx.contArmed wire with
  | none => tx.phase
  | some fr =>
    match tx.phase with
    | .idle => .idle
    | .command => if fixedLen fr.command = 0 then .data else .address
    | .address => afterField fr.command tx.wait.toNat fr.bytes
    | .mark => afterFields fr.command tx.wait.toNat
    | .wait => afterWait fr.command tx.wait.toNat fr.bytes
    | .data => .data

/-- A port takes in one whole byte (R2, R4). -/
def receiveByte (p : Port) (tx : Tx) (b : Byte) : Tx :=
  { tx with wire := tx.wire ++ [b], phase := nextTxState p tx (tx.wire ++ [b]) }

/-- A port takes in the bytes of `wire` that it has not yet taken in. -/
def receiveWire (p : Port) (tx : Tx) (wire : List Byte) : Tx :=
  (wire.drop tx.wire.length).foldl (receiveByte p) tx

/-- The first byte has turned continuation OFF (R13): ARMED at the start, and neither 00h nor 01h. -/
def leavesContinuation (tx : Tx) : Bool :=
  tx.contArmed && !(tx.wire.head?.all isAddressLead)

/-! ### Lanes and clocks -/

/-- The parts of a frame that the lane mode tells apart (R3). -/
inductive FramePart where
  | command
  | fields
  | dataOut
deriving DecidableEq, Repr

/-- The part travels on four lanes (R3). -/
def onFourLanes : LaneMode → FramePart → Bool
  | .one, _ => false
  | .fourData, .command => false
  | .fourData, .fields | .fourData, .dataOut => true
  | .fourAll, _ => true

/-- The one lane of a part that does not travel on four (R3). -/
def singleLane : FramePart → Fin 4
  | .command | .fields => 0
  | .dataOut => 1

/-- The lanes that carry a part (R3). -/
def lanesOf (m : LaneMode) (part : FramePart) : List (Fin 4) :=
  if onFourLanes m part then List.finRange 4 else [singleLane part]

/-- The clocks of one byte of a part (R2, R3). -/
def clocksOf (m : LaneMode) (part : FramePart) : Nat := if onFourLanes m part then 2 else 8

/-- A byte on the lanes of a part (R3): on one lane the most significant bit first; on four the high
nibble first, IO3 carrying bit 3 of a nibble and IO0 bit 0. -/
def byteSignal (m : LaneMode) (part : FramePart) (b : Byte) : Signal :=
  if onFourLanes m part then
    [4, 0].map fun base => (List.finRange 4).map fun l => (l, b.getLsbD (base + l.val))
  else (List.range 8).map fun i => [(singleLane part, b.getLsbD (7 - i))]

/-- The part that the byte being received belongs to (R3, R6, R13): a first byte with continuation ARMED
travels as an address byte does, and a wait byte takes the clocks of one. -/
def inputPart (tx : Tx) : FramePart :=
  match tx.phase with
  | .idle | .command => if tx.contArmed && tx.wire.isEmpty then .fields else .command
  | .address | .mark | .wait | .data => .fields

/-- The lanes that a port samples (R3, R6): none in the wait bytes nor in a data-out phase. -/
def sampledLanes (tx : Tx) : List (Fin 4) :=
  if tx.phase = .wait ∨ tx.readOp.isSome then [] else lanesOf tx.lane (inputPart tx)

/-- The read that a recognised read command and its fields make (R5). -/
def readOpOf (c : Command) (bs : List Byte) : Option ReadOp :=
  match c with
  | .read => some (.read (be32 bs 0))
  | .wrapRead => some (.wrapRead (be32 bs 0))
  | .streamRead => some (.streamRead (be32 bs 0) false)
  | .readSeal => some (.readSeal (byteAt bs 0) (be16 bs 1))
  | .readPortStatus => some (.portStatus (byteAt bs 0))
  | .readCompletions => some .completions
  | .identify => some .identify
  | .tableRead => some (.table (byteAt bs 0))
  | .settingsRead => some (.settings (byteAt bs 0))
  | .mailboxRead => some (.mailbox (byteAt bs 0))
  | .mailboxDataRead => some (.mailboxData (byteAt bs 0) (byteAt bs 1))
  | .jobRead => some (.job (byteAt bs 0))
  | .eventRead => some (.events (byteAt bs 0))
  | .eventPeek => some .peek
  | _ => none

/-- The read whose data-out phase the received bytes have opened; `none` when the port has no byte to
put out: an unrecognised command, a request, or fields still missing (R3, R4, R5, R8, R13). -/
def decodeRead (p : Port) (contArmed : Bool) (wire : List Byte) : Option ReadOp :=
  match framing p contArmed wire with
  | none => none
  | some fr =>
    if !frameComplete fr.command fr.bytes then none
    else if fr.cont then some (.streamRead (be32 fr.bytes 0) true)
    else readOpOf fr.command fr.bytes

/-- The command of a read; `none` for a continuation transaction, which has no command byte (R13). -/
def readOpCommand : ReadOp → Option Command
  | .read _ => some .read
  | .wrapRead _ => some .wrapRead
  | .streamRead _ false => some .streamRead
  | .streamRead _ true => none
  | .readSeal _ _ => some .readSeal
  | .portStatus _ => some .readPortStatus
  | .completions => some .readCompletions
  | .identify => some .identify
  | .table _ => some .tableRead
  | .settings _ => some .settingsRead
  | .mailbox _ => some .mailboxRead
  | .mailboxData _ _ => some .mailboxDataRead
  | .job _ => some .jobRead
  | .events _ => some .eventRead
  | .peek => some .eventPeek

/-- Bits 31 to 25 of an address field are all 0 (R20, R40). -/
def addressInSpace (w : Word) : Bool := decide (w.toNat < Config.arrayBytes)

/-- The slot that a slot field names; 2 and above name none (R97, R99). -/
def slotOfField (b : Byte) : Option SlotId :=
  if b = 0 then some .s0 else if b = 1 then some .s1 else none

/-- The lane mode of a settings code (R11, R132); a code above 2 is never written. -/
def laneOf (b : Byte) : LaneMode := if b = 0 then .one else if b = 1 then .fourData else .fourAll

/-- The wrap length of a settings code (R11, R132); a code above 3 is never written. -/
def wrapOf (b : Byte) : WrapLen :=
  if b = 0 then .b16 else if b = 1 then .b32 else if b = 2 then .b64 else .b256

/-- The bytes of a wrap group (R22). -/
def wrapBytes : WrapLen → Nat
  | .b16 => 16
  | .b32 => 32
  | .b64 => 64
  | .b256 => 256

/-- The job kind of a descriptor's kind byte (R113). -/
def jobKindOf (b : Byte) : Option JobKind :=
  if b = 1 then some .copy else if b = 2 then some .fill else if b = 3 then some .eraseRange
  else if b = 4 then some .verify else if b = 5 then some .digest else none

end Sys2Proof.Machine
end

