-- ==== Sys2Proof/Machine/Codes.lean ====
section
/-! DEFINITION. The code numbers that records and events show (Table 9-1, Table 9-2, R74, chapters 7
and 9). -/

namespace Sys2Proof.Machine

/-- Table 9-1. -/
def refusalByte : RefusalCode → Byte
  | .none => 0x00 | .unknownCommand => 0x01 | .frameTorn => 0x02 | .notArmed => 0x03
  | .addressRange => 0x04 | .noData => 0x05 | .unmapped => 0x06 | .protected_ => 0x07
  | .guarded => 0x08 | .storeUpdating => 0x09 | .portLimit => 0x0A | .noBuffer => 0x0B
  | .trapFull => 0x0C | .queueFull => 0x0D | .notFound => 0x0E | .notOwner => 0x0F
  | .suspendRefused => 0x10 | .resumeRefused => 0x11 | .tableInvalid => 0x12
  | .badArgument => 0x13 | .busy => 0x14 | .jobListFull => 0x15 | .jobState => 0x16
  | .sequence => 0x17 | .interrupted => 0x18 | .sealLocked => 0x19 | .slotState => 0x1A
  | .dirty => 0x1B | .entryState => 0x1C | .storeExhausted => 0x1D

/-- Kind codes (R74). -/
def kindCode : Kind → Byte
  | .pageProgram => 1 | .sectorErase => 2 | .blockErase => 3 | .commit => 4 | .guardFuse => 5
  | .sealProgram => 6 | .sealLock => 7

/-- Outcome codes (chapter 9.3). -/
def outcomeCode : OpOutcome → Byte
  | .done => 0 | .failed => 1 | .denied => 2 | .cancelled => 3

/-- Event kind codes (Table 9-2). -/
def eventCode : EventKind → Byte
  | .modifyRefused => 0x01 | .opFailed => 0x02 | .trapTimeout => 0x03 | .trapDenied => 0x04
  | .trapAuto => 0x05 | .trapRedirected => 0x06 | .watchdogLapse => 0x07
  | .watchdogRestored => 0x08 | .watchdogDisabled => 0x09 | .suspendExpired => 0x0A
  | .frameTorn => 0x0B | .commitDone => 0x0C | .commitUnchanged => 0x0D | .commitFailed => 0x0E
  | .storeSlotTorn => 0x0F | .storeDefaulted => 0x10 | .jobDone => 0x11 | .jobFault => 0x12
  | .portReset => 0x13 | .resetAborted => 0x14 | .sealLocked => 0x15 | .guardSealed => 0x16
  | .sessionLocked => 0x17

/-- Origin codes of an entry in events and status byte 15 (R83, R151). -/
def originCode : Origin → Byte
  | .a => 1 | .m => 2 | .job => 3

/-- The origin of a port's own entries (00_scope section 4.1). -/
def portOrigin : Port → Origin
  | .a => .a
  | .m => .m

/-- The origin code of a port in events (Table 9-2). -/
def portCode (p : Port) : Byte := originCode (portOrigin p)

/-- Slot state codes (R97). -/
def slotStateCode : SlotState → Byte
  | .empty => 0 | .held => 1 | .releasing => 2

/-- Job kind codes (chapter 7.1). -/
def jobKindCode : JobKind → Byte
  | .copy => 1 | .fill => 2 | .eraseRange => 3 | .verify => 4 | .digest => 5

/-- Descriptor state codes (chapter 7.1). -/
def jobStateCode : JobState → Byte
  | .loaded => 0 | .running => 1 | .done => 2 | .faulted => 3 | .cancelled => 4

/-- Fault codes (chapter 7.1). -/
def jobFaultCode : JobFault → Byte
  | .protected_ => 1 | .opFailed => 2 | .mismatch => 3 | .guarded => 4

/-- Engine state codes (chapter 7.3). -/
def engineCode : EngineState → Nat
  | .idle => 0 | .running => 1 | .pausing => 2 | .paused => 3 | .aborting => 4 | .halted => 5

/-- Watchdog state codes (R151). -/
def watchCode : WatchState → Nat
  | .disabled => 0 | .armed => 1 | .lapsed => 2

/-- Lane mode codes (R11, R150). -/
def laneCode : LaneMode → Nat
  | .one => 0 | .fourData => 1 | .fourAll => 2

/-- Wrap codes (R11, R150). -/
def wrapCode : WrapLen → Nat
  | .b16 => 0 | .b32 => 1 | .b64 => 2 | .b256 => 3

/-- The slot number in STORE and COMMIT events. -/
def slotCode : SlotId → Byte
  | .s0 => 0
  | .s1 => 1

/-- The address field of an event that has none (chapter 9.4). -/
def noAddress : Word := 0xFFFFFFFF#32

/-- An address as the four bytes of an event or record. -/
def addressWord (a : Nat) : Word := BitVec.ofNat 32 a

/-- A flag as a number, for the bits of a status byte. -/
def bit (b : Bool) : Nat := if b then 1 else 0

/-- The physical base of a target: the page, sector or block address (R83). -/
def targetAddress : Target → Word
  | .array base _ => addressWord base
  | .nothing => noAddress
  | .sealPage _ _ => noAddress

/-- The bytes of a completion record (chapter 9.3). -/
def completionBytes (r : Completion) : List Byte :=
  [r.tag, kindCode r.kind, outcomeCode r.outcome,
    BitVec.ofNat 8 (bit r.redirected + 2 * bit r.auto)]

/-- The bytes of an event record (chapter 9.4). -/
def eventBytes (e : Event) : List Byte :=
  bytes16 e.seq ++ [eventCode e.kind, e.origin, e.tag, e.detail] ++ bytes32 e.address

end Sys2Proof.Machine
end

