-- ==== Sys2Proof/Machine/Ops.lean ====
section
/-! DEFINITION. The named operations that the meanings share: ports, refusals, events, completion
records, the queue, tags, buffers, mailbox slots, rights and the watchdog. -/

namespace Sys2Proof.Machine

/-! ### Ports and slots -/

/-- The state of a port interface. -/
def State.port (s : State) : Port → PortState
  | .a => s.portA
  | .m => s.portM

/-- Puts the state of a port interface. -/
def State.setPort (s : State) (p : Port) (ps : PortState) : State :=
  match p with
  | .a => { s with portA := ps }
  | .m => { s with portM := ps }

/-- A mailbox slot. -/
def State.slot (s : State) : SlotId → MailSlot
  | .s0 => s.slot0
  | .s1 => s.slot1

/-- Puts a mailbox slot. -/
def State.setSlot (s : State) (i : SlotId) (sl : MailSlot) : State :=
  match i with
  | .s0 => { s with slot0 := sl }
  | .s1 => { s with slot1 := sl }

/-- The bytes of a store slot. -/
def State.store (s : State) : SlotId → List Byte
  | .s0 => s.store0
  | .s1 => s.store1

/-- The state of a store slot (R138). -/
def State.storeClass (s : State) : SlotId → SlotClass
  | .s0 => s.class0
  | .s1 => s.class1

/-- Puts the bytes of a store slot. -/
def State.setStore (s : State) (i : SlotId) (bs : List Byte) : State :=
  match i with
  | .s0 => { s with store0 := bs }
  | .s1 => { s with store1 := bs }

/-- Puts the state of a store slot (R138). -/
def State.setStoreClass (s : State) (i : SlotId) (c : SlotClass) : State :=
  match i with
  | .s0 => { s with class0 := c }
  | .s1 => { s with class1 := c }

/-! ### Events, refusals, completion records -/

/-- Generates an event (R156): it takes the sequence number, and is kept, or dropped and counted. -/
def logEvent (s : State) (kind : EventKind) (origin tag detail : Byte) (address : Word) : State :=
  if s.log.length < Config.logDepth then
    { s with
      log := s.log ++ [{ seq := s.seqNext, kind := kind, origin := origin, tag := tag,
                         detail := detail, address := address }]
      seqNext := s.seqNext + 1 }
  else
    { s with
      seqNext := s.seqNext + 1
      overflow := if s.overflow = 255 then 255 else s.overflow + 1 }

/-- Records a refusal on a port (R10, R153); a refused request discards the inbound latch (R7). -/
def refuse (s : State) (p : Port) (code : RefusalCode) : State :=
  s.setPort p { s.port p with
    lastRefusal := code, refusalNew := true, latch := [], received := 0 }

/-- The refusal of a torn request, with its event (R9). -/
def refuseTorn (s : State) (p : Port) (c : Command) : State :=
  refuse (logEvent s .frameTorn (portCode p) 0 (commandCode c) noAddress) p .frameTorn

/-- The first failing check of a decision table, in the table's order. -/
def firstFailure : List (Bool × RefusalCode) → Option RefusalCode
  | [] => none
  | (failed, code) :: rest => if failed then some code else firstFailure rest

/-- A decision: refused with the first failing check's code, or accepted. -/
def decided (s : State) (p : Port) (checks : List (Bool × RefusalCode)) (accept : State → State) :
    State :=
  match firstFailure checks with
  | some code => refuse s p code
  | none => accept s

/-- What a port's transaction notes when a record is discarded from its completion FIFO: a loss since
the last fetch of byte 0 (R152), and that the record under delivery is gone (R155). -/
def noteLoss : Sel → Sel
  | .opened tx =>
    .opened { tx with
      lostSince := true
      delivery :=
        if tx.readOp = some .completions then tx.delivery.map fun d => { d with present := false }
        else tx.delivery }
  | sel => sel

/-- Places a completion record in a port's FIFO (R154). -/
def pushCompletion (s : State) (p : Port) (r : Completion) : State :=
  let ps := s.port p
  if ps.fifo.length < Config.fifoDepth then s.setPort p { ps with fifo := ps.fifo ++ [r] }
  else s.setPort p { ps with
    fifo := ps.fifo.drop 1 ++ [r], completionLost := true, sel := noteLoss ps.sel }

/-! ### The work queue -/

/-- The entry is ACTIVE. -/
def isActive (e : Entry) : Bool := e.state == .active
/-- The entry is SUSPENDED. -/
def isSuspended (e : Entry) : Bool := e.state == .suspended
/-- The entry is WAITING. -/
def isWaiting (e : Entry) : Bool := e.state == .waiting

/-- COMMIT and GUARD_FUSE are barriers (R74). -/
def isBarrierKind (k : Kind) : Bool := k == .commit || k == .guardFuse
/-- The two erases (R74). -/
def isEraseKind (k : Kind) : Bool := k == .sectorErase || k == .blockErase
/-- Programs and erases, which make a bank busy (R74). -/
def isArrayKind (k : Kind) : Bool := k == .pageProgram || isEraseKind k

/-- The ACTIVE entry (R75). -/
def activeEntry (s : State) : Option Entry := s.queue.find? isActive
/-- The SUSPENDED entry (R75). -/
def suspendedEntry (s : State) : Option Entry := s.queue.find? isSuspended

/-- Changes the first entry with a property. -/
def updateFirst (has : Entry → Bool) (g : Entry → Entry) : List Entry → List Entry
  | [] => []
  | e :: q => if has e then g e :: q else e :: updateFirst has g q

/-- A barrier entry is WAITING or ACTIVE (R43, R79). -/
def barrierPending (s : State) : Bool :=
  s.queue.any fun e => isBarrierKind e.kind && !isSuspended e

/-- All 8 entries of the queue are occupied (R46). -/
def queueFull (s : State) : Bool := decide (Config.queueDepth ≤ s.queue.length)

/-- The entry belongs to an origin and is not an orphan. -/
def ownedLive (o : Origin) (e : Entry) : Bool := e.origin == o && !e.orphan

/-- A mailbox slot is HELD or RELEASING. -/
def slotFilled (sl : MailSlot) : Bool := sl.state != .empty

/-- The port's mailbox slots that are HELD or RELEASING; only Port A's requests are held (R50). -/
def heldCount (s : State) : Port → Nat
  | .a => bit (slotFilled s.slot0) + bit (slotFilled s.slot1)
  | .m => 0

/-- A port's outstanding count (R50). -/
def outstanding (s : State) (p : Port) : Nat :=
  (s.queue.countP (ownedLive (portOrigin p))) + heldCount s p

/-- Creates an entry at the tail of the queue (R73). -/
def enqueue (s : State) (e : Entry) : State := { s with queue := s.queue ++ [e] }

/-- A new entry, WAITING (R73). -/
def newEntry (tag : Byte) (origin : Origin) (kind : Kind) (target : Target)
    (buffer : Option (Fin 6)) (redirected auto : Bool) : Entry :=
  { tag := tag, origin := origin, kind := kind, target := target, buffer := buffer,
    state := .waiting, resumePending := false, redirected := redirected, auto := auto,
    orphan := false }

/-- Bytes of the granule of a program or erase (chapter 3.2); 0 for the kinds without an array target. -/
def granuleBytes : Kind → Nat
  | .pageProgram => Config.pageBytes
  | .sectorErase => Config.sectorBytes
  | .blockErase => Config.blockBytes
  | .commit | .guardFuse | .sealProgram | .sealLock => 0

/-- The base of the granule of a kind that contains an address (chapter 3.2, R36). -/
def granuleBase (k : Kind) (a : Nat) : Nat := a - a % granuleBytes k

/-- The granule of a kind that contains an address, as a target (R36, R74). -/
def granule (k : Kind) (a : Nat) : Target := .array (granuleBase k a) (granuleBytes k)

/-- Two targets overlap (R74). -/
def targetsOverlap : Target → Target → Bool
  | .array b1 l1, .array b2 l2 => rangesMeet b1 l1 b2 l2
  | .sealPage p1 _, .sealPage p2 _ => p1 == p2
  | _, _ => false

/-- The bank of a program or erase that is ACTIVE (R27). -/
def busyBank (s : State) : Option Nat :=
  match activeEntry s with
  | some e =>
    match e.target with
    | .array base _ => if isArrayKind e.kind then some (base / Config.bankBytes) else none
    | .nothing | .sealPage _ _ => none
  | none => none

/-- A physical address lies in the busy bank (R24 step 4, R27). -/
def bankBusyAt (s : State) (a : Nat) : Bool := busyBank s == some (a / Config.bankBytes)

/-- The physical range [a, a + len) shares a byte with the suspended range (R28, R126). -/
def meetsSuspended (s : State) (a len : Nat) : Bool :=
  match suspendedEntry s with
  | some e => targetsOverlap e.target (.array a len)
  | none => false

/-! ### Tags -/

/-- The value after a tag, 255 being followed by 1 (R48). -/
def nextTag (t : Byte) : Byte := if t = 255 then 1 else t + 1

/-- A tag is in use on a port: a non-orphan entry or a mailbox slot of its origin holds it (R48). -/
def tagInUse (s : State) (p : Port) (t : Byte) : Bool :=
  s.queue.any (fun e => ownedLive (portOrigin p) e && e.tag == t) ||
    (p == .a && ((slotFilled s.slot0 && s.slot0.tag == t) || (slotFilled s.slot1 && s.slot1.tag == t)))

/-- The first value not in use, from a value on (R48); 255 tries pass every value. -/
def findTag (used : Byte → Bool) : Nat → Byte → Byte
  | 0, t => t
  | n + 1, t => if used t then findTag used n (nextTag t) else t

/-- The tag that an accepted request of the port receives (R48). -/
def tagFor (s : State) (p : Port) : Byte := findTag (tagInUse s p) 255 (s.port p).tagNext

/-- Assigns a tag on a port: the counter takes the following value and LAST_TAG the tag (R48, R49). -/
def noteTag (s : State) (p : Port) (t : Byte) : State :=
  s.setPort p { s.port p with lastTag := t, tagNext := nextTag t }

/-! ### The page buffer pool -/

/-- The free buffer of lowest number (R52). -/
def freeBuffer? (s : State) : Option (Fin 6) := (List.finRange 6).find? fun i => s.pool[i].isNone

/-- The buffers owned for an origin (R51). -/
def buffersOwned (s : State) (o : Origin) : Nat :=
  (List.finRange 6).countP fun i => (s.pool[i].map (·.origin)) == some o

/-- The buffer cap of an origin (R51). -/
def bufferCap : Origin → Nat
  | .a => 3
  | .m => 3
  | .job => 2

/-- No buffer is free, or the origin is at its cap (R44). -/
def bufferShort (s : State) (o : Origin) : Bool :=
  (freeBuffer? s).isNone || decide (bufferCap o ≤ buffersOwned s o)

/-- Takes a buffer and fills it (R52). -/
def takeBuffer (s : State) (i : Fin 6) (o : Origin) (data : Memory) : State :=
  { s with pool := s.pool.set i (some { origin := o, data := data }) }

/-- Takes the free buffer of lowest number, if one is free (R52). -/
def takeFree (s : State) (o : Origin) (data : Memory) : State :=
  match freeBuffer? s with
  | some i => takeBuffer s i o data
  | none => s

/-- Frees the buffer of a holder that goes away (R53). -/
def releaseBuffer (s : State) : Option (Fin 6) → State
  | some i => { s with pool := s.pool.set i none }
  | none => s

/-- The content of a holder's buffer; all FFh where it has none. -/
def bufferData (s : State) : Option (Fin 6) → Memory
  | some i => match s.pool[i] with
    | some b => b.data
    | none => []
  | none => []

/-! ### Mailbox slots -/

/-- The queue entry that a slot's request becomes (R100). -/
def slotEntry (sl : MailSlot) : Entry :=
  newEntry sl.tag .a sl.kind (granule sl.kind sl.physical) sl.buffer sl.redirected sl.auto

/-- The slot's request enters the queue and the slot becomes EMPTY; its buffer passes over (R100). -/
def slotToQueue (s : State) (i : SlotId) : State :=
  (enqueue s (slotEntry (s.slot i))).setSlot i emptySlot

/-- Releases a HELD slot's request: into the queue, or RELEASING when the queue is full (R100). -/
def releaseSlot (s : State) (i : SlotId) : State :=
  if queueFull s then s.setSlot i { s.slot i with state := .releasing, deadline := none }
  else slotToQueue s i

/-- A RELEASING slot takes a free queue entry (R17, R100). -/
def slotTakesEntry (s : State) (i : SlotId) : State :=
  if (s.slot i).state == .releasing && !queueFull s then slotToQueue s i else s

/-- RELEASING slots take the free queue entries, slot 0 before slot 1 (R17). -/
def fillFromMailbox (s : State) : State := slotTakesEntry (slotTakesEntry s .s0) .s1

/-- The slot's request goes away: its buffer is freed and the slot becomes EMPTY (R102, R105). -/
def emptySlotAt (s : State) (i : SlotId) : State :=
  (releaseBuffer s (s.slot i).buffer).setSlot i emptySlot

/-- Denies a HELD slot's request (R102); `auto` for a denial at a lapse. -/
def denySlot (s : State) (i : SlotId) (auto : Bool) : State :=
  pushCompletion (emptySlotAt s i) .a
    { tag := (s.slot i).tag, kind := (s.slot i).kind, outcome := .denied, redirected := false,
      auto := auto }

/-! ### The guard and Port M's rights -/

/-- The guard base mode (R136). -/
inductive BaseMode where
  | opened
  | pinGuarded
  | sealed
deriving DecidableEq, Repr

/-- The base mode, from the fuse and guard_mode of the active image (R136). -/
def baseMode (s : State) : BaseMode :=
  if s.fuse then .sealed
  else if s.activeImage.settings.guardMode = 0 then .opened
  else .pinGuarded

/-- The code of a base mode (R136, R151). -/
def baseModeCode : BaseMode → Nat
  | .opened => 0
  | .pinGuarded => 1
  | .sealed => 2

/-- The guard permits configuration edits (R136). -/
def guardPermits (s : State) : Bool :=
  match baseMode s with
  | .sealed => false
  | .opened => !s.sessionLock
  | .pinGuarded => s.guardN && !s.sessionLock

/-- Port M's column of R61 for a physical address: `none` when it may write there, else the code. An
m_rights code of 0, or of 3 or above, is PROTECTED (assumption 22). -/
def portMWriteRefusal (s : State) (phys : Nat) : Option RefusalCode :=
  match partitionOf s.activeImage phys with
  | some i => if s.activeImage.entries[i].mRights = 2 then none else some .protected_
  | none => if guardPermits s then none else some .guarded

/-! ### The watchdog -/

/-- A full countdown of the current interval, WARN clear (R106). -/
def armedWatchdog (s : State) : Watchdog :=
  { state := .armed
    left := s.activeImage.settings.watchdogInterval.toNat * 10
    warnLeft := s.activeImage.settings.watchdogInterval.toNat * 5
    warn := false }

/-- The countdown starts, in full; a tick of this instant does not count (R15, R106). -/
def startWatchdog (s : State) : State :=
  { s with watchdog := armedWatchdog s, started := { s.started with watchdog := true } }

/-- No countdown (R106). -/
def stoppedWatchdog (st : WatchState) : Watchdog :=
  { state := st, left := 0, warnLeft := 0, warn := false }

/-- The watchdog after a load (R106). -/
def watchdogLoaded (s : State) : State :=
  if s.activeImage.settings.watchdogInterval = 0 then
    { s with watchdog := stoppedWatchdog .disabled }
  else startWatchdog s

/-- The watchdog after a write of watchdog_interval, the active image holding the new value (R110). -/
def watchdogWritten (s : State) : State :=
  if s.activeImage.settings.watchdogInterval = 0 then
    match s.watchdog.state with
    | .disabled => s
    | .armed => { s with watchdog := stoppedWatchdog .disabled }
    | .lapsed =>
      logEvent { s with watchdog := stoppedWatchdog .disabled } .watchdogDisabled 2 0 0 noAddress
  else
    match s.watchdog.state with
    | .disabled | .armed => startWatchdog s
    | .lapsed => s

/-- The settings that a port takes from the port defaults of the active image (R11, R132). -/
def takeDefaults (s : State) (p : Port) : State :=
  let t := s.activeImage.settings
  match p with
  | .a => s.setPort .a { s.portA with
      lane := laneOf t.aLanes, wait := t.aWait.setWidth 4, wrap := wrapOf t.aWrap
      irqMask := t.aIrqMask }
  | .m => s.setPort .m { s.portM with
      lane := laneOf t.mLanes, wait := t.mWait.setWidth 4, wrap := wrapOf t.mWrap
      irqMask := t.mIrqMask }

end Sys2Proof.Machine
end

