-- ==== Sys2Proof/Machine/Flags.lean ====
section
/-! DEFINITION. The status record (R149 to R151), the read flags (R30, R31), the interrupt causes and
outputs (R159), and how every meaning ends. -/

namespace Sys2Proof.Machine

/-- Any of the three read flags is set (R30). -/
def anyReadFlag (f : ReadFlags) : Bool := f.masked || f.collided || f.suspendedRange

/-- The interrupt causes of a port, one per mask bit; Port A has the first four (R159). -/
def irqCauses (s : State) (p : Port) : Byte :=
  let ps := s.port p
  let own := bit (!ps.fifo.isEmpty) + 2 * bit ps.refusalNew + 4 * bit (anyReadFlag ps.flags)
    + 8 * bit (s.watchdog.state == .lapsed)
  match p with
  | .a => BitVec.ofNat 8 own
  | .m => BitVec.ofNat 8 (own
      + 16 * bit (s.slot0.state == .held || s.slot1.state == .held)
      + 32 * bit (!s.log.isEmpty) + 64 * bit s.jobAttn + 128 * bit s.watchdog.warn)

/-- The device is powered and not in reset, ACTIVE or DORMANT (R161, R162, R172). -/
def operating (s : State) : Bool := s.power == .active || s.power == .dormant

/-- The interrupt output of a port is driven low (R159); it is released before power-on completes and
while RESET_N is low (R172). -/
def irqLow (s : State) (p : Port) : Bool :=
  operating s && (irqCauses s p &&& (s.port p).irqMask) != 0

/-- The interrupt outputs take their level at the end of an instant (R159): after the last command of its
request order, and at once where the device is without power or in reset (R161, R162). A command that
stands in no request order is an instant of its own (assumption 2). -/
def instantEnds (s : State) : Bool := decide (s.instantLeft ≤ 1) || !operating s

/-- A command of an instant is over: at the instant's end both interrupt outputs take their level (R159), and
the next tick is one that every running timer counts (R15). -/
def driveIrq (s : State) : State :=
  { s with
    irqA := if instantEnds s then irqLow s .a else s.irqA
    irqM := if instantEnds s then irqLow s .m else s.irqM
    started := if instantEnds s then noneStarted else s.started
    instantLeft := s.instantLeft - 1 }

/-- How every meaning ends: the command is over, and the machine goes on (R159). -/
def finish (s : State) : Host.Outcome State Fault Refusal := .next (driveIrq s)

/-! ### The status record -/

/-- Byte 0 (R150). CONT is the continuation state at the start of the transaction (R149). -/
def statusByte0 (s : State) (p : Port) (cont : Bool) : Byte :=
  let ps := s.port p
  BitVec.ofNat 8 (bit ps.wel + 2 * bit cont + 4 * bit (s.watchdog.state == .lapsed)
    + 8 * bit (activeEntry s).isSome + 16 * bit (suspendedEntry s).isSome
    + 32 * bit ps.completionLost + 64 * bit ps.refusalNew
    + 128 * bit (p == .m && s.dirty))

/-- Byte 1: the read flags (R150). -/
def statusByte1 (s : State) (p : Port) : Byte :=
  let f := (s.port p).flags
  BitVec.ofNat 8 (bit f.masked + 2 * bit f.collided + 4 * bit f.suspendedRange)

/-- Byte 4: the outstanding and held counts (R150). -/
def statusByte4 (s : State) (p : Port) : Byte :=
  BitVec.ofNat 8 (outstanding s p + 16 * heldCount s p)

/-- Byte 6: the current settings (R150). -/
def statusByte6 (s : State) (p : Port) : Byte :=
  let ps := s.port p
  BitVec.ofNat 8 (ps.wait.toNat + 16 * wrapCode ps.wrap + 64 * laneCode ps.lane)

/-- Byte 8: the guard and a pending barrier (R151). -/
def statusByte8 (s : State) : Byte :=
  BitVec.ofNat 8 (baseModeCode (baseMode s) + 4 * bit s.sessionLock + 8 * bit s.guardN
    + 16 * bit (barrierPending s))

/-- Byte 9: the watchdog and the store slots (R151). -/
def statusByte9 (s : State) : Byte :=
  BitVec.ofNat 8 (watchCode s.watchdog.state + 4 * bit s.watchdog.warn
    + 8 * slotClassCode s.class0 + 32 * slotClassCode s.class1)

/-- Byte 10: the job engine (R151). -/
def statusByte10 (s : State) : Byte :=
  BitVec.ofNat 8 (s.jobs.length + 16 * bit s.jobAttn + 32 * engineCode s.engine)

/-- Byte 15: the ACTIVE entry (R151). -/
def statusByte15 (s : State) : Byte :=
  match activeEntry s with
  | some e => BitVec.ofNat 8 ((kindCode e.kind).toNat + 8 * (originCode e.origin).toNat)
  | none => 0

/-- Bytes 0 to 7 of a port's status record (R150). -/
def statusOwn (s : State) (p : Port) (cont : Bool) : List Byte :=
  let ps := s.port p
  [statusByte0 s p cont, statusByte1 s p, refusalByte ps.lastRefusal, ps.lastTag,
    statusByte4 s p, BitVec.ofNat 8 ps.fifo.length, statusByte6 s p, ps.irqMask]

/-- Bytes 8 to 17 of Port M's status record (R151). -/
def statusDevice (s : State) : List Byte :=
  [statusByte8 s, statusByte9 s, statusByte10 s, BitVec.ofNat 8 s.log.length, s.overflow,
    s.validation, BitVec.ofNat 8 s.queue.length, statusByte15 s,
    s.generation.extractLsb' 8 8, s.generation.extractLsb' 0 8]

/-- The status record: 8 bytes on Port A, 18 on Port M (R149). -/
def statusRecord (s : State) (p : Port) (cont : Bool) : List Byte :=
  match p with
  | .a => statusOwn s .a cont
  | .m => statusOwn s .m cont ++ statusDevice s

/-- The clear of R152: REFUSAL_NEW, the read flags, and COMPLETION_LOST unless a record was lost since
the last fetch of byte 0. -/
def clearStatus (s : State) (p : Port) (lostSince : Bool) : State :=
  s.setPort p { s.port p with
    refusalNew := false, flags := noFlags
    completionLost := (s.port p).completionLost && lostSince }

end Sys2Proof.Machine
end

