-- ==== Sys2Proof/Machine/Transactions.lean ====
section
/-! DEFINITION. Transactions: their begin and end (R2, R3), what every transaction's end does to
continuation and reset-arm (R12, R14), how a request reaches its decision (R8, R9, R10), and the
meanings of TRANSACTION_BEGIN, IGNORED_TRANSACTION_END and UNKNOWN_COMMAND. -/

namespace Sys2Proof.Machine

/-- What a port samples at the falling edge of SEL_N (R3, R13, R14). -/
def sampleTx (ps : PortState) (dormant : Bool) : Tx :=
  { lane := ps.lane, wait := ps.wait, wrap := ps.wrap, contArmed := ps.contArmed,
    resetArmed := ps.resetArmed, dormant := dormant, phase := .command, wire := [],
    readOp := none, fetched := 0, delivery := none, peekAt := 0, lostSince := false }

/-- The falling edge of SEL_N (R2, R3): a transaction begins, the inbound latch is emptied (R7). While the
device is DORMANT nothing but the selection changes (R168). In reset or without power the port will
ignore its clock until SEL_N has gone high (R2). No edge falls where SEL_N is already low. -/
def beginTransaction (s : State) (p : Port) : State :=
  let ps := s.port p
  match ps.sel with
  | .high =>
    match s.power with
    | .active => s.setPort p { ps with
        sel := .opened (sampleTx ps false), latch := [], received := 0, driven := none }
    | .dormant => s.setPort p { ps with sel := .opened (sampleTx ps true) }
    | .off | .waiting | .inReset => s.setPort p { ps with sel := .ignored }
  | .ignored | .opened _ => s

/-- The rising edge of SEL_N alone (R2): the port no longer drives its lanes. -/
def deselect (s : State) (p : Port) : State :=
  s.setPort p { s.port p with sel := .high, driven := none }

/-- The end of a transaction that carried a whole byte: continuation OFF (R12, which STREAM_READ then
sets by its mark) and reset-arm DISARMED (R14), before the transaction's own effect. -/
def closeTransaction (s : State) (p : Port) : State :=
  s.setPort p { s.port p with sel := .high, driven := none, contArmed := false, resetArmed := false }

/-- The end of a transaction (R10). A row of a port that is not selected stands for its whole
transaction: the falling edge is taken with it (assumption 5). An ignored transaction, or one that
began while the device was DORMANT, ends without effect (R2, R168). `fits` says whether the row can
end this transaction at all; where it cannot, nothing happens (assumption 6). -/
def endTransaction (s : State) (p : Port) (fits : Tx → Bool) (act : Tx → State → State) :
    Host.Outcome State Fault Refusal :=
  let s1 := beginTransaction s p
  match (s1.port p).sel with
  | .high => finish s1
  | .ignored => finish (deselect s1 p)
  | .opened tx =>
    if tx.dormant || s1.power != .active then finish (deselect s1 p)
    else if fits tx then finish (act tx (closeTransaction s1 p))
    else finish s

/-- The transaction state of a port (R4): IDLE while SEL_N is high or the port ignores its input. -/
def txState (ps : PortState) : TxState :=
  match ps.sel with
  | .high | .ignored => .idle
  | .opened tx => tx.phase

/-- A port takes in the whole bytes of a transaction that it has not yet taken in (R2, R4). Continuation
turns OFF at once where its first byte leads no address (R13; assumption 19). -/
def receiveBytes (s : State) (p : Port) (tx : Tx) (wire : List Byte) : State :=
  s.setPort p { s.port p with
    sel := .opened (receiveWire p tx wire)
    contArmed := (s.port p).contArmed && !leavesContinuation (receiveWire p tx wire) }

/-- The transaction is not a read under way with another command. -/
def txFits (c : Command) (tx : Tx) : Bool :=
  match tx.readOp with
  | none => true
  | some r => readOpCommand r == some c

/-- The end of a request (R8, R9, R10): UNKNOWN_COMMAND on a port that does not recognise it, FRAME_TORN
for a torn frame, else its decision. -/
def requestEnd (s : State) (p : Port) (c : Command) (f : Frame) (decide : Tx → State → State) :
    Host.Outcome State Fault Refusal :=
  endTransaction s p (txFits c) fun tx s' =>
    if !recognises p c then refuse s' p .unknownCommand
    else if torn c f then refuseTorn s' p c
    else decide tx s'

/-- The frame that a read's transaction received: the one taken in when its output began, else the one
its end shows (assumption 16). `lead` is the number of bytes before the fields (the command byte). -/
def readFrame (tx : Tx) (lead : Nat) (f : Frame) : List Byte :=
  match tx.readOp with
  | some _ => tx.wire.drop lead
  | none => f.bytes

/-- The end of a memory read or status read (R8, R9, R10): a torn one has no effect, and none records a
refusal on a port that recognises it. -/
def readEnd (s : State) (p : Port) (c : Command) (f : Frame)
    (act : Tx → List Byte → State → State) : Host.Outcome State Fault Refusal :=
  endTransaction s p (txFits c) fun tx s' =>
    if !recognises p c then refuse s' p .unknownCommand
    else if frameComplete c (readFrame tx 1 f) then act tx (readFrame tx 1 f) s'
    else s'

/-- TRANSACTION_BEGIN (R2, R3). -/
def execTransactionBegin (p : Port) (s : State) : Host.Outcome State Fault Refusal :=
  finish (beginTransaction s p)

/-- The transaction has carried a whole byte, as far as the port has taken bytes in (R2). -/
def hasCarried (tx : Tx) : Bool := tx.readOp.isSome || !tx.wire.isEmpty

/-- IGNORED_TRANSACTION_END (R2, R168): the rising edge of SEL_N at the end of an ignored transaction. Of a
transaction that is not ignored it is the end of a null transaction, which has no effect of any kind
(R2; assumption 6); a transaction that has carried a byte is no null transaction, and nothing
happens. -/
def execIgnoredTransactionEnd (p : Port) (s : State) : Host.Outcome State Fault Refusal :=
  match (s.port p).sel with
  | .high => finish s
  | .ignored => finish (deselect s p)
  | .opened tx => if hasCarried tx then finish s else finish (deselect s p)

/-- UNKNOWN_COMMAND (R8): the refusal, recorded when SEL_N goes high, whatever followed the byte. A byte
that the port recognises, or takes as an address lead (R13), makes no such event. -/
def execUnknownCommand (p : Port) (code : Byte) (f : Frame) (s : State) :
    Host.Outcome State Fault Refusal :=
  let _ := f
  endTransaction s p
    (fun tx => tx.readOp.isNone && (decodeFor p code).isNone && !(tx.contArmed && isAddressLead code))
    fun _ s' => refuse s' p .unknownCommand

end Sys2Proof.Machine
end

