-- ==== Sys2Proof/Machine/PortSettings.lean ====
section
/-! DEFINITION. The commands on a port's own state: ARM_WRITE and DISARM_WRITE (R34), the four SET
commands (R11) and RESET_ARM (R14). -/

namespace Sys2Proof.Machine

/-- ARM_WRITE (R34). -/
def execArmWrite (p : Port) (f : Frame) (s : State) : Host.Outcome State Fault Refusal :=
  requestEnd s p .armWrite f fun _ s' => s'.setPort p { s'.port p with wel := true }

/-- DISARM_WRITE (R34). -/
def execDisarmWrite (p : Port) (f : Frame) (s : State) : Host.Outcome State Fault Refusal :=
  requestEnd s p .disarmWrite f fun _ s' => s'.setPort p { s'.port p with wel := false }

/-- SET_LANES (R11): a value above 2 is refused. -/
def execSetLanes (p : Port) (f : Frame) (s : State) : Host.Outcome State Fault Refusal :=
  requestEnd s p .setLanes f fun _ s' =>
    decided s' p [(decide (2 < (byteAt f.bytes 0).toNat), .badArgument)] fun s' =>
      s'.setPort p { s'.port p with lane := laneOf (byteAt f.bytes 0) }

/-- SET_WAIT (R11): a value above 15 is refused. -/
def execSetWait (p : Port) (f : Frame) (s : State) : Host.Outcome State Fault Refusal :=
  requestEnd s p .setWait f fun _ s' =>
    decided s' p [(decide (15 < (byteAt f.bytes 0).toNat), .badArgument)] fun s' =>
      s'.setPort p { s'.port p with wait := (byteAt f.bytes 0).setWidth 4 }

/-- SET_WRAP (R11): a value above 3 is refused. -/
def execSetWrap (p : Port) (f : Frame) (s : State) : Host.Outcome State Fault Refusal :=
  requestEnd s p .setWrap f fun _ s' =>
    decided s' p [(decide (3 < (byteAt f.bytes 0).toNat), .badArgument)] fun s' =>
      s'.setPort p { s'.port p with wrap := wrapOf (byteAt f.bytes 0) }

/-- SET_IRQ_MASK (R11): every value is accepted, and the output takes its level at once. -/
def execSetIrqMask (p : Port) (f : Frame) (s : State) : Host.Outcome State Fault Refusal :=
  requestEnd s p .setIrqMask f fun _ s' =>
    s'.setPort p { s'.port p with irqMask := byteAt f.bytes 0 }

/-- RESET_ARM (R14). -/
def execResetArm (p : Port) (f : Frame) (s : State) : Host.Outcome State Fault Refusal :=
  requestEnd s p .resetArm f fun _ s' => s'.setPort p { s'.port p with resetArmed := true }

end Sys2Proof.Machine
end

