-- ==== Sys2Proof/Machine/Modify.lean ====
section
/-! DEFINITION. The acceptance pipeline of PAGE_PROGRAM, SECTOR_ERASE and BLOCK_ERASE (R34 to R47) with its
trap step (R95, R96, R109), and the queue requests CANCEL, SUSPEND and RESUME (R84 to R89, R105). -/

namespace Sys2Proof.Machine

/-- Step 2 of an armed request (R35): NOT_ARMED with WEL 0; with WEL 1 the latch is consumed, whatever
the rest of the decision brings. -/
def armedDecision (s : State) (p : Port) (decide : State → State) : State :=
  if (s.port p).wel then decide (s.setPort p { s.port p with wel := false })
  else refuse s p .notArmed

/-- The inbound latch as a data-in phase leaves it (R7). -/
def receiveData (s : State) (p : Port) (start : Nat) (data : List Byte) : State :=
  s.setPort p { s.port p with latch := latchFill [] start data, received := receivedCount data }

/-- The latch is discarded when the decision has been made, accepted or refused (R7). -/
def discardLatch (s : State) (p : Port) : State :=
  s.setPort p { s.port p with latch := [], received := 0 }

/-- A page buffer's content as an acceptance takes it from the latch: FFh, then the latch bytes (R37). -/
def bufferFromLatch (s : State) (p : Port) : Memory := latchCopy (s.port p).latch []

/-- Steps 5 and 6 of R40: the physical address and, on Port A, the covering entry; or the refusal. An
a_rights code of 3 or above does not let Port A write (assumption 22). -/
def modifyTarget (s : State) (p : Port) (a : Nat) : Except RefusalCode (Nat × Option (Fin 16)) :=
  match p with
  | .a =>
    match translate s.activeImage a with
    | none => .error .unmapped
    | some (i, phys) =>
      if s.activeImage.entries[i].aRights = 2 then .ok (phys, some i) else .error .protected_
  | .m =>
    match portMWriteRefusal s a with
    | some code => .error code
    | none => .ok (a, none)

/-- The refusal of steps 5 and 6, with its MODIFY_REFUSED event (R42). -/
def refuseModify (s : State) (p : Port) (a : Nat) (code : RefusalCode) : State :=
  refuse (logEvent s .modifyRefused (portCode p) 0 (refusalByte code) (addressWord a)) p code

/-- Whether a trap_policy covers a kind (chapter 6.1). A code of 3 or above covers none (assumption 22). -/
def trapCovers (policy : Byte) (k : Kind) : Bool :=
  match k with
  | .pageProgram => policy == 2
  | .sectorErase | .blockErase => policy == 1 || policy == 2
  | .commit | .guardFuse | .sealProgram | .sealLock => false

/-- The buffer that a request of a kind takes: a program's, the free one of lowest number (R52). -/
def bufferChoice (s : State) (k : Kind) : Option (Fin 6) :=
  if k = .pageProgram then freeBuffer? s else none

/-- The buffer is taken and filled from the port's latch, for a program (R37, R52). -/
def takeProgramBuffer (s : State) (p : Port) (k : Kind) : State :=
  if k = .pageProgram then takeFree s (portOrigin p) (bufferFromLatch s p) else s

/-- Step 12 of R40: tag, buffer, entry at the tail (R46). -/
def acceptModify (s : State) (p : Port) (k : Kind) (phys : Nat) (auto : Bool) : State :=
  let t := tagFor s p
  enqueue (takeProgramBuffer (noteTag s p t) p k)
    (newEntry t (portOrigin p) k (granule k phys) (bufferChoice s k) false auto)

/-- The trap deadline that starts at a hold (R96): none when trap_timeout is 0. -/
def trapDeadline (s : State) : Option Nat :=
  if s.activeImage.settings.trapTimeout = 0 then none
  else some s.activeImage.settings.trapTimeout.toNat

/-- The slot that a trapped request fills (R96). A default_action code of 2 or above is DENY
(assumption 22). -/
def heldSlot (s : State) (k : Kind) (i : Fin 16) (logical phys : Nat) : MailSlot :=
  { state := .held, tag := tagFor s .a, kind := k, entry := i.val, logical := logical,
    physical := phys, deadline := trapDeadline s,
    release := s.activeImage.entries[i].defaultAction == 1
    count := if k = .pageProgram then (s.port .a).latch.length else 0
    redirected := false, auto := false, buffer := bufferChoice s k }

/-- A slot is filled, and its trap deadline started: a tick of this instant does not count (R15, R96). -/
def startTrapDeadline (s : State) (slot : SlotId) : State :=
  { s with started := match slot with
      | .s0 => { s.started with trap0 := true }
      | .s1 => { s.started with trap1 := true } }

/-- A trapped request is held in a slot (R96). -/
def holdRequest (s : State) (slot : SlotId) (k : Kind) (i : Fin 16) (logical phys : Nat) : State :=
  startTrapDeadline ((takeProgramBuffer (noteTag s .a (tagFor s .a)) .a k).setSlot slot
    (heldSlot s k i logical phys)) slot

/-- The lowest-numbered EMPTY slot (R95). -/
def emptySlotId (s : State) : Option SlotId :=
  if s.slot0.state = .empty then some .s0 else if s.slot1.state = .empty then some .s1 else none

/-- A trapped request resolved at once by DENY, while LAPSED (R109). -/
def denyAtOnce (s : State) (k : Kind) (phys : Nat) : State :=
  let t := tagFor s .a
  pushCompletion (logEvent (noteTag s .a t) .trapAuto 1 t 0 (addressWord phys)) .a
    { tag := t, kind := k, outcome := .denied, redirected := false, auto := true }

/-- A trapped request resolved at once by RELEASE, while LAPSED (R109). -/
def releaseAtOnce (s : State) (k : Kind) (phys : Nat) : State :=
  if queueFull s then refuse s .a .queueFull
  else
    logEvent (acceptModify s .a k phys true) .trapAuto 1 (tagFor s .a) 1
      (addressWord (granuleBase k phys))

/-- Steps 11 and 12 of R40 (R46). -/
def queueModify (s : State) (p : Port) (k : Kind) (phys : Nat) : State :=
  if queueFull s then refuse s p .queueFull else acceptModify s p k phys false

/-- Step 10 of R40 for a Port A request in a covering entry, and what follows it (R95, R109). A
default_action code of 2 or above is DENY (assumption 22). -/
def trapStep (s : State) (k : Kind) (i : Fin 16) (logical phys : Nat) : State :=
  if trapCovers s.activeImage.entries[i].trapPolicy k then
    if s.watchdog.state = .lapsed then
      (if s.activeImage.entries[i].defaultAction = 1 then releaseAtOnce s k phys
       else denyAtOnce s k phys)
    else
      match emptySlotId s with
      | some slot => holdRequest s slot k i logical phys
      | none => refuse s .a .trapFull
  else queueModify s .a k phys

/-- Steps 7 to 9 of R40 (R43, R44). -/
def modifyChecks (s : State) (p : Port) (k : Kind) : List (Bool × RefusalCode) :=
  [(barrierPending s, .storeUpdating),
   (decide (Config.outstandingCap ≤ outstanding s p), .portLimit),
   (k == .pageProgram && bufferShort s (portOrigin p), .noBuffer)]

/-- Steps 3 to 12 of R40. -/
def decideModify (s : State) (p : Port) (k : Kind) (f : Frame) : State :=
  let field := be32 f.bytes 0
  if !addressInSpace field then refuse s p .addressRange
  else if k == .pageProgram && (f.bytes.drop 4).isEmpty then refuse s p .noData
  else
    match modifyTarget s p field.toNat with
    | .error code => refuseModify s p field.toNat code
    | .ok (phys, covering) =>
      decided s p (modifyChecks s p k) fun s =>
        match covering with
        | some i => trapStep s k i field.toNat phys
        | none => queueModify s p k phys

/-- PAGE_PROGRAM (R40): its data stands in the latch until it has been decided (R7, R37). -/
def execPageProgram (p : Port) (f : Frame) (s : State) : Host.Outcome State Fault Refusal :=
  requestEnd s p .pageProgram f fun _ s' =>
    discardLatch (armedDecision (receiveData s' p ((byteAt f.bytes 3).toNat) (f.bytes.drop 4)) p
      fun s'' => decideModify s'' p .pageProgram f) p

/-- SECTOR_ERASE (R40). -/
def execSectorErase (p : Port) (f : Frame) (s : State) : Host.Outcome State Fault Refusal :=
  requestEnd s p .sectorErase f fun _ s' =>
    discardLatch (armedDecision s' p fun s'' => decideModify s'' p .sectorErase f) p

/-- BLOCK_ERASE (R40). -/
def execBlockErase (p : Port) (f : Frame) (s : State) : Host.Outcome State Fault Refusal :=
  requestEnd s p .blockErase f fun _ s' =>
    discardLatch (armedDecision s' p fun s'' => decideModify s'' p .blockErase f) p

/-! ### CANCEL, SUSPEND, RESUME -/

/-- The entry that CANCEL names: of the issuer's origin, not an orphan, with the tag (R84). -/
def namedBy (p : Port) (t : Byte) (e : Entry) : Bool := ownedLive (portOrigin p) e && e.tag == t

/-- Port A's slot that holds a tag (R84). -/
def slotNamed (s : State) (p : Port) (t : Byte) : Option SlotId :=
  if p = .a then
    (if slotFilled s.slot0 && s.slot0.tag == t then some .s0
     else if slotFilled s.slot1 && s.slot1.tag == t then some .s1 else none)
  else none

/-- The record of a cancelled entry (R85). -/
def cancelledEntry (e : Entry) : Completion :=
  { tag := e.tag, kind := e.kind, outcome := .cancelled, redirected := e.redirected, auto := e.auto }

/-- An accepted CANCEL of a WAITING entry (R85). -/
def cancelEntry (s : State) (p : Port) (e : Entry) : State :=
  fillFromMailbox (pushCompletion
    (releaseBuffer { s with queue := s.queue.eraseP (namedBy p e.tag) } e.buffer)
    p (cancelledEntry e))

/-- An accepted CANCEL of a slot (R105). -/
def cancelSlot (s : State) (i : SlotId) : State :=
  pushCompletion (emptySlotAt s i) .a
    { tag := (s.slot i).tag, kind := (s.slot i).kind, outcome := .cancelled,
      redirected := (s.slot i).redirected, auto := (s.slot i).auto }

/-- Steps 2 to 5 of R84. -/
def decideCancel (s : State) (p : Port) (t : Byte) : State :=
  if t = 0 then refuse s p .notFound
  else
    match slotNamed s p t with
    | some i => cancelSlot s i
    | none =>
      match s.queue.find? (namedBy p t) with
      | none => refuse s p .notFound
      | some e => if isWaiting e then cancelEntry s p e else refuse s p .entryState

/-- CANCEL (R84). -/
def execCancel (p : Port) (f : Frame) (s : State) : Host.Outcome State Fault Refusal :=
  requestEnd s p .cancel f fun _ s' => decideCancel s' p (byteAt f.bytes 0)

/-- The issuer may act on an erase: Port M on any, Port A on its own that are no orphans (R86, R89). -/
def mayCommand (p : Port) (e : Entry) : Bool := p == .m || ownedLive .a e

/-- The effect of an accepted SUSPEND (R87). -/
def takeSuspend (s : State) : State :=
  match s.suspend with
  | .pending | .taking => s
  | .none => { s with suspend := if s.quantum.isSome then .pending else .taking }

/-- SUSPEND (R86, R87). -/
def execSuspend (p : Port) (f : Frame) (s : State) : Host.Outcome State Fault Refusal :=
  requestEnd s p .suspend f fun _ s' =>
    match activeEntry s' with
    | none => refuse s' p .suspendRefused
    | some e =>
      decided s' p
        [(!isEraseKind e.kind, .suspendRefused), (!mayCommand p e, .notOwner),
         ((suspendedEntry s').isSome, .suspendRefused)] takeSuspend

/-- Sets resume-pending on the SUSPENDED entry (R89, R90). -/
def setResumePending (s : State) : State :=
  { s with queue := updateFirst isSuspended (fun e => { e with resumePending := true }) s.queue }

/-- RESUME (R89). -/
def execResume (p : Port) (f : Frame) (s : State) : Host.Outcome State Fault Refusal :=
  requestEnd s p .resume f fun _ s' =>
    match suspendedEntry s' with
    | none => refuse s' p .resumeRefused
    | some e => decided s' p [(!mayCommand p e, .notOwner)] setResumePending

end Sys2Proof.Machine
end

