-- ==== Sys2Proof/Machine/MailboxCommands.lean ====
section
/-! DEFINITION. The mailbox commands (R99 to R103), RELEASING_SLOT_ENTRY (R100), TRAP_DEADLINE_EXPIRY
(R104), and the watchdog: HEARTBEAT (R107), its warning point (R106) and its lapse (R108). -/

namespace Sys2Proof.Machine

/-- The slot a resolution names is HELD; BAD_ARGUMENT and SLOT_STATE otherwise (R99). -/
def withHeldSlot (s : State) (p : Port) (field : Byte) (act : SlotId → State) : State :=
  match slotOfField field with
  | none => refuse s p .badArgument
  | some i => if (s.slot i).state = .held then act i else refuse s p .slotState

/-- MAILBOX_RELEASE (R99, R100). -/
def execMailboxRelease (p : Port) (f : Frame) (s : State) : Host.Outcome State Fault Refusal :=
  requestEnd s p .mailboxRelease f fun _ s' =>
    withHeldSlot s' p (byteAt f.bytes 0) fun i => releaseSlot s' i

/-- The physical address of a redirected request: the new granule's base plus the old offset (R101). -/
def redirectedAddress (k : Kind) (new old : Nat) : Nat := granuleBase k new + old % granuleBytes k

/-- An accepted MAILBOX_REDIRECT (R101). -/
def redirectSlot (s : State) (i : SlotId) (new : Nat) : State :=
  let sl := s.slot i
  let a := redirectedAddress sl.kind new sl.physical
  releaseSlot
    (logEvent (s.setSlot i { sl with physical := a, redirected := true })
      .trapRedirected 1 sl.tag (kindCode sl.kind) (addressWord a)) i

/-- MAILBOX_REDIRECT (R99, R101). -/
def execMailboxRedirect (p : Port) (f : Frame) (s : State) : Host.Outcome State Fault Refusal :=
  requestEnd s p .mailboxRedirect f fun _ s' =>
    withHeldSlot s' p (byteAt f.bytes 0) fun i =>
      let field := be32 f.bytes 1
      if !addressInSpace field then refuse s' p .addressRange
      else
        match portMWriteRefusal s' (granuleBase (s'.slot i).kind field.toNat) with
        | some code => refuse s' p code
        | none => redirectSlot s' i field.toNat

/-- MAILBOX_DENY (R99, R102). -/
def execMailboxDeny (p : Port) (f : Frame) (s : State) : Host.Outcome State Fault Refusal :=
  requestEnd s p .mailboxDeny f fun _ s' =>
    withHeldSlot s' p (byteAt f.bytes 0) fun i =>
      logEvent (denySlot s' i false) .trapDenied 1 (s'.slot i).tag (kindCode (s'.slot i).kind)
        (addressWord (s'.slot i).physical)

/-- The latch bytes go into a slot's buffer (R103). -/
def writeSlotBuffer (s : State) (p : Port) (b : Option (Fin 6)) : State :=
  match b with
  | none => s
  | some i =>
    match s.pool[i] with
    | none => s
    | some pb =>
      { s with pool := s.pool.set i (some { pb with data := latchCopy (s.port p).latch pb.data }) }

/-- MAILBOX_DATA_WRITE (R103). -/
def execMailboxDataWrite (p : Port) (f : Frame) (s : State) : Host.Outcome State Fault Refusal :=
  requestEnd s p .mailboxDataWrite f fun _ s' =>
    let s1 := receiveData s' p ((byteAt f.bytes 1).toNat) (f.bytes.drop 2)
    discardLatch (withHeldSlot s1 p (byteAt f.bytes 0) fun i =>
      decided s1 p
        [((s1.slot i).kind != .pageProgram, .slotState), ((f.bytes.drop 2).isEmpty, .noData)]
        fun s1 => writeSlotBuffer s1 p (s1.slot i).buffer) p

/-- RELEASING_SLOT_ENTRY (R17, R100). Every operation that frees a queue entry already lets RELEASING
slots in (R17), so from those states nothing is left for the row to do (assumption 8). -/
def execReleasingSlotEntry (s : State) : Host.Outcome State Fault Refusal :=
  if s.power = .active then finish (fillFromMailbox s) else finish s

/-- The default action of a HELD slot (R104, R108). -/
def resolveByDefault (s : State) (i : SlotId) (auto : Bool) (kind : EventKind) : State :=
  let sl := s.slot i
  if sl.release then
    logEvent (releaseSlot (s.setSlot i { sl with auto := sl.auto || auto }) i) kind 1 sl.tag 1
      (addressWord sl.physical)
  else logEvent (denySlot s i auto) kind 1 sl.tag 0 (addressWord sl.physical)

/-- TRAP_DEADLINE_EXPIRY (R104): of a HELD slot whose deadline has counted its ticks (R15). -/
def execTrapDeadlineExpiry (i : SlotId) (s : State) : Host.Outcome State Fault Refusal :=
  if s.power = .active ∧ (s.slot i).state = .held ∧ (s.slot i).deadline = some 0 then
    finish (resolveByDefault s i false .trapTimeout)
  else finish s

/-- HEARTBEAT (R107). -/
def execHeartbeat (p : Port) (f : Frame) (s : State) : Host.Outcome State Fault Refusal :=
  requestEnd s p .heartbeat f fun _ s' =>
    match s'.watchdog.state with
    | .disabled => s'
    | .armed => startWatchdog s'
    | .lapsed => logEvent (startWatchdog s') .watchdogRestored 2 0 0 noAddress

/-- WATCHDOG_WARNING_POINT (R106): of a countdown that has reached it. -/
def execWatchdogWarningPoint (s : State) : Host.Outcome State Fault Refusal :=
  if s.power = .active ∧ s.watchdog.state = .armed ∧ s.watchdog.warnLeft = 0 then
    finish { s with watchdog := { s.watchdog with warn := true } }
  else finish s

/-- A slot that is HELD at the lapse is resolved by its default action, with AUTO (R108). -/
def lapseSlot (s : State) (i : SlotId) : State :=
  if (s.slot i).state = .held then resolveByDefault s i true .trapAuto else s

/-- The lapse (R108). -/
def lapse (s : State) : State :=
  lapseSlot (lapseSlot
    (logEvent { s with watchdog := stoppedWatchdog .lapsed } .watchdogLapse 0 0 0 noAddress)
    .s0) .s1

/-- WATCHDOG_LAPSE (R108): of a countdown that has run out. -/
def execWatchdogLapse (s : State) : Host.Outcome State Fault Refusal :=
  if s.power = .active ∧ s.watchdog.state = .armed ∧ s.watchdog.left = 0 then finish (lapse s)
  else finish s

end Sys2Proof.Machine
end

