-- ==== Sys2Proof/Machine/ConfigStore.lean ====
section
/-! DEFINITION. The configuration commands: the staging edits (R62 to R66), SWAP_VIEWS (R70), the settings
writes (R134), LOCK_SESSION (R137), COMMIT (R140 to R142), GUARD_FUSE (R144), SEAL_PROGRAM (R146)
and SEAL_LOCK (R148); and the configuration load (R139). -/

namespace Sys2Proof.Machine

/-! ### Staging edits, swaps and settings writes -/

/-- Steps 2 and 3 of the staging edits and settings writes (R63, R134). -/
def editChecks (s : State) : List (Bool × RefusalCode) :=
  [(!guardPermits s, .guarded), (barrierPending s, .storeUpdating)]

/-- Puts an entry into the staging image (R64, R65). -/
def setStagingEntry (s : State) (i : Fin 16) (e : PartEntry) : State :=
  { s with stagingImage := { s.stagingImage with entries := s.stagingImage.entries.set i e } }

/-- The table index that a field names, 0 to 15 (R64, R65, R70). -/
def tableIndex (b : Byte) : Option (Fin 16) :=
  if h : b.toNat < 16 then some ⟨b.toNat, h⟩ else none

/-- TABLE_WRITE_ENTRY (R63, R64). -/
def execTableWriteEntry (p : Port) (f : Frame) (s : State) : Host.Outcome State Fault Refusal :=
  requestEnd s p .tableWriteEntry f fun _ s' =>
    decided s' p
      (editChecks s' ++ [(!entryInRange (entryOf (f.bytes.drop 1)), .badArgument)]) fun s' =>
        match tableIndex (byteAt f.bytes 0) with
        | some i => setStagingEntry s' i (entryOf (f.bytes.drop 1))
        | none => refuse s' p .badArgument

/-- TABLE_CLEAR_ENTRY (R63, R65). -/
def execTableClearEntry (p : Port) (f : Frame) (s : State) : Host.Outcome State Fault Refusal :=
  requestEnd s p .tableClearEntry f fun _ s' =>
    decided s' p (editChecks s') fun s' =>
      match tableIndex (byteAt f.bytes 0) with
      | some i => setStagingEntry s' i clearedEntry
      | none => refuse s' p .badArgument

/-- STAGE_FROM_ACTIVE (R63, R66). -/
def execStageFromActive (p : Port) (f : Frame) (s : State) : Host.Outcome State Fault Refusal :=
  requestEnd s p .stageFromActive f fun _ s' =>
    decided s' p (editChecks s') fun s' => { s' with stagingImage := s'.activeImage }

/-- The two entries are a swap pair of the active image as far as step 4 of R70 asks. -/
def swapPair (im : Image) (i j : Fin 16) : Bool :=
  i != j && entryValid im.entries[i] && entryValid im.entries[j]
    && entrySwappable im.entries[i] && entrySwappable im.entries[j]
    && im.entries[i].aliasIndex.toNat == j.val && im.entries[j].aliasIndex.toNat == i.val

/-- The entries with the view_base fields of two of them exchanged (R70). -/
def swapViews (es : Vector PartEntry 16) (i j : Fin 16) : Vector PartEntry 16 :=
  (es.set i { es[i] with viewBase := es[j].viewBase }).set j
    { es[j] with viewBase := es[i].viewBase }

/-- SWAP_VIEWS (R70). -/
def execSwapViews (p : Port) (f : Frame) (s : State) : Host.Outcome State Fault Refusal :=
  requestEnd s p .swapViews f fun _ s' =>
    decided s' p [(s'.sessionLock, .guarded), (barrierPending s', .storeUpdating)] fun s' =>
      match tableIndex (byteAt f.bytes 0), tableIndex (byteAt f.bytes 1) with
      | some i, some j =>
        if swapPair s'.activeImage i j then
          { s' with
            activeImage :=
              { s'.activeImage with entries := swapViews s'.activeImage.entries i j }
            dirty := true }
        else refuse s' p .badArgument
      | _, _ => refuse s' p .badArgument

/-- SETTINGS_WRITE_STAGED (R134). -/
def execSettingsWriteStaged (p : Port) (f : Frame) (s : State) :
    Host.Outcome State Fault Refusal :=
  requestEnd s p .settingsWriteStaged f fun _ s' =>
    let off := (byteAt f.bytes 0).toNat
    let v := byteAt f.bytes 1
    decided s' p
      (editChecks s' ++ [(!(decide (off ≤ 12) && settingInRange off v), .badArgument)]) fun s' =>
        { s' with stagingImage :=
            { s'.stagingImage with settings := settingsPut s'.stagingImage.settings off v } }

/-- A live write of a settings byte: the active image, DIRTY (R134), and the watchdog for byte 10 (R110). -/
def writeLive (s : State) (off : Nat) (v : Byte) : State :=
  let s1 := { s with
    activeImage := { s.activeImage with settings := settingsPut s.activeImage.settings off v }
    dirty := true }
  if off = 10 then watchdogWritten s1 else s1

/-- SETTINGS_WRITE_LIVE (R134). -/
def execSettingsWriteLive (p : Port) (f : Frame) (s : State) :
    Host.Outcome State Fault Refusal :=
  requestEnd s p .settingsWriteLive f fun _ s' =>
    let off := (byteAt f.bytes 0).toNat
    let v := byteAt f.bytes 1
    decided s' p
      (editChecks s' ++
        [(!(decide (8 ≤ off) && decide (off ≤ 11) && settingInRange off v), .badArgument)])
      fun s' => writeLive s' off v

/-- LOCK_SESSION (R137). -/
def execLockSession (p : Port) (f : Frame) (s : State) : Host.Outcome State Fault Refusal :=
  requestEnd s p .lockSession f fun _ s' =>
    if s'.sessionLock then s'
    else logEvent { s' with sessionLock := true } .sessionLocked 2 0 0 noAddress

/-! ### COMMIT, GUARD_FUSE and the seal requests: acceptance -/

/-- A Port M request takes a tag and joins the queue tail (R140, R144, R146, R148). -/
def acceptEntry (s : State) (k : Kind) (target : Target) (buffer : Option (Fin 6)) : State :=
  enqueue (noteTag s .m (tagFor s .m)) (newEntry (tagFor s .m) .m k target buffer false false)

/-- The outstanding limit and the queue check of a Port M request (R140, R144, R148). -/
def roomChecks (s : State) : List (Bool × RefusalCode) :=
  [(decide (Config.outstandingCap ≤ outstanding s .m), .portLimit), (queueFull s, .queueFull)]

/-- COMMIT (R140). Validation writes the validation detail, whether it passes or not (R69). -/
def execCommit (p : Port) (f : Frame) (s : State) : Host.Outcome State Fault Refusal :=
  requestEnd s p .commit f fun _ s' =>
    armedDecision s' p fun s' =>
      decided s' p (editChecks s') fun s' =>
        let s1 := { s' with validation := validationDetail s'.stagingImage }
        decided s1 p
          ([((tableFault s'.stagingImage).isSome, .tableInvalid),
            (s1.generation == 0xFFFFFFFF#32, .storeExhausted)] ++ roomChecks s1) fun s1 =>
              acceptEntry s1 .commit .nothing none

/-- GUARD_FUSE (R144). -/
def execGuardFuse (p : Port) (f : Frame) (s : State) : Host.Outcome State Fault Refusal :=
  requestEnd s p .guardFuse f fun _ s' =>
    armedDecision s' p fun s' =>
      decided s' p (editChecks s' ++ [(s'.dirty, .dirty)] ++ roomChecks s') fun s' =>
        acceptEntry s' .guardFuse .nothing none

/-- The page is locked, or a SEAL_LOCK entry for it is in the queue (R146, R148). -/
def sealLocked (s : State) (page : Nat) : Bool :=
  s.sealLocks.getLsbD page ||
    s.queue.any fun e => e.kind == .sealLock && targetsOverlap e.target (.sealPage page 0)

/-- The half of a seal page that contains an offset (R146). -/
def sealHalf (offset : Half) : Nat := if offset.getLsbD 8 then 256 else 0

/-- SEAL_PROGRAM (R146). -/
def execSealProgram (p : Port) (f : Frame) (s : State) : Host.Outcome State Fault Refusal :=
  requestEnd s p .sealProgram f fun _ s' =>
    let page := (byteAt f.bytes 0).toNat
    let offset := be16 f.bytes 1
    let decide := fun (s' : State) => decided s' p
        [(s'.sessionLock, .guarded),
         (!(decide (page < Config.sealPages) && decide (offset.toNat < Config.sealPageBytes)),
           .badArgument),
         ((f.bytes.drop 3).isEmpty, .noData),
         (sealLocked s' page, .sealLocked),
         (decide (Config.outstandingCap ≤ outstanding s' .m), .portLimit),
         (bufferShort s' .m, .noBuffer),
         (queueFull s', .queueFull)] fun s' =>
          acceptEntry (takeFree s' .m (bufferFromLatch s' p)) .sealProgram
            (.sealPage page (sealHalf offset)) (freeBuffer? s')
    discardLatch (armedDecision
      (receiveData s' p ((byteAt f.bytes 2).toNat) (f.bytes.drop 3)) p decide) p

/-- SEAL_LOCK (R148). -/
def execSealLock (p : Port) (f : Frame) (s : State) : Host.Outcome State Fault Refusal :=
  requestEnd s p .sealLock f fun _ s' =>
    let page := (byteAt f.bytes 0).toNat
    armedDecision s' p fun s' =>
      decided s' p
        ([(s'.sessionLock, .guarded), (decide (Config.sealPages ≤ page), .badArgument),
          (sealLocked s' page, .sealLocked)] ++ roomChecks s') fun s' =>
          acceptEntry s' .sealLock (.sealPage page 0) none

/-! ### What COMMIT does when it starts and when it completes -/

/-- The staging image equals the image of the selected slot (R141). -/
def commitUnchanged (s : State) : Bool :=
  match s.selected with
  | some i => slotImageBytes (s.store i) == imageToBytes s.stagingImage
  | none => false

/-- The other store slot. -/
def otherSlot : SlotId → SlotId
  | .s0 => .s1
  | .s1 => .s0

/-- The slot that a COMMIT writes (R141): one that is BLANK or TORN, slot 0 when both are; else the one
with the lower generation, or with equal generations the one not selected. -/
def commitTarget (s : State) : SlotId :=
  if s.class0 != .valid then .s0
  else if s.class1 != .valid then .s1
  else if slotGeneration s.store0 < slotGeneration s.store1 then .s0
  else if slotGeneration s.store1 < slotGeneration s.store0 then .s1
  else otherSlot (s.selected.getD .s1)

/-- What a COMMIT does at its start (R141): it compares; a writing one makes its target TORN. -/
def startCommit (s : State) : State :=
  if commitUnchanged s then { s with commitRun := some .unchanged }
  else ({ s with commitRun := some (.writing (commitTarget s)) }).setStoreClass (commitTarget s) .torn

/-- The staging image replaces the active image, DIRTY 0, with every consequence: a changed interval
acts on the watchdog (R110, R142). -/
def applyStaging (s : State) : State :=
  let s1 := { s with activeImage := s.stagingImage, dirty := false }
  if s.stagingImage.settings.watchdogInterval = s.activeImage.settings.watchdogInterval then s1
  else watchdogWritten s1

/-- Applying the staging image will log WATCHDOG_DISABLED (R110). -/
def applyDisablesLapsed (s : State) : Bool :=
  s.watchdog.state == .lapsed && s.stagingImage.settings.watchdogInterval == 0
    && s.activeImage.settings.watchdogInterval != 0

/-- A successful commit's event (R142) and its application. Where the application itself logs an event,
no rule gives the order of the two, and it is free (assumption 9). -/
def applyCommit (s : State) (kind : EventKind) (t detail : Byte) (address : Word) : State :=
  if applyDisablesLapsed s && !Config.commitEventFirst then
    logEvent (applyStaging s) kind 2 t detail address
  else applyStaging (logEvent s kind 2 t detail address)

/-- The bytes that a COMMIT programs (R141). -/
def commitBytes (s : State) : List Byte := slotOf (s.generation + 1) s.stagingImage

/-- The result of a COMMIT (R142), given the bits of the target slot that do not hold their value. A slot that
a failed commit leaves is TORN and does not classify as VALID at a later load (R56). -/
def commitResult (s : State) (t : Byte) (stuck : StuckBits) : State × OpOutcome :=
  let s0 := { s with commitRun := none }
  match s.commitRun with
  | some (.writing i) =>
    if slotWithStuck (commitBytes s) stuck = commitBytes s then
      (applyCommit
        { (s0.setStore i (commitBytes s)).setStoreClass i .valid with
          selected := some i, generation := s.generation + 1 }
        .commitDone t (slotCode i) (s.generation + 1), .done)
    else
      (logEvent
        ((s0.setStore i (unfinishedSlot (slotWithStuck (commitBytes s) stuck))).setStoreClass i .torn)
        .commitFailed 2 t (slotCode i) (s.generation + 1), .failed)
  | some .unchanged | none =>
    (applyCommit s0 .commitUnchanged t (slotCode (s.selected.getD .s0)) s.generation, .done)

/-! ### The configuration load -/

/-- Logs a TORN slot (R139). -/
def logTornSlot (s : State) (i : SlotId) : State :=
  if s.storeClass i = .torn then logEvent s .storeSlotTorn 0 0 (slotCode i) noAddress else s

/-- The selected slot (R139): the VALID slot of higher generation, slot 0 when they are equal. -/
def selectSlot (s : State) : Option SlotId :=
  match s.class0, s.class1 with
  | .valid, .valid =>
    if slotGeneration s.store0 < slotGeneration s.store1 then some .s1 else some .s0
  | .valid, _ => some .s0
  | _, .valid => some .s1
  | _, _ => none

/-- Takes the selected slot's image, or the factory image with its event (R139). -/
def takeImage (s : State) : State :=
  match selectSlot s with
  | some i =>
    { s with
      activeImage := imageOf (slotImageBytes (s.store i))
      stagingImage := imageOf (slotImageBytes (s.store i))
      selected := some i
      generation := slotGeneration (s.store i)
      dirty := false
      validation := 0 }
  | none =>
    logEvent
      { s with
        activeImage := factoryImage, stagingImage := factoryImage, selected := none,
        generation := 0, dirty := true, validation := 0 }
      .storeDefaulted 0 0 0 noAddress

/-- The configuration load (R139): classification, events, selection, images, and what follows from
them: the watchdog (R106) and the ports' current settings (R11). -/
def loadConfig (s : State) : State :=
  let s1 := { s with class0 := classify s.store0, class1 := classify s.store1 }
  let s2 := takeImage (logTornSlot (logTornSlot s1 .s0) .s1)
  takeDefaults (takeDefaults (watchdogLoaded s2) .a) .m

end Sys2Proof.Machine
end

