-- ==== Sys2Proof/Machine/Engine.lean ====
section
/-! DEFINITION. The job engine and the Digest Unit: loading (R113, R114), the controls (R116 to R120),
steps (R121 to R124), ends and faults (R125, R130), internal reads, VERIFY and DIGEST (R126 to R129). -/

namespace Sys2Proof.Machine

/-! ### Loading -/

/-- The number of an option type (chapter 7.2); 0 for a type byte outside 1 to 4. -/
def optionType : JobOption → Nat
  | .badType => 0
  | .preErase => 1
  | .fillValue _ => 2
  | .mismatchPolicy _ => 3
  | .digestSeed _ => 4

/-- The kind allows the option, and its value is in range (chapter 7.2, R114). -/
def optionAllowed (k : JobKind) : JobOption → Bool
  | .preErase => k == .copy || k == .fill
  | .fillValue _ => k == .fill
  | .mismatchPolicy v => k == .verify && decide (v.toNat ≤ 1)
  | .digestSeed _ => k == .digest
  | .badType => false

/-- PRE_ERASE is given. -/
def hasPreErase (os : List JobOption) : Bool := os.contains .preErase

/-- A multiple of n. -/
def aligned (n a : Nat) : Bool := a % n == 0

/-- A range is within the array (R114). -/
def inArray (a len : Nat) : Bool := decide (a + len ≤ Config.arrayBytes)

/-- The range checks of R114 for a kind. -/
def rangesOk (k : JobKind) (os : List JobOption) (src dst len : Nat) : Bool :=
  match k with
  | .copy =>
    inArray src len && inArray dst len && aligned 256 src && aligned 256 dst && aligned 256 len
      && len != 0 && (!hasPreErase os || (aligned 4096 dst && aligned 4096 len))
      && !rangesMeet src len dst len
  | .fill =>
    src == 0 && inArray dst len && aligned 256 dst && aligned 256 len && len != 0
      && (!hasPreErase os || (aligned 4096 dst && aligned 4096 len))
  | .eraseRange =>
    src == 0 && inArray dst len && aligned 4096 dst && aligned 4096 len && len != 0
  | .verify =>
    inArray src len && inArray dst len && len != 0 && !rangesMeet src len dst len
  | .digest => dst == 0 && inArray src len && len != 0

/-- The descriptor passes every check of R114. -/
def descriptorOk (k : JobKind) (count : Nat) (os : List JobOption) (src dst len : Nat) : Bool :=
  decide (count ≤ 4) && os.all (optionAllowed k) && decide (os.map optionType).Nodup
    && rangesOk k os src dst len

/-- The FILL_VALUE given, or its default (chapter 7.2). -/
def fillOf (os : List JobOption) : Byte :=
  (os.findSome? fun o => match o with | .fillValue v => some v | _ => none).getD 0
/-- MISMATCH_POLICY STOP is given (chapter 7.2). -/
def stopOf (os : List JobOption) : Bool := os.contains (.mismatchPolicy 1)
/-- The DIGEST_SEED given, or its default (chapter 7.2). -/
def seedOf (os : List JobOption) : Word :=
  (os.findSome? fun o => match o with | .digestSeed v => some v | _ => none).getD 0xFFFFFFFF#32

/-- A descriptor in state LOADED (R112). -/
def newDescriptor (id : Byte) (k : JobKind) (os : List JobOption) (src dst len : Nat) :
    Descriptor :=
  { id := id, state := .loaded, kind := k, source := src, dest := dst, length := len,
    preErase := hasPreErase os, fill := fillOf os, stop := stopOf os, seed := seedOf os,
    bytesDone := 0, digest := none, mismatches := none, firstMismatch := none, fault := none }

/-- The descriptor that a JOB_LOAD frame describes, if it passes R114; `id` is its job id. -/
def loadedDescriptor (id : Byte) (bs : List Byte) : Option Descriptor :=
  match jobKindOf (byteAt bs 0), jobOptionsOf bs with
  | some k, some os =>
    if descriptorOk k (byteAt bs 13).toNat os (be32 bs 1).toNat (be32 bs 5).toNat (be32 bs 9).toNat
    then some (newDescriptor id k os (be32 bs 1).toNat (be32 bs 5).toNat (be32 bs 9).toNat)
    else none
  | _, _ => none

/-- JOB_LOAD (R113). -/
def execJobLoad (p : Port) (f : Frame) (s : State) : Host.Outcome State Fault Refusal :=
  requestEnd s p .jobLoad f fun _ s' =>
    if s'.engine = .aborting then refuse s' p .jobState
    else
      match loadedDescriptor s'.jobIdNext f.bytes with
      | none => refuse s' p .badArgument
      | some d =>
        decided s' p [(decide (Config.jobListDepth ≤ s'.jobs.length), .jobListFull)] fun s' =>
          { s' with jobs := s'.jobs ++ [d], jobIdNext := nextTag s'.jobIdNext }

/-! ### The engine -/

/-- Job steps outstanding (chapter 7.3). -/
def stepsOutstanding (s : State) : Nat := s.queue.countP (ownedLive .job)

/-- The next descriptor: the LOADED one of lowest index (R112). -/
def nextLoaded (s : State) : Option Nat := s.jobs.findIdx? fun d => d.state == .loaded

/-- The current descriptor. -/
def currentJob (s : State) : Option Descriptor := s.current.bind fun i => s.jobs[i]?

/-- Changes the current descriptor. -/
def setCurrentJob (s : State) (d : Descriptor) : State :=
  match s.current with
  | some i => { s with jobs := s.jobs.set i d }
  | none => s

/-- The LOADED descriptor at an index becomes RUNNING and current; a DIGEST's register takes the seed
(R116, R129). -/
def beginJob (s : State) (i : Nat) : State :=
  match s.jobs[i]? with
  | some d =>
    { s with
      jobs := s.jobs.set i { d with state := .running }
      current := some i
      cursor := { pos := 0, erased := false }
      crc := if d.kind = .digest then d.seed else s.crc }
  | none => s

/-- The engine enters IDLE at the end of a run, and JOB_ATTN is set (R115). -/
def enterIdle (s : State) : State :=
  { s with engine := .idle, current := none, jobAttn := true }

/-- The end of an abort (R118). -/
def endAbort (s : State) : State :=
  enterIdle { s with jobs := s.jobs.map fun d =>
    if d.state = .running ∨ d.state = .loaded then { d with state := .cancelled } else d }

/-- The drain transitions of R117, R118 and R130, at an instant with no job step outstanding. -/
def drainCheck (s : State) : State :=
  if stepsOutstanding s = 0 then
    match s.engine with
    | .idle | .paused | .halted => s
    | .aborting => endAbort s
    | .running =>
      if (currentJob s).any (·.state == .faulted) then
        { s with engine := .halted, current := none, jobAttn := true }
      else s
    | .pausing =>
      if (currentJob s).any (·.state == .faulted) then
        { s with engine := .halted, current := none, jobAttn := true }
      else if (currentJob s).isSome || (nextLoaded s).isSome then
        { s with engine := .paused, jobAttn := true }
      else enterIdle s
  else s

/-- The start of the range a job acts on, for JOB_DONE (R125). -/
def rangeStart (d : Descriptor) : Nat :=
  match d.kind with
  | .copy | .fill | .eraseRange => d.dest
  | .verify | .digest => d.source

/-- The engine moves on from a DONE descriptor (R125): PAUSING keeps none current; RUNNING takes the next
LOADED descriptor, or enters IDLE. -/
def moveOn (s : State) : State :=
  match s.engine with
  | .running =>
    match nextLoaded s with
    | some i => beginJob s i
    | none => enterIdle s
  | .idle | .pausing | .paused | .aborting | .halted => { s with current := none }

/-- The current descriptor becomes DONE (R125, R129). -/
def finishJob (s : State) (d : Descriptor) : State :=
  moveOn
    (logEvent
      (setCurrentJob s { d with
        state := .done
        digest := if d.kind = .digest then some (crcFinal s.crc) else d.digest })
      .jobDone 3 d.id (jobKindCode d.kind) (addressWord (rangeStart d)))

/-- The current descriptor faults (R130), unless it has faulted already (R124). -/
def faultJob (s : State) (d : Descriptor) (code : JobFault) (a : Nat) : State :=
  if d.state = .faulted then s
  else
    logEvent (setCurrentJob s { d with state := .faulted, fault := some (code, a) })
      .jobFault 3 d.id (jobFaultCode code) (addressWord a)

/-! ### Steps -/

/-- The step at a cursor: its kind and the base of its target; `none` when every step has been issued
(R121). -/
def stepAt (d : Descriptor) (c : Cursor) : Option (Kind × Nat) :=
  if d.length ≤ c.pos then none
  else
    match d.kind with
    | .copy | .fill =>
      if d.preErase && aligned 4096 c.pos && !c.erased then some (.sectorErase, d.dest + c.pos)
      else some (.pageProgram, d.dest + c.pos)
    | .eraseRange =>
      if aligned Config.blockBytes (d.dest + c.pos)
          && decide (Config.blockBytes ≤ d.length - c.pos) then
        some (.blockErase, d.dest + c.pos)
      else some (.sectorErase, d.dest + c.pos)
    | .verify | .digest => none

/-- The cursor after a step of a kind has been issued (R121). -/
def cursorAfter (d : Descriptor) (c : Cursor) (k : Kind) : Cursor :=
  if d.kind = .eraseRange then { pos := c.pos + granuleBytes k, erased := false }
  else if k = .sectorErase then { pos := c.pos, erased := true }
  else { pos := c.pos + Config.pageBytes, erased := false }

/-- What a DONE step adds to bytes_done (R124): nothing for an erase issued for PRE_ERASE. -/
def stepBytes (d : Descriptor) (k : Kind) : Nat :=
  if k = .pageProgram ∨ d.kind = .eraseRange then granuleBytes k else 0

/-- A page is readable by the engine (R126). -/
def pageReadable (s : State) (a : Nat) : Bool :=
  !bankBusyAt s a && !meetsSuspended s (granuleBase .pageProgram a) Config.pageBytes

/-- The buffer content of a page step (R121, R123). -/
def stepData (s : State) (d : Descriptor) (c : Cursor) : Memory :=
  if d.kind = .fill then memFill d.fill else memPage s.array (d.source + c.pos)

/-- The five conditions of R122 for a step. -/
def stepReady (s : State) (d : Descriptor) (k : Kind) : Bool :=
  !queueFull s && decide (stepsOutstanding s < Config.jobWindow) && !barrierPending s
    && (k != .pageProgram || !bufferShort s .job)
    && (!(k == .pageProgram && d.kind == .copy) || pageReadable s (d.source + s.cursor.pos))

/-- The step enters the queue, with its buffer if it is a page step, and the cursor advances (R123). -/
def issueStep (s : State) (d : Descriptor) (k : Kind) (a : Nat) : State :=
  let s1 := if k = .pageProgram then takeFree s .job (stepData s d s.cursor) else s
  { enqueue s1 (newEntry d.id .job k (granule k a) (bufferChoice s k) false false) with
    cursor := cursorAfter d s.cursor k }

/-- The fault code of a failed rights check (R123). -/
def rightsFault (code : RefusalCode) : JobFault :=
  if code = .guarded then .guarded else .protected_

/-- The engine's decision on a step (R122, R123). -/
def tryStep (s : State) (d : Descriptor) (k : Kind) (a : Nat) : State :=
  if stepReady s d k then
    match portMWriteRefusal s a with
    | some code => drainCheck (faultJob s d (rightsFault code) a)
    | none => issueStep s d k a
  else s

/-- The descriptor that the engine works on: RUNNING, with the engine RUNNING (R122, R127). -/
def workingJob (s : State) : Option Descriptor :=
  if s.engine = .running then (currentJob s).filter (·.state == .running) else none

/-- JOB_STEP_ISSUE (R122, R123). -/
def execJobStepIssue (s : State) : Host.Outcome State Fault Refusal :=
  if s.power = .active then
    match workingJob s with
    | none => finish s
    | some d =>
      match stepAt d s.cursor with
      | none => finish s
      | some (k, a) => finish (tryStep s d k a)
  else finish s

/-- Every step has been issued and none is outstanding, with the descriptor RUNNING and the engine RUNNING
or PAUSING: the descriptor becomes DONE (R124). -/
def finishIfDone (s : State) (d : Descriptor) : State :=
  if d.state = .running ∧ (s.engine = .running ∨ s.engine = .pausing)
      ∧ (stepAt d s.cursor).isNone ∧ stepsOutstanding s = 0 then finishJob s d
  else s

/-- A non-orphan job step's completion is handed to the engine, its entry being gone (R124). R124 adds the
step's bytes to the current descriptor without exception, R130 says that a FAULTED one keeps its
bytes_done; the model adds them to a FAULTED one too (assumption 23). -/
def stepCompleted (s : State) (e : Entry) (out : OpOutcome) : State :=
  match currentJob s with
  | none => drainCheck s
  | some d =>
    if out = .failed then
      drainCheck (faultJob s d .opFailed (targetAddress e.target).toNat)
    else
      let d1 := { d with bytesDone := d.bytesDone + stepBytes d e.kind }
      drainCheck (finishIfDone (setCurrentJob s d1) d1)

/-! ### Chunk reads -/

/-- A run of bytes of the array. -/
def arrayBytesAt (s : State) (a n : Nat) : List Byte :=
  (List.range n).map fun i => memRead s.array (a + i)

/-- Bytes from an address to the end of its page. -/
def toPageEnd (a : Nat) : Nat := Config.pageBytes - a % Config.pageBytes

/-- After a chunk: DONE when the last byte of the range has been processed (R127). -/
def afterChunk (s : State) (d : Descriptor) : State :=
  if d.length ≤ d.bytesDone then finishJob s d else setCurrentJob s d

/-- One chunk of a DIGEST (R127, R129). -/
def digestChunk (s : State) (d : Descriptor) : State :=
  let a := d.source + d.bytesDone
  let n := min (toPageEnd a) (d.length - d.bytesDone)
  if pageReadable s a then
    afterChunk { s with crc := crcRun s.crc (arrayBytesAt s a n) }
      { d with bytesDone := d.bytesDone + n }
  else s

/-- The offsets at which two runs of bytes of one length differ. -/
def mismatchesIn (xs ys : List Byte) : List Nat :=
  (List.range xs.length).filter fun i => byteAt xs i != byteAt ys i

/-- A mismatch count with more mismatches, saturating (R128). -/
def addMismatches (c : Option Word) (n : Nat) : Word :=
  BitVec.ofNat 32 (min ((c.getD 0).toNat + n) 0xFFFFFFFF)

/-- The descriptor after a chunk of a VERIFY of `n` bytes with these mismatches, all compared (R128). -/
def verifyCompared (d : Descriptor) (n : Nat) (bad : List Nat) : Descriptor :=
  { d with
    bytesDone := d.bytesDone + n
    mismatches := some (addMismatches d.mismatches bad.length)
    firstMismatch := d.firstMismatch.or (bad.head?.map (d.bytesDone + ·)) }

/-- One chunk of a VERIFY (R127, R128). Under STOP it is compared up to its first unequal pair. -/
def verifyChunk (s : State) (d : Descriptor) : State :=
  let a := d.source + d.bytesDone
  let b := d.dest + d.bytesDone
  let n := min (min (toPageEnd a) (toPageEnd b)) (d.length - d.bytesDone)
  if pageReadable s a && pageReadable s b then
    let bad := mismatchesIn (arrayBytesAt s a n) (arrayBytesAt s b n)
    match d.stop, bad with
    | true, k :: _ => drainCheck (faultJob s (verifyCompared d (k + 1) [k]) .mismatch (a + k))
    | _, _ => afterChunk s (verifyCompared d n bad)
  else s

/-- CHUNK_READ (R127). -/
def execChunkRead (s : State) : Host.Outcome State Fault Refusal :=
  if s.power = .active then
    match workingJob s with
    | none => finish s
    | some d =>
      match d.kind with
      | .verify => finish (verifyChunk s d)
      | .digest => finish (digestChunk s d)
      | .copy | .fill | .eraseRange => finish s
  else finish s

/-- The engine has an action whose conditions hold (R17, R122, R126, R127). -/
def engineReady (s : State) : Bool :=
  s.power == .active &&
    match workingJob s with
    | none => false
    | some d =>
      match d.kind with
      | .verify => pageReadable s (d.source + d.bytesDone) && pageReadable s (d.dest + d.bytesDone)
      | .digest => pageReadable s (d.source + d.bytesDone)
      | .copy | .fill | .eraseRange => (stepAt d s.cursor).any fun step => stepReady s d step.1

/-! ### The controls -/

/-- A run begins with the next descriptor, or JOB_STATE when none is LOADED (R116). -/
def startNext (s : State) (p : Port) : State :=
  match nextLoaded s with
  | some i => beginJob { s with engine := .running, jobAttn := false } i
  | none => refuse s p .jobState

/-- JOB_START (R116). -/
def execJobStart (p : Port) (f : Frame) (s : State) : Host.Outcome State Fault Refusal :=
  requestEnd s p .jobStart f fun _ s' =>
    match s'.engine with
    | .idle | .halted => startNext s' p
    | .paused =>
      if (currentJob s').isSome then { s' with engine := .running, jobAttn := false }
      else startNext s' p
    | .running | .pausing | .aborting => refuse s' p .jobState

/-- JOB_PAUSE (R116, R117). -/
def execJobPause (p : Port) (f : Frame) (s : State) : Host.Outcome State Fault Refusal :=
  requestEnd s p .jobPause f fun _ s' =>
    if s'.engine = .running then drainCheck { s' with engine := .pausing, jobAttn := false }
    else refuse s' p .jobState

/-- Removes the entries with a property and frees their buffers (R93, R118). -/
def removeEntries (s : State) (has : Entry → Bool) : State :=
  (s.queue.filter has).foldl (fun s e => releaseBuffer s e.buffer)
    { s with queue := s.queue.filter fun e => !has e }

/-- A WAITING entry of an origin, not an orphan. -/
def waitingOf (o : Origin) (e : Entry) : Bool := ownedLive o e && isWaiting e

/-- JOB_ABORT (R116, R118). -/
def execJobAbort (p : Port) (f : Frame) (s : State) : Host.Outcome State Fault Refusal :=
  requestEnd s p .jobAbort f fun _ s' =>
    match s'.engine with
    | .running | .pausing | .paused | .halted =>
      drainCheck (fillFromMailbox
        (removeEntries { s' with engine := .aborting, jobAttn := false } (waitingOf .job)))
    | .idle | .aborting => refuse s' p .jobState

/-- JOB_CLEAR (R120). -/
def execJobClear (p : Port) (f : Frame) (s : State) : Host.Outcome State Fault Refusal :=
  requestEnd s p .jobClear f fun _ s' =>
    match s'.engine with
    | .idle | .halted =>
      { s' with jobs := [], engine := .idle, current := none, jobAttn := false }
    | .running | .pausing | .paused | .aborting => refuse s' p .busy

end Sys2Proof.Machine
end

