-- ==== Sys2Proof/Machine/Sequencer.lean ====
section
/-! DEFINITION. The array sequencer: the start decision (R76 to R78, R91), completion (R81 to R83, R145,
R147, R148), a taken suspend (R88), the run quantum (R87) and the hold deadline (R90); and TICK (R15). -/

namespace Sys2Proof.Machine

/-! ### The start decision -/

/-- A WAITING entry is eligible to start (R76), `older` being the entries before it in the queue. -/
def eligible (susp : Option Entry) (older : List Entry) (e : Entry) : Bool :=
  isWaiting e
    && !(older.any fun o => isBarrierKind o.kind && isWaiting o)
    && !(susp.any fun o => targetsOverlap e.target o.target)
    && !(older.any fun o => targetsOverlap e.target o.target)
    && (!isBarrierKind e.kind || (older.isEmpty && susp.isNone))

/-- The oldest eligible entry, and the queue with that entry ACTIVE (R77). -/
def startOldest (susp : Option Entry) (older : List Entry) :
    List Entry → Option (Entry × List Entry)
  | [] => none
  | e :: rest =>
    if eligible susp older e then some (e, older ++ { e with state := .active } :: rest)
    else startOldest susp (older ++ [e]) rest

/-- An erase becomes ACTIVE: its run quantum of 1 tick starts, and a tick of this instant does not count
(R15, R87). -/
def startQuantum (s : State) : State :=
  { s with quantum := some 1, started := { s.started with quantum := true } }

/-- What a start does besides making the entry ACTIVE (R78, R141). -/
def startEffect (s : State) (e : Entry) : State :=
  let s1 := if isEraseKind e.kind then startQuantum s else { s with quantum := none }
  if e.kind = .commit then startCommit s1 else s1

/-- ENTRY_START (R77, R78): nothing ACTIVE, and no SUSPENDED entry due to resume. -/
def execEntryStart (s : State) : Host.Outcome State Fault Refusal :=
  if s.power = .active ∧ (activeEntry s).isNone
      ∧ !((suspendedEntry s).any (·.resumePending)) then
    match startOldest (suspendedEntry s) [] s.queue with
    | some (e, q) => finish (startEffect { s with queue := q } e)
    | none => finish s
  else finish s

/-- ENTRY_RESTART (R77, R91). -/
def execEntryRestart (s : State) : Host.Outcome State Fault Refusal :=
  if s.power = .active ∧ (activeEntry s).isNone then
    match suspendedEntry s with
    | some e =>
      if e.resumePending then
        finish (startQuantum { s with
          queue := updateFirst isSuspended
            (fun e => { e with state := .active, resumePending := false }) s.queue
          hold := none })
      else finish s
    | none => finish s
  else finish s

/-! ### Completion -/

/-- The array after an operation of a kind on a target, some bits of which may be left wrong (R38, R39). -/
def arrayAfter (s : State) (e : Entry) (base len : Nat) (stuck : StuckBits) : Memory :=
  if e.kind = .pageProgram then memProgram s.array base (bufferData s e.buffer) stuck
  else memErase s.array base len stuck

/-- DONE when every bit holds the value it was to have, else FAILED (R81). -/
def judged {α : Type} [DecidableEq α] (found meant : α) : OpOutcome :=
  if found = meant then .done else .failed

/-- A one-bit target (the guard fuse, a seal lock) reads set (R145, R148). -/
def bitSet (stuck : StuckBits) : Bool := !(stuckMask stuck 0).getLsbD 0

/-- The seal store after a SEAL_PROGRAM (R147). -/
def sealAfter (s : State) (e : Entry) (page half : Nat) (stuck : StuckBits) : Memory :=
  memProgram s.sealStore (page * Config.sealPageBytes + half) (bufferData s e.buffer) stuck

/-- The lock bit of a seal page. -/
def lockBit (page : Nat) : BitVec 3 := 1#3 <<< page

/-- The result of an operation takes effect (R82 step 2): the state and the outcome. -/
def operationResult (s : State) (e : Entry) (stuck : StuckBits) : State × OpOutcome :=
  match e.kind, e.target with
  | .pageProgram, .array base len | .sectorErase, .array base len | .blockErase, .array base len =>
    ({ s with array := arrayAfter s e base len stuck },
      judged (arrayAfter s e base len stuck) (arrayAfter s e base len []))
  | .commit, _ => commitResult s e.tag stuck
  | .guardFuse, _ =>
    if bitSet stuck then
      (logEvent { s with fuse := true } .guardSealed 2 e.tag 0 noAddress, .done)
    else (s, .failed)
  | .sealProgram, .sealPage page half =>
    ({ s with sealStore := sealAfter s e page half stuck },
      judged (sealAfter s e page half stuck) (sealAfter s e page half []))
  | .sealLock, .sealPage page _ =>
    if bitSet stuck then
      (logEvent { s with sealLocks := s.sealLocks ||| lockBit page } .sealLocked 2 e.tag
        (BitVec.ofNat 8 page) noAddress, .done)
    else (s, .failed)
  | _, _ => (s, .done)

/-- The OP_FAILED event of a FAILED program or erase (R83). -/
def logFailed (s : State) (e : Entry) (out : OpOutcome) : State :=
  if out = .failed ∧ isArrayKind e.kind then
    logEvent s .opFailed (originCode e.origin) e.tag (kindCode e.kind) (targetAddress e.target)
  else s

/-- The record of a completed entry (R83). -/
def completedEntry (e : Entry) (out : OpOutcome) : Completion :=
  { tag := e.tag, kind := e.kind, outcome := out, redirected := e.redirected, auto := e.auto }

/-- The outcome is reported according to the origin (R83). -/
def reportOutcome (s : State) (e : Entry) (out : OpOutcome) : State :=
  let s1 := logFailed s e out
  if e.orphan then s1
  else
    match e.origin with
    | .a => pushCompletion s1 .a (completedEntry e out)
    | .m => pushCompletion s1 .m (completedEntry e out)
    | .job => stepCompleted s1 e out

/-- The ACTIVE entry leaves the queue; the quantum stops, a suspend is dropped, its buffer is freed (R82). -/
def removeActive (s : State) (e : Entry) : State :=
  releaseBuffer
    { s with queue := s.queue.eraseP isActive, suspend := .none, quantum := none } e.buffer

/-- OPERATION_COMPLETION (R82). -/
def execOperationCompletion (stuck : StuckBits) (s : State) : Host.Outcome State Fault Refusal :=
  if s.power = .active then
    match activeEntry s with
    | none => finish s
    | some e =>
      let r := operationResult s e stuck
      finish (fillFromMailbox (reportOutcome (removeActive r.1 e) e r.2))
  else finish s

/-! ### Suspends and timers -/

/-- SUSPEND_TAKEN (R88): of an ACTIVE erase with the suspend state TAKING. -/
def execSuspendTaken (s : State) : Host.Outcome State Fault Refusal :=
  if s.power = .active ∧ s.suspend = .taking ∧ (activeEntry s).any (fun e => isEraseKind e.kind)
  then
    finish { s with
      queue := updateFirst isActive
        (fun e => { e with state := .suspended, resumePending := false }) s.queue
      suspend := .none
      quantum := none
      hold := some (s.activeImage.settings.holdLimit.toNat * 10)
      started := { s.started with hold := true } }
  else finish s

/-- RUN_QUANTUM_EXPIRY (R87): of a quantum that has counted its tick (R15). -/
def execRunQuantumExpiry (s : State) : Host.Outcome State Fault Refusal :=
  if s.power = .active ∧ s.quantum = some 0 then
    finish { s with
      quantum := none
      suspend := if s.suspend = .pending then .taking else s.suspend }
  else finish s

/-- The expiry of the hold deadline of the SUSPENDED entry (R90). -/
def expireHold (s : State) (e : Entry) : State :=
  if e.resumePending then { s with hold := none }
  else
    logEvent (setResumePending { s with hold := none }) .suspendExpired (originCode e.origin)
      e.tag (kindCode e.kind) (targetAddress e.target)

/-- HOLD_DEADLINE_EXPIRY (R90): of a deadline that has counted its ticks (R15). -/
def execHoldDeadlineExpiry (s : State) : Host.Outcome State Fault Refusal :=
  if s.power = .active ∧ s.hold = some 0 then
    match suspendedEntry s with
    | some e => finish (expireHold s e)
    | none => finish s
  else finish s

/-- A running timer counts one tick, unless it was started at the very instant; at 0 it is due, and its
expiry is an event of its own (R15; assumption 11). -/
def tickTimer (started : Bool) (t : Option Nat) : Option Nat :=
  if started then t else t.map (· - 1)

/-- The watchdog counts one tick while ARMED, unless its countdown was started at the very instant (R15,
R106). -/
def tickWatchdog (started : Bool) (w : Watchdog) : Watchdog :=
  if w.state = .armed ∧ started = false then { w with left := w.left - 1, warnLeft := w.warnLeft - 1 }
  else w

/-- TICK (R15): every running timer advances; none is delivered while DORMANT or in reset, and since it
stands in step 4 of its instant, none at the instant of an accepted DORMANT (R167). -/
def execTick (s : State) : Host.Outcome State Fault Refusal :=
  if s.power = .active then
    finish { s with
      slot0 := { s.slot0 with deadline := tickTimer s.started.trap0 s.slot0.deadline }
      slot1 := { s.slot1 with deadline := tickTimer s.started.trap1 s.slot1.deadline }
      quantum := tickTimer s.started.quantum s.quantum
      hold := tickTimer s.started.hold s.hold
      watchdog := tickWatchdog s.started.watchdog s.watchdog }
  else finish s

end Sys2Proof.Machine
end

