-- ==== Sys2Proof/Machine/Power.lean ====
section
/-! DEFINITION. Power-on (R161), loss of power (R173), RESET_N (R162, R163) and what they leave of an
operation (R143, R164), the GUARD_N pin (R136), the soft reset of one port (R165), and the dormant
state (R166 to R169). -/

namespace Sys2Proof.Machine

/-! ### Operations cut short -/

/-- The bytes that an aborted COMMIT leaves in the slot it was writing (R143): the whole new slot where
every CRC byte had been programmed, else bytes that do not classify as VALID. -/
def abandonedSlot (s : State) : Option (List Byte) → List Byte
  | none => commitBytes s
  | some bs => unfinishedSlot (slotFit bs)

/-- What an entry that is aborted leaves of its target (R164). -/
def abortTarget (s : State) (e : Entry) (stuck : StuckBits) (slot : Option (List Byte)) : State :=
  match e.kind, e.target with
  | .pageProgram, .array base len | .sectorErase, .array base len | .blockErase, .array base len =>
    { s with array := arrayAfter s e base len stuck }
  | .sealProgram, .sealPage page half => { s with sealStore := sealAfter s e page half stuck }
  | .sealLock, .sealPage page _ =>
    if bitSet stuck then { s with sealLocks := s.sealLocks ||| lockBit page } else s
  | .guardFuse, _ => if bitSet stuck then { s with fuse := true } else s
  | .commit, _ =>
    match s.commitRun with
    | some (.writing i) => s.setStore i (abandonedSlot s slot)
    | some .unchanged | none => s
  | _, _ => s

/-- The ACTIVE entry is aborted (R162, R164). -/
def abortActive (s : State) (left : Leftover) : State :=
  match activeEntry s with
  | some e => abortTarget s e left.active left.slot
  | none => s

/-- The SUSPENDED entry is aborted, exactly as an ACTIVE one (R164). -/
def abortSuspended (s : State) (left : Leftover) : State :=
  match suspendedEntry s with
  | some e => abortTarget s e left.suspended none
  | none => s

/-- Both are aborted, in a device that is powered and not in reset; else nothing runs. -/
def abortOperations (s : State) (left : Leftover) : State :=
  if operating s then abortSuspended (abortActive s left) left else s

/-- The address of a RESET_ABORTED event (R163). -/
def abortedAddress (s : State) (e : Entry) : Word :=
  match e.kind, s.commitRun with
  | .commit, some (.writing _) => s.generation + 1
  | _, _ => targetAddress e.target

/-- The record of an aborted entry (R162, R163). -/
def abortedRecord (s : State) (e : Entry) : Aborted :=
  { origin := e.origin, tag := e.tag, kind := e.kind, address := abortedAddress s e }

/-- The entries that RESET_N cuts short, the ACTIVE one first (R162, R163). -/
def abortedRecords (s : State) : List Aborted :=
  (activeEntry s).toList.map (abortedRecord s) ++ (suspendedEntry s).toList.map (abortedRecord s)

/-- The RESET_ABORTED event of a record (R163). -/
def logAborted (s : State) (r : Aborted) : State :=
  logEvent s .resetAborted (originCode r.origin) r.tag (kindCode r.kind) r.address

/-! ### The power-on step -/

/-- SEL_N where no transaction may go on: a low SEL_N is ignored until it has gone high (R2). -/
def settledSel : Sel → Sel
  | .high => .high
  | .ignored | .opened _ => .ignored

/-- A port with its transaction abandoned, no lane driven (R2, R162). -/
def abandonTx (ps : PortState) : PortState := { ps with sel := settledSel ps.sel, driven := none }

/-- A port at power-on, before its settings come from the defaults (R161, section 10.4). -/
def portReset (ps : PortState) : PortState := { PortState.reset with sel := settledSel ps.sel }

/-- Every volatile item at its power-on value (R161 step 1, section 10.4). The session lock is left. -/
def volatileReset (s : State) : State :=
  { s with
    portA := portReset s.portA, portM := portReset s.portM
    pool := Vector.replicate 6 none
    queue := [], suspend := .none, quantum := none, hold := none
    slot0 := emptySlot, slot1 := emptySlot
    watchdog := stoppedWatchdog .disabled, started := noneStarted
    validation := 0, commitRun := none
    jobs := [], engine := .idle, current := none, cursor := { pos := 0, erased := false }
    crc := 0, jobIdNext := 1, jobAttn := false
    log := [], seqNext := 0, overflow := 0, aborted := [] }

/-- The step of R161, the session lock apart. -/
def powerOnStep (s : State) : State := loadConfig { volatileReset s with power := .active }

/-- POWER_ON (R161). With RESET_N low the step waits for its release. An operation that was running when
the supply fell is left as R164 says. -/
def execPowerOn (left : Leftover) (s : State) : Host.Outcome State Fault Refusal :=
  let s1 := { abortOperations s left with sessionLock := false }
  if s1.resetN then finish (powerOnStep s1)
  else finish { volatileReset s1 with power := .waiting }

/-- POWER_LOSS (R173, R164): only the non-volatile items keep their content. -/
def execPowerLoss (left : Leftover) (s : State) : Host.Outcome State Fault Refusal :=
  match s.power with
  | .off => finish s
  | .waiting | .inReset | .active | .dormant =>
    finish { volatileReset (abortOperations s left) with power := .off, sessionLock := false }

/-! ### RESET_N -/

/-- The device goes into reset (R162): what was running is recorded, aborted and its buffer freed (R53),
transactions are abandoned, timers stop. The session lock is kept. -/
def enterReset (s : State) (left : Leftover) : State :=
  let s1 := removeEntries (abortOperations s left) fun e => !isWaiting e
  { s1 with
    power := .inReset
    resetN := false
    aborted := abortedRecords s
    commitRun := none, suspend := .none, quantum := none, hold := none
    slot0 := { s1.slot0 with deadline := none }
    slot1 := { s1.slot1 with deadline := none }
    watchdog := { s1.watchdog with left := 0, warnLeft := 0 }
    portA := abandonTx s1.portA
    portM := abandonTx s1.portM }

/-- RESET_N_ASSERT (R162). Without power, or before the power-on step, only the level changes. -/
def execResetNAssert (left : Leftover) (s : State) : Host.Outcome State Fault Refusal :=
  match s.power with
  | .active | .dormant => finish (enterReset s left)
  | .off | .waiting | .inReset => finish { s with resetN := false }

/-- RESET_N_RELEASE (R162, R163): the power-on step, which a device in reset takes with the session lock
kept and follows with the RESET_ABORTED events; one that waited since power-on takes it in full
(R161). A RESET_N that is high already has no rising edge. -/
def execResetNRelease (s : State) : Host.Outcome State Fault Refusal :=
  match s.power with
  | .inReset => finish (s.aborted.foldl logAborted (powerOnStep { s with resetN := true }))
  | .waiting => finish (powerOnStep { s with resetN := true, sessionLock := false })
  | .off | .active | .dormant => finish { s with resetN := true }

/-- GUARD_N_CHANGE (R136): every check reads the level that the pin has then. -/
def execGuardNChange (high : Bool) (s : State) : Host.Outcome State Fault Refusal :=
  finish { s with guardN := high }

/-! ### The soft reset of one port -/

/-- An entry of an origin that has begun and is no orphan (R93). -/
def begunOf (o : Origin) (e : Entry) : Bool := ownedLive o e && !isWaiting e

/-- Entries of an origin at a soft reset: a WAITING one is removed, a begun one becomes an orphan (R93). -/
def orphanEntries (s : State) (o : Origin) : State :=
  let s1 := removeEntries s (waitingOf o)
  { s1 with queue := s1.queue.map fun e => if begunOf o e then { e with orphan := true } else e }

/-- Step 1 of R165, the settings apart: the port's own state. -/
def resetPortState (s : State) (p : Port) : State :=
  takeDefaults (s.setPort p { PortState.reset with sel := (s.port p).sel }) p

/-- The engine at a soft reset of Port M (R131). -/
def resetEngine (s : State) : State :=
  { orphanEntries s .job with
    jobs := [], engine := .idle, current := none, cursor := { pos := 0, erased := false }
    crc := 0, jobAttn := false }

/-- The entries that a soft reset of a port makes orphans (R165 step 6). -/
def newOrphans (s : State) : Port → Nat
  | .a => s.queue.countP (begunOf .a)
  | .m => s.queue.countP (begunOf .m) + s.queue.countP (begunOf .job)

/-- Steps 3 to 5 of R165. -/
def resetShared (s : State) : Port → State
  | .a => emptySlotAt (emptySlotAt s .s0) .s1
  | .m => fillFromMailbox (resetEngine s)

/-- The soft reset of one port (R165). -/
def softReset (s : State) (p : Port) : State :=
  logEvent (resetShared (orphanEntries (resetPortState s p) (portOrigin p)) p)
    .portReset (portCode p) 0 (BitVec.ofNat 8 (newOrphans s p)) noAddress

/-- RESET_PORT (R14): the soft reset where reset-arm was ARMED at the falling edge, else SEQUENCE. -/
def execResetPort (p : Port) (f : Frame) (s : State) : Host.Outcome State Fault Refusal :=
  requestEnd s p .resetPort f fun tx s' =>
    if tx.resetArmed then softReset s' p else refuse s' p .sequence

/-! ### The dormant state -/

/-- A Port A transaction has carried a whole byte (R167): one that the port has taken in, or those the
event shows. -/
def carriedByte (tx : Tx) (aWire : List Byte) : Bool := hasCarried tx || !aWire.isEmpty

/-- The abandoned transaction counts as one that carried a byte: it did, and it is not one that the port
was ignoring since an earlier dormant period, which only a WAKE is not (R167, R168). -/
def countsAsCarried (tx : Tx) (aWire : List Byte) : Bool :=
  carriedByte tx aWire && (!tx.dormant || decide (aWire.head? = some (commandCode .wake)))

/-- Port A when DORMANT is accepted (R167). -/
def abandonPortA (ps : PortState) (aWire : List Byte) : PortState :=
  match ps.sel with
  | .high | .ignored => ps
  | .opened tx =>
    if countsAsCarried tx aWire then
      { abandonTx ps with
        lastRefusal := .interrupted, refusalNew := true, latch := [], received := 0,
        contArmed := false, resetArmed := false }
    else abandonTx ps

/-- An accepted DORMANT (R167). -/
def enterDormant (s : State) (aWire : List Byte) : State :=
  { s with power := .dormant, portA := abandonPortA s.portA aWire }

/-- Steps 2 to 4 of R166. -/
def dormantChecks (s : State) : List (Bool × RefusalCode) :=
  [(!s.queue.isEmpty, .busy), (slotFilled s.slot0 || slotFilled s.slot1, .busy),
   (s.engine == .running || s.engine == .pausing || s.engine == .aborting, .busy)]

/-- DORMANT (R166). -/
def execDormant (p : Port) (f : Frame) (aWire : List Byte) (s : State) :
    Host.Outcome State Fault Refusal :=
  requestEnd s p .dormant f fun _ s' =>
    decided s' p (dormantChecks s') fun s' => enterDormant s' aWire

/-- The wake (R169): the watchdog, if ARMED, counts afresh; the latch of the port that sent WAKE is
empty (section 10.4). WARN clears with the fresh countdown (R106, R169), and the interrupt outputs follow
their causes (R159), where the table of R160 has them unchanged by a WAKE (assumption 24). -/
def wakeUp (s : State) (p : Port) : State :=
  let s1 := s.setPort p { s.port p with latch := [], received := 0 }
  if s.power = .dormant then
    let s2 := { s1 with power := .active }
    if s2.watchdog.state = .armed then startWatchdog s2 else s2
  else s1

/-- The end of a WAKE transaction (R168, R169): torn, it is ignored where it began while DORMANT, and
refused FRAME_TORN otherwise. -/
def wakeEnd (s : State) (p : Port) (tx : Tx) (f : Frame) : State :=
  if torn .wake f then
    (if tx.dormant then deselect s p else refuseTorn (closeTransaction s p) p .wake)
  else wakeUp (closeTransaction s p) p

/-- WAKE (R169): the one request that a DORMANT device takes in. -/
def execWake (p : Port) (f : Frame) (s : State) : Host.Outcome State Fault Refusal :=
  let s1 := beginTransaction s p
  match (s1.port p).sel with
  | .high => finish s1
  | .ignored => finish (deselect s1 p)
  | .opened tx =>
    if !operating s1 || (s1.power == .dormant && !tx.dormant) then finish (deselect s1 p)
    else if txFits .wake tx then finish (wakeEnd s1 p tx f)
    else finish s

end Sys2Proof.Machine
end

