-- ==== Sys2Proof/Machine/Reads.lean ====
section
/-! DEFINITION. Reads: the fetch of a data-out byte (R6, R20 to R32, R62, R97, R98, R119, R133, R149 to
R151, R155, R157, R158, R170) and the ends of the memory reads and status reads. -/

namespace Sys2Proof.Machine

/-! ### Array bytes -/

/-- Which read flag a failed check sets (R24). -/
inductive ReadFault where
  | masked
  | collided
  | suspendedRange
deriving DecidableEq, Repr

/-- Address of the n-th byte of READ and STREAM_READ (R21). -/
def sequentialAddress (a n : Nat) : Nat := (a + n) % Config.arrayBytes

/-- Address of the n-th byte of WRAP_READ in a group of `w` bytes (R22). -/
def wrapAddress (a w n : Nat) : Nat := (a - a % w) + (a % w + n) % w

/-- Steps 3 and 4 of R24 for a physical address: the suspended range, then the busy bank. -/
def rangeCheck (s : State) (phys : Nat) : Except ReadFault Nat :=
  if meetsSuspended s phys 1 then .error .suspendedRange
  else if bankBusyAt s phys then .error .collided
  else .ok phys

/-- The checks of R24 for one byte, in order; the physical address when all pass. An a_rights code of 3 or
above, which only a loaded image can hold, reads (assumption 22). -/
def readCheck (s : State) (p : Port) (a : Nat) : Except ReadFault Nat :=
  match p with
  | .m => rangeCheck s a
  | .a =>
    match translate s.activeImage a with
    | none => .error .masked
    | some (i, phys) =>
      if s.activeImage.entries[i].aRights = 0 then .error .masked else rangeCheck s phys

/-- Sets a read flag of the issuing port (R30). -/
def setReadFlag (s : State) (p : Port) (r : ReadFault) : State :=
  let ps := s.port p
  s.setPort p { ps with flags :=
    match r with
    | .masked => { ps.flags with masked := true }
    | .collided => { ps.flags with collided := true }
    | .suspendedRange => { ps.flags with suspendedRange := true } }

/-- The filler (R29). -/
def fillerByte (s : State) : Byte := s.activeImage.settings.filler

/-- One data byte of READ, WRAP_READ or STREAM_READ with the address field `field`, from address `a`
(R20, R24). -/
def arrayFetch (s : State) (p : Port) (field : Word) (a : Nat) : Byte × State :=
  if addressInSpace field then
    match readCheck s p a with
    | .ok phys => (memRead s.array phys, s)
    | .error r => (fillerByte s, setReadFlag s p r)
  else (fillerByte s, setReadFlag s p .masked)

/-- One data byte of READ_SEAL (R32). -/
def sealFetch (s : State) (p : Port) (page : Byte) (offset : Half) (n : Nat) : Byte × State :=
  if page.toNat < Config.sealPages then
    (memRead s.sealStore (page.toNat * Config.sealPageBytes
      + (offset.toNat % Config.sealPageBytes + n) % Config.sealPageBytes), s)
  else (fillerByte s, setReadFlag s p .masked)

/-! ### Records of the status reads -/

/-- The remaining ms of a slot's trap deadline (R97): from trap_timeout down to 1, FFFFh when none runs. -/
def remainingField (d : Option Nat) : Half :=
  match d with
  | none => 0xFFFF
  | some n => BitVec.ofNat 16 (max n 1)

/-- The 18-byte record of a slot (R97). -/
def slotRecord (sl : MailSlot) : List Byte :=
  if sl.state = .empty then List.replicate 18 0
  else
    [slotStateCode sl.state, sl.tag, kindCode sl.kind, BitVec.ofNat 8 sl.entry]
      ++ bytes32 (addressWord sl.logical) ++ bytes32 (addressWord sl.physical)
      ++ bytes16 (remainingField sl.deadline)
      ++ [BitVec.ofNat 8 (bit sl.release)] ++ bytes16 (BitVec.ofNat 16 sl.count)
      ++ [BitVec.ofNat 8 (bit sl.redirected + 2 * bit sl.auto)]

/-- The record that MAILBOX_READ returns for a slot field (R97). -/
def mailboxRecord (s : State) (field : Byte) : List Byte :=
  match slotOfField field with
  | some i => slotRecord (s.slot i)
  | none => List.replicate 18 0

/-- One byte of MAILBOX_DATA_READ (R98), from the slot as it is at the byte's fetch. That a slot which stops
being HELD and becomes HELD again by a new program within the transaction delivers the new buffer is the
model's choice (assumption 26). -/
def mailboxDataByte (s : State) (field offset : Byte) (n : Nat) : Byte :=
  match slotOfField field with
  | some i =>
    if (s.slot i).state = .held ∧ (s.slot i).kind = .pageProgram then
      memRead (bufferData s (s.slot i).buffer) ((offset.toNat + n) % 256)
    else 0
  | none => 0

/-- The 25-byte record of a descriptor (R119). -/
def descriptorRecord (d : Descriptor) : List Byte :=
  [d.id, jobStateCode d.state, jobKindCode d.kind] ++ bytes32 (addressWord d.bytesDone)
    ++ [BitVec.ofNat 8 (bit d.digest.isSome + 2 * bit d.mismatches.isSome
        + 4 * bit d.firstMismatch.isSome + 8 * bit d.fault.isSome)]
    ++ bytes32 (d.digest.getD 0) ++ bytes32 (d.mismatches.getD 0)
    ++ bytes32 (addressWord (d.firstMismatch.getD 0))
    ++ (match d.fault with
        | some (code, a) => jobFaultCode code :: bytes32 (addressWord a)
        | none => List.replicate 5 0)

/-- The record that JOB_READ returns for a list index (R119). -/
def jobRecord (s : State) (index : Byte) : List Byte :=
  match s.jobs[index.toNat]? with
  | some d => descriptorRecord d
  | none => List.replicate 25 0

/-- The entry that TABLE_READ's field selects: bits 3 to 0 the index, bit 7 the image (R62). -/
def tableRecord (s : State) (field : Byte) : List Byte :=
  let im := if field.getLsbD 7 then s.stagingImage else s.activeImage
  entryBytes im.entries[(field.setWidth 4 : BitVec 4).toFin]

/-- The settings record that SETTINGS_READ's selector selects (R133). -/
def settingsRecord (s : State) (selector : Byte) : List Byte :=
  settingsBytes (if selector.getLsbD 0 then s.stagingImage else s.activeImage).settings

/-! ### Deliveries of records -/

/-- Bytes of one delivery: 4 of READ_COMPLETIONS, 10 of EVENT_READ and EVENT_PEEK (R155, R157, R158). -/
def deliveryBytes : ReadOp → Option Nat
  | .completions => some 4
  | .events _ => some 10
  | .peek => some 10
  | _ => none

/-- All the bytes of the delivery under way have been fetched. -/
def deliveryFetched (tx : Tx) (len : Nat) : Bool :=
  tx.delivery.isSome && decide (0 < tx.fetched) && tx.fetched % len == 0

/-- The delivery under way is consumed (R155, R157): the chosen record, if it is still there, is popped. -/
def consumeDelivery (s : State) (p : Port) : State :=
  let ps := s.port p
  match ps.sel with
  | .opened tx =>
    let taken := (tx.delivery.map (·.present)).getD false
    match tx.readOp with
    | some .completions =>
      if deliveryFetched tx 4 then
        s.setPort p { ps with
          sel := .opened { tx with delivery := none }
          fifo := if taken then ps.fifo.drop 1 else ps.fifo }
      else s
    | some (.events _) =>
      if deliveryFetched tx 10 then
        { s with log := if taken then s.log.drop 1 else s.log }.setPort p { ps with
          sel := .opened { tx with delivery := none } }
      else s
    | _ => s
  | .high | .ignored => s

/-- A delivery of a record, or the empty record (R155, R157, R158). -/
def delivered (len : Nat) : Option (List Byte) → Delivery
  | some bs => { bytes := bs, present := true }
  | none => { bytes := List.replicate len 0, present := false }

/-- What the fetch of byte 0 of a delivery or of a status record does to the transaction: the record is
chosen (R155, R157, R158); a loss noted before it is forgotten (R152). -/
def chooseDelivery (s : State) (p : Port) (r : ReadOp) (tx : Tx) : Tx :=
  match r with
  | .completions =>
    if tx.fetched % 4 = 0 then
      { tx with delivery := some (delivered 4 ((s.port p).fifo.head?.map completionBytes)) }
    else tx
  | .events _ =>
    if tx.fetched % 10 = 0 then
      { tx with delivery := some (delivered 10 (s.log.head?.map eventBytes)) }
    else tx
  | .peek =>
    if tx.fetched % 10 = 0 then
      { tx with
        delivery := some (delivered 10 (s.log[tx.peekAt]?.map eventBytes))
        peekAt := if tx.peekAt < s.log.length then tx.peekAt + 1 else 0 }
    else tx
  | .portStatus _ =>
    if tx.fetched % (statusRecord s p tx.contArmed).length = 0 then { tx with lostSince := false }
    else tx
  | _ => tx

/-- A byte of the delivery under way. -/
def deliveredByte (tx : Tx) (len : Nat) : Byte :=
  byteAt ((tx.delivery.map (·.bytes)).getD []) (tx.fetched % len)

/-! ### The fetch -/

/-- The next data-out byte of a read, and the state with the read flag it sets (R24 and the rules of each
read). `tx.fetched` is n. -/
def dataByte (s : State) (p : Port) (tx : Tx) (r : ReadOp) : Byte × State :=
  let n := tx.fetched
  match r with
  | .read a => arrayFetch s p a (sequentialAddress a.toNat n)
  | .streamRead a _ => arrayFetch s p a (sequentialAddress a.toNat n)
  | .wrapRead a => arrayFetch s p a (wrapAddress a.toNat (wrapBytes tx.wrap) n)
  | .readSeal page offset => sealFetch s p page offset n
  | .portStatus _ =>
    (byteAt (statusRecord s p tx.contArmed) (n % (statusRecord s p tx.contArmed).length), s)
  | .completions => (deliveredByte tx 4, s)
  | .identify => (byteAt Config.identification (n % Config.identification.length), s)
  | .table field => (byteAt (tableRecord s field) (n % 12), s)
  | .settings sel => (byteAt (settingsRecord s sel) (n % 13), s)
  | .mailbox field => (byteAt (mailboxRecord s field) (n % 18), s)
  | .mailboxData field offset => (mailboxDataByte s field offset n, s)
  | .job index => (byteAt (jobRecord s index) (n % 25), s)
  | .events _ => (deliveredByte tx 10, s)
  | .peek => (deliveredByte tx 10, s)

/-- The fetch of the next byte of a read under way. A delivery whose bytes have all been fetched is
consumed first, should its pop not have been reported (R17; assumption 7). -/
def fetchByte (s : State) (p : Port) (r : ReadOp) : State :=
  let s1 := consumeDelivery s p
  match (s1.port p).sel with
  | .opened tx =>
    let tx1 := chooseDelivery s1 p r tx
    let out := dataByte s1 p tx1 r
    out.2.setPort p { out.2.port p with
      driven := some (byteSignal tx1.lane .dataOut out.1)
      sel := .opened { tx1 with fetched := tx1.fetched + 1, phase := .data } }
  | .high | .ignored => s1

/-- Records the read that a transaction turns out to be, when its output begins. -/
def startRead (s : State) (p : Port) (tx : Tx) (r : ReadOp) : State :=
  s.setPort p { s.port p with sel := .opened { tx with readOp := some r } }

/-- The read whose data-out the bytes taken in have opened: the port is in DATA, its wait bytes clocked
(R3, R4, R6). -/
def openedRead (p : Port) (tx : Tx) : Option ReadOp :=
  if tx.phase = .data then decodeRead p tx.contArmed tx.wire else none

/-- The first fetch of a transaction: the port takes in the bytes it has been sent, and fetches where they
open a data-out phase. Where they do not, no output begins, and the port waits for the rest in the
state that they bring it to (R4). -/
def firstFetch (s : State) (p : Port) (tx : Tx) (wire : List Byte) : State :=
  let tx1 := receiveWire p tx wire
  match openedRead p tx1 with
  | some r => fetchByte (startRead (receiveBytes s p tx wire) p tx1 r) p r
  | none => receiveBytes s p tx wire

/-- DATA_BYTE_FETCH (R6, R24). A port that ignores its clock drives nothing, and nothing happens. -/
def execDataByteFetch (p : Port) (wire : List Byte) (s : State) :
    Host.Outcome State Fault Refusal :=
  let s1 := beginTransaction s p
  match (s1.port p).sel with
  | .high | .ignored => finish s
  | .opened tx =>
    if tx.dormant || s1.power != .active then finish s
    else
      match tx.readOp with
      | some r => finish (fetchByte s1 p r)
      | none => finish (firstFetch s1 p tx wire)

/-! ### The ends of the reads -/

/-- READ (R19, R21): the end changes nothing but continuation and reset-arm. -/
def execRead (p : Port) (f : Frame) (s : State) : Host.Outcome State Fault Refusal :=
  readEnd s p .read f fun _ _ s' => s'

/-- WRAP_READ (R22). -/
def execWrapRead (p : Port) (f : Frame) (s : State) : Host.Outcome State Fault Refusal :=
  readEnd s p .wrapRead f fun _ _ s' => s'

/-- Continuation as the mark byte sets it (R12). -/
def setContinuation (s : State) (p : Port) (mark : Byte) : State :=
  s.setPort p { s.port p with contArmed := mark == Config.continuationMark }

/-- STREAM_READ (R12, R23): the mark arms or ends continuation. -/
def execStreamRead (p : Port) (f : Frame) (s : State) : Host.Outcome State Fault Refusal :=
  readEnd s p .streamRead f fun _ bs s' => setContinuation s' p (byteAt bs 4)

/-- READ_SEAL (R32). -/
def execReadSeal (p : Port) (f : Frame) (s : State) : Host.Outcome State Fault Refusal :=
  readEnd s p .readSeal f fun _ _ s' => s'

/-- The transaction can end as a continuation transaction with these bytes (R13). -/
def continuationFits (f : Frame) (tx : Tx) : Bool :=
  match tx.readOp with
  | some (.streamRead _ true) => true
  | some _ => false
  | none =>
    match f.bytes with
    | [] => false
    | b :: _ => isAddressLead b

/-- CONTINUATION_TRANSACTION (R12, R13): a STREAM_READ without its command byte. With continuation OFF at
its start the first byte is an unrecognised command byte (R13). -/
def execContinuationTransaction (p : Port) (f : Frame) (s : State) :
    Host.Outcome State Fault Refusal :=
  endTransaction s p (continuationFits f) fun tx s' =>
    if !tx.contArmed then refuse s' p .unknownCommand
    else if frameComplete .streamRead (readFrame tx 0 f) then
      setContinuation s' p (byteAt (readFrame tx 0 f) 4)
    else s'

/-- READ_PORT_STATUS (R149, R152): the clear, when the selector is 01h. -/
def execReadPortStatus (p : Port) (f : Frame) (s : State) : Host.Outcome State Fault Refusal :=
  readEnd s p .readPortStatus f fun tx bs s' =>
    if byteAt bs 0 = 1 then clearStatus s' p tx.lostSince else s'

/-- READ_COMPLETIONS (R155): its records leave the FIFO by COMPLETION_POP. -/
def execReadCompletions (p : Port) (f : Frame) (s : State) : Host.Outcome State Fault Refusal :=
  readEnd s p .readCompletions f fun _ _ s' => s'

/-- The read under way on a port. -/
def readUnderWay (s : State) (p : Port) : Option ReadOp :=
  match (s.port p).sel with
  | .opened tx => tx.readOp
  | .high | .ignored => none

/-- COMPLETION_POP (R155): the chosen record is popped if it is still in the FIFO. -/
def execCompletionPop (p : Port) (s : State) : Host.Outcome State Fault Refusal :=
  if readUnderWay s p = some .completions then finish (consumeDelivery s p) else finish s

/-- IDENTIFY (R170). -/
def execIdentify (p : Port) (f : Frame) (s : State) : Host.Outcome State Fault Refusal :=
  readEnd s p .identify f fun _ _ s' => s'

/-- TABLE_READ (R62). -/
def execTableRead (p : Port) (f : Frame) (s : State) : Host.Outcome State Fault Refusal :=
  readEnd s p .tableRead f fun _ _ s' => s'

/-- SETTINGS_READ (R133). -/
def execSettingsRead (p : Port) (f : Frame) (s : State) : Host.Outcome State Fault Refusal :=
  readEnd s p .settingsRead f fun _ _ s' => s'

/-- MAILBOX_READ (R97). -/
def execMailboxRead (p : Port) (f : Frame) (s : State) : Host.Outcome State Fault Refusal :=
  readEnd s p .mailboxRead f fun _ _ s' => s'

/-- MAILBOX_DATA_READ (R98). -/
def execMailboxDataRead (p : Port) (f : Frame) (s : State) : Host.Outcome State Fault Refusal :=
  readEnd s p .mailboxDataRead f fun _ _ s' => s'

/-- JOB_READ (R119). -/
def execJobRead (p : Port) (f : Frame) (s : State) : Host.Outcome State Fault Refusal :=
  readEnd s p .jobRead f fun _ _ s' => s'

/-- EVENT_READ (R157): with selector 01h the overflow counter becomes 0. -/
def execEventRead (p : Port) (f : Frame) (s : State) : Host.Outcome State Fault Refusal :=
  readEnd s p .eventRead f fun _ bs s' =>
    if byteAt bs 0 = 1 then { s' with overflow := 0 } else s'

/-- The read is an EVENT_READ. -/
def isEventRead : Option ReadOp → Bool
  | some (.events _) => true
  | _ => false

/-- EVENT_POP (R157): the chosen record is popped from the log. -/
def execEventPop (s : State) : Host.Outcome State Fault Refusal :=
  if isEventRead (readUnderWay s .m) then finish (consumeDelivery s .m) else finish s

/-- EVENT_PEEK (R158): nothing is popped. -/
def execEventPeek (p : Port) (f : Frame) (s : State) : Host.Outcome State Fault Refusal :=
  readEnd s p .eventPeek f fun _ _ s' => s'

end Sys2Proof.Machine
end

