-- ==== Sys2Proof/Machine/Dispatch.lean ====
section
/-! DEFINITION. The meaning of every command: one arm per constructor of `Instr`. -/

namespace Sys2Proof.Machine


def exec (i : Instr) (s : State) : Host.Outcome State Fault Refusal :=
  match i with
  | .read p f => Sys2Proof.Machine.execRead p f s
  | .wrapRead p f => Sys2Proof.Machine.execWrapRead p f s
  | .streamRead p f => Sys2Proof.Machine.execStreamRead p f s
  | .continuationTransaction p f => Sys2Proof.Machine.execContinuationTransaction p f s
  | .readSeal p f => Sys2Proof.Machine.execReadSeal p f s
  | .dataByteFetch p wire => Sys2Proof.Machine.execDataByteFetch p wire s
  | .unknownCommand p code f => Sys2Proof.Machine.execUnknownCommand p code f s
  | .armWrite p f => Sys2Proof.Machine.execArmWrite p f s
  | .disarmWrite p f => Sys2Proof.Machine.execDisarmWrite p f s
  | .pageProgram p f => Sys2Proof.Machine.execPageProgram p f s
  | .sectorErase p f => Sys2Proof.Machine.execSectorErase p f s
  | .blockErase p f => Sys2Proof.Machine.execBlockErase p f s
  | .suspend p f => Sys2Proof.Machine.execSuspend p f s
  | .resume p f => Sys2Proof.Machine.execResume p f s
  | .cancel p f => Sys2Proof.Machine.execCancel p f s
  | .readPortStatus p f => Sys2Proof.Machine.execReadPortStatus p f s
  | .readCompletions p f => Sys2Proof.Machine.execReadCompletions p f s
  | .completionPop p => Sys2Proof.Machine.execCompletionPop p s
  | .setLanes p f => Sys2Proof.Machine.execSetLanes p f s
  | .setWait p f => Sys2Proof.Machine.execSetWait p f s
  | .setWrap p f => Sys2Proof.Machine.execSetWrap p f s
  | .setIrqMask p f => Sys2Proof.Machine.execSetIrqMask p f s
  | .resetArm p f => Sys2Proof.Machine.execResetArm p f s
  | .resetPort p f => Sys2Proof.Machine.execResetPort p f s
  | .dormant p f aWire => Sys2Proof.Machine.execDormant p f aWire s
  | .wake p f => Sys2Proof.Machine.execWake p f s
  | .identify p f => Sys2Proof.Machine.execIdentify p f s
  | .tableRead p f => Sys2Proof.Machine.execTableRead p f s
  | .tableWriteEntry p f => Sys2Proof.Machine.execTableWriteEntry p f s
  | .tableClearEntry p f => Sys2Proof.Machine.execTableClearEntry p f s
  | .stageFromActive p f => Sys2Proof.Machine.execStageFromActive p f s
  | .commit p f => Sys2Proof.Machine.execCommit p f s
  | .swapViews p f => Sys2Proof.Machine.execSwapViews p f s
  | .settingsRead p f => Sys2Proof.Machine.execSettingsRead p f s
  | .settingsWriteStaged p f => Sys2Proof.Machine.execSettingsWriteStaged p f s
  | .settingsWriteLive p f => Sys2Proof.Machine.execSettingsWriteLive p f s
  | .lockSession p f => Sys2Proof.Machine.execLockSession p f s
  | .mailboxRead p f => Sys2Proof.Machine.execMailboxRead p f s
  | .mailboxRelease p f => Sys2Proof.Machine.execMailboxRelease p f s
  | .mailboxRedirect p f => Sys2Proof.Machine.execMailboxRedirect p f s
  | .mailboxDeny p f => Sys2Proof.Machine.execMailboxDeny p f s
  | .mailboxDataRead p f => Sys2Proof.Machine.execMailboxDataRead p f s
  | .mailboxDataWrite p f => Sys2Proof.Machine.execMailboxDataWrite p f s
  | .releasingSlotEntry => Sys2Proof.Machine.execReleasingSlotEntry s
  | .heartbeat p f => Sys2Proof.Machine.execHeartbeat p f s
  | .jobLoad p f => Sys2Proof.Machine.execJobLoad p f s
  | .jobStart p f => Sys2Proof.Machine.execJobStart p f s
  | .jobPause p f => Sys2Proof.Machine.execJobPause p f s
  | .jobAbort p f => Sys2Proof.Machine.execJobAbort p f s
  | .jobRead p f => Sys2Proof.Machine.execJobRead p f s
  | .jobClear p f => Sys2Proof.Machine.execJobClear p f s
  | .eventRead p f => Sys2Proof.Machine.execEventRead p f s
  | .eventPop => Sys2Proof.Machine.execEventPop s
  | .eventPeek p f => Sys2Proof.Machine.execEventPeek p f s
  | .sealProgram p f => Sys2Proof.Machine.execSealProgram p f s
  | .sealLock p f => Sys2Proof.Machine.execSealLock p f s
  | .guardFuse p f => Sys2Proof.Machine.execGuardFuse p f s
  | .entryStart => Sys2Proof.Machine.execEntryStart s
  | .entryRestart => Sys2Proof.Machine.execEntryRestart s
  | .operationCompletion stuck => Sys2Proof.Machine.execOperationCompletion stuck s
  | .suspendTaken => Sys2Proof.Machine.execSuspendTaken s
  | .runQuantumExpiry => Sys2Proof.Machine.execRunQuantumExpiry s
  | .holdDeadlineExpiry => Sys2Proof.Machine.execHoldDeadlineExpiry s
  | .trapDeadlineExpiry slot => Sys2Proof.Machine.execTrapDeadlineExpiry slot s
  | .watchdogWarningPoint => Sys2Proof.Machine.execWatchdogWarningPoint s
  | .watchdogLapse => Sys2Proof.Machine.execWatchdogLapse s
  | .jobStepIssue => Sys2Proof.Machine.execJobStepIssue s
  | .chunkRead => Sys2Proof.Machine.execChunkRead s
  | .powerOn left => Sys2Proof.Machine.execPowerOn left s
  | .resetNAssert left => Sys2Proof.Machine.execResetNAssert left s
  | .resetNRelease => Sys2Proof.Machine.execResetNRelease s
  | .transactionBegin p => Sys2Proof.Machine.execTransactionBegin p s
  | .ignoredTransactionEnd p => Sys2Proof.Machine.execIgnoredTransactionEnd p s
  | .tick => Sys2Proof.Machine.execTick s
  | .guardNChange high => Sys2Proof.Machine.execGuardNChange high s
  | .powerLoss left => Sys2Proof.Machine.execPowerLoss left s

end Sys2Proof.Machine
end

