-- ==== Sys2Proof/Machine/Instants.lean ====
section
/-! DEFINITION. The Request Serializer: the events of one instant in the request order (R17, R18), what
the device itself adds to an instant, and the further instants that it provides for the job engine. -/

namespace Sys2Proof.Machine

/-- The place of a port's step in the request order (R17): Port M's before Port A's; within the step the
consumption of a status record comes before the fetch that follows it. -/
def portPlace (p : Port) (consumption : Bool) : Nat :=
  match p with
  | .m => if consumption then 3 else 4
  | .a => if consumption then 5 else 6

/-- The place of an event in its instant (R17). 0: what stands before the request order, RESET_N's fall
(R162) and a loss of power. 1: the GUARD_N pin, which the steps read (R136; assumption 2). 2: step 1, the
array sequencer. 3, 4: step 2, Port M. 5, 6: step 3, Port A. 7 to 13: step 4, the timers, the tick before
the expiries (R15; assumption 11). 14: step 5, the job engine. 15, 16: step 6, the start decision, a restart first
(R77). 17: power-on and the release of RESET_N, until which the device takes nothing in (R161, R162).
That the falling edge of SEL_N, and a rising edge that hands no request over, fall in their port's step
is the model's choice (assumption 25). -/
def instantPlace : Instr → Nat
  | .powerLoss _ | .resetNAssert _ => 0
  | .guardNChange _ => 1
  | .operationCompletion _ | .suspendTaken | .releasingSlotEntry => 2
  | .completionPop p => portPlace p true
  | .eventPop => portPlace .m true
  | .read p _ | .wrapRead p _ | .streamRead p _ | .continuationTransaction p _ | .readSeal p _
  | .dataByteFetch p _ | .unknownCommand p _ _ | .armWrite p _ | .disarmWrite p _
  | .pageProgram p _ | .sectorErase p _ | .blockErase p _ | .suspend p _ | .resume p _
  | .cancel p _ | .readPortStatus p _ | .readCompletions p _ | .setLanes p _ | .setWait p _
  | .setWrap p _ | .setIrqMask p _ | .resetArm p _ | .resetPort p _ | .dormant p _ _ | .wake p _
  | .identify p _ | .tableRead p _ | .tableWriteEntry p _ | .tableClearEntry p _
  | .stageFromActive p _ | .commit p _ | .swapViews p _ | .settingsRead p _
  | .settingsWriteStaged p _ | .settingsWriteLive p _ | .lockSession p _ | .mailboxRead p _
  | .mailboxRelease p _ | .mailboxRedirect p _ | .mailboxDeny p _ | .mailboxDataRead p _
  | .mailboxDataWrite p _ | .heartbeat p _ | .jobLoad p _ | .jobStart p _ | .jobPause p _
  | .jobAbort p _ | .jobRead p _ | .jobClear p _ | .eventRead p _ | .eventPeek p _
  | .sealProgram p _ | .sealLock p _ | .guardFuse p _ | .transactionBegin p
  | .ignoredTransactionEnd p => portPlace p false
  | .tick => 7
  | .trapDeadlineExpiry .s0 => 8
  | .trapDeadlineExpiry .s1 => 9
  | .holdDeadlineExpiry => 10
  | .runQuantumExpiry => 11
  | .watchdogWarningPoint => 12
  | .watchdogLapse => 13
  | .jobStepIssue | .chunkRead => 14
  | .entryRestart => 15
  | .entryStart => 16
  | .powerOn _ | .resetNRelease => 17

/-- Events in the request order (R17); events of one place keep the order in which they are given. -/
def inRequestOrder (events : List Instr) : List Instr :=
  (List.range 18).flatMap fun place => events.filter fun i => instantPlace i == place

/-- What the device itself does in every instant (R17 steps 4 to 6): the expiries of the timers that are
due, the engine's action and the start decision. Those whose conditions fail do nothing. -/
def deviceEvents : List Instr :=
  [.trapDeadlineExpiry .s0, .trapDeadlineExpiry .s1, .holdDeadlineExpiry, .runQuantumExpiry,
   .watchdogWarningPoint, .watchdogLapse, .jobStepIssue, .chunkRead, .entryRestart, .entryStart]

/-- The commands of an instant at which the events fall. Without events an instant exists only where the
job engine has an action whose conditions hold (R17). -/
def instantOf (s : State) (events : List Instr) : List Instr :=
  if events.isEmpty && !engineReady s then [] else inRequestOrder (events ++ deviceEvents)

/-- An instant begins: its commands wait in the request order, and the interrupt outputs for the last of
them (R17, R159). -/
def beginInstant (s : State) (events : List Instr) : State :=
  { s with pending := instantOf s events, instantLeft := (instantOf s events).length }

/-- With no command waiting, the next instant begins: the next one at which events arrive, else a further
instant for the job engine, where it has an action (R17); else the block idles (assumption 2). -/
def nextInstant (s : State) : State :=
  match s.arriving with
  | events :: later => beginInstant { s with arriving := later } events
  | [] => if engineReady s then beginInstant s [] else s

end Sys2Proof.Machine
end

