-- ==== Sys2Proof/Safety.lean ====
section
/-! DEFINITION. What statements speak of: how a command reaches its decision, groups of commands, and what
a sound state is (the invariants that every step keeps). -/

namespace Sys2Proof.Machine

/-! ### How a command arrives -/

/-- The device is ACTIVE, and the port is in the transaction `tx` that a command ends: one under way that
did not begin while DORMANT, or a whole one whose falling edge the command stands for (assumption 5). -/
def Live (s : State) (p : Port) (tx : Tx) : Prop :=
  s.power = .active ∧
    ((s.port p).sel = .high ∧ tx = sampleTx (s.port p) false ∨
      (s.port p).sel = .opened tx ∧ tx.dormant = false)

/-- A transaction that a command `c` can end: live, and no read under way of another command. -/
def Delivered (s : State) (p : Port) (c : Command) (tx : Tx) : Prop :=
  Live s p tx ∧ txFits c tx = true

/-- A request `c` with a whole frame reaches its decision on a port that recognises it (R8, R9, R10). -/
def Arrives (s : State) (p : Port) (c : Command) (f : Frame) : Prop :=
  ∃ tx, Delivered s p c tx ∧ recognises p c = true ∧ torn c f = false

/-- The state in which a transaction's effect is decided: its begin taken, its end taken (R10, R12, R14). -/
def ended (s : State) (p : Port) : State := closeTransaction (beginTransaction s p) p

/-- What a port receives in the transaction as a read: the recorded frame, else the one shown. -/
def readWhole (tx : Tx) (c : Command) (f : Frame) : Prop := frameComplete c (readFrame tx 1 f) = true

/-! ### Groups of commands -/

/-- The request that a row ends: its port, command and frame; WAKE, which a DORMANT device takes too, is
left out (R169). -/
def requestOf : Instr → Option (Port × Command × Frame)
  | .armWrite p f => some (p, .armWrite, f)
  | .disarmWrite p f => some (p, .disarmWrite, f)
  | .pageProgram p f => some (p, .pageProgram, f)
  | .sectorErase p f => some (p, .sectorErase, f)
  | .blockErase p f => some (p, .blockErase, f)
  | .suspend p f => some (p, .suspend, f)
  | .resume p f => some (p, .resume, f)
  | .cancel p f => some (p, .cancel, f)
  | .setLanes p f => some (p, .setLanes, f)
  | .setWait p f => some (p, .setWait, f)
  | .setWrap p f => some (p, .setWrap, f)
  | .setIrqMask p f => some (p, .setIrqMask, f)
  | .resetArm p f => some (p, .resetArm, f)
  | .resetPort p f => some (p, .resetPort, f)
  | .dormant p f _ => some (p, .dormant, f)
  | .tableWriteEntry p f => some (p, .tableWriteEntry, f)
  | .tableClearEntry p f => some (p, .tableClearEntry, f)
  | .stageFromActive p f => some (p, .stageFromActive, f)
  | .commit p f => some (p, .commit, f)
  | .swapViews p f => some (p, .swapViews, f)
  | .settingsWriteStaged p f => some (p, .settingsWriteStaged, f)
  | .settingsWriteLive p f => some (p, .settingsWriteLive, f)
  | .lockSession p f => some (p, .lockSession, f)
  | .mailboxRelease p f => some (p, .mailboxRelease, f)
  | .mailboxRedirect p f => some (p, .mailboxRedirect, f)
  | .mailboxDeny p f => some (p, .mailboxDeny, f)
  | .mailboxDataWrite p f => some (p, .mailboxDataWrite, f)
  | .heartbeat p f => some (p, .heartbeat, f)
  | .jobLoad p f => some (p, .jobLoad, f)
  | .jobStart p f => some (p, .jobStart, f)
  | .jobPause p f => some (p, .jobPause, f)
  | .jobAbort p f => some (p, .jobAbort, f)
  | .jobClear p f => some (p, .jobClear, f)
  | .sealProgram p f => some (p, .sealProgram, f)
  | .sealLock p f => some (p, .sealLock, f)
  | .guardFuse p f => some (p, .guardFuse, f)
  | .read _ _ | .wrapRead _ _ | .streamRead _ _ | .continuationTransaction _ _ | .readSeal _ _
  | .dataByteFetch _ _ | .unknownCommand _ _ _ | .readPortStatus _ _ | .readCompletions _ _
  | .completionPop _ | .wake _ _ | .identify _ _ | .tableRead _ _ | .settingsRead _ _
  | .mailboxRead _ _ | .mailboxDataRead _ _ | .releasingSlotEntry | .jobRead _ _ | .eventRead _ _
  | .eventPop | .eventPeek _ _ | .entryStart | .entryRestart | .operationCompletion _
  | .suspendTaken | .runQuantumExpiry | .holdDeadlineExpiry | .trapDeadlineExpiry _
  | .watchdogWarningPoint | .watchdogLapse | .jobStepIssue | .chunkRead | .powerOn _
  | .resetNAssert _ | .resetNRelease | .transactionBegin _ | .ignoredTransactionEnd _ | .tick
  | .guardNChange _ | .powerLoss _ => none

/-- The memory reads and status reads with a command byte: port, command and frame (R5). -/
def readOf : Instr → Option (Port × Command × Frame)
  | .read p f => some (p, .read, f)
  | .wrapRead p f => some (p, .wrapRead, f)
  | .streamRead p f => some (p, .streamRead, f)
  | .readSeal p f => some (p, .readSeal, f)
  | .readPortStatus p f => some (p, .readPortStatus, f)
  | .readCompletions p f => some (p, .readCompletions, f)
  | .identify p f => some (p, .identify, f)
  | .tableRead p f => some (p, .tableRead, f)
  | .settingsRead p f => some (p, .settingsRead, f)
  | .mailboxRead p f => some (p, .mailboxRead, f)
  | .mailboxDataRead p f => some (p, .mailboxDataRead, f)
  | .jobRead p f => some (p, .jobRead, f)
  | .eventRead p f => some (p, .eventRead, f)
  | .eventPeek p f => some (p, .eventPeek, f)
  | _ => none

/-- The port on whose pins a row happens; none for the events inside the device and on the control pins. -/
def rowPort : Instr → Option Port
  | .continuationTransaction p _ | .dataByteFetch p _ | .unknownCommand p _ _ | .completionPop p
  | .wake p _ | .transactionBegin p | .ignoredTransactionEnd p => some p
  | .eventPop => some .m
  | i =>
    match requestOf i, readOf i with
    | some (p, _, _), _ => some p
    | none, some (p, _, _) => some p
    | none, none => none

/-- The events of the supply and of RESET_N. -/
def isPowerEvent : Instr → Bool
  | .powerOn _ | .powerLoss _ | .resetNAssert _ | .resetNRelease => true
  | _ => false

/-- The seven requests that need the write-arm latch (R35). -/
def needsArming : Command → Bool
  | .pageProgram | .sectorErase | .blockErase | .commit | .sealProgram | .sealLock
  | .guardFuse => true
  | _ => false

/-- The other port. -/
def otherPort : Port → Port
  | .a => .m
  | .m => .a

/-- The modify request that a row ends: port, kind and frame (R40). -/
def modifyOf : Instr → Option (Port × Kind × Frame)
  | .pageProgram p f => some (p, .pageProgram, f)
  | .sectorErase p f => some (p, .sectorErase, f)
  | .blockErase p f => some (p, .blockErase, f)
  | _ => none

/-- The command of a modify request's kind. -/
def modifyCommand : Kind → Command
  | .sectorErase => .sectorErase
  | .blockErase => .blockErase
  | _ => .pageProgram

/-- The record that a status read of one fixed record shows: IDENTIFY, TABLE_READ, SETTINGS_READ,
MAILBOX_READ and JOB_READ (R62, R97, R119, R133, R170). -/
def fixedRecord (s : State) : ReadOp → Option (List Byte)
  | .identify => some Config.identification
  | .table field => some (tableRecord s field)
  | .settings selector => some (settingsRecord s selector)
  | .mailbox field => some (mailboxRecord s field)
  | .job index => some (jobRecord s index)
  | _ => none

/-- The address of the n-th data byte of a sequential or wrapped read, with its address field (R21, R22). -/
def readAddress (wrap : WrapLen) (n : Nat) : ReadOp → Option (Word × Nat)
  | .read a => some (a, sequentialAddress a.toNat n)
  | .streamRead a _ => some (a, sequentialAddress a.toNat n)
  | .wrapRead a => some (a, wrapAddress a.toNat (wrapBytes wrap) n)
  | _ => none

/-! ### Decided requests -/

/-- The state after the data-in phase and the end of the transaction: the port's latch holds the data (R7). -/
def endedWith (s : State) (p : Port) (start : Nat) (data : List Byte) : State :=
  receiveData (ended s p) p start data

/-- A state with a port's write-arm latch consumed (R35). -/
def consumed (s : State) (p : Port) : State := s.setPort p { s.port p with wel := false }

/-- The state in which steps 3 to 12 of R40 decide a modify request: its data received, WEL consumed. -/
def modifyBase (s : State) (p : Port) (k : Kind) (f : Frame) : State :=
  if k = .pageProgram then
    consumed (endedWith s p (byteAt f.bytes 3).toNat (f.bytes.drop 4)) p
  else consumed (ended s p) p

/-- A modify request arrives with WEL 1 and passes steps 3 and 4 of R40. -/
def ModifyArrives (s : State) (p : Port) (k : Kind) (f : Frame) : Prop :=
  Arrives s p (modifyCommand k) f ∧ (s.port p).wel = true
    ∧ addressInSpace (be32 f.bytes 0) = true ∧ (k = .pageProgram → 4 < f.bytes.length)

/-- Steps 5 and 6 of R40 pass: where the target lies, and on Port A the covering entry (R41). -/
def TargetFound (s : State) (p : Port) (a : Nat) (phys : Nat) (i : Option (Fin 16)) : Prop :=
  (p = .m ∧ phys = a ∧ i = none ∧ portMWriteRefusal s a = none)
    ∨ (p = .a ∧ ∃ j, i = some j ∧ translate s.activeImage a = some (j, phys)
        ∧ s.activeImage.entries[j].aRights = 2)

/-- Steps 7 to 9 of R40 pass (R43, R44). -/
def RoomFound (s : State) (p : Port) (k : Kind) : Prop :=
  barrierPending s = false ∧ outstanding s p < Config.outstandingCap
    ∧ (k = .pageProgram → bufferShort s (portOrigin p) = false)

/-- Step 10 of R40 lets the request through untrapped: Port M, or a partition that does not trap the kind. -/
def NotTrapped (s : State) (k : Kind) (i : Option (Fin 16)) : Prop :=
  ∀ j, i = some j → trapCovers s.activeImage.entries[j].trapPolicy k = false

/-- The request meets a partition that traps its kind (R95). -/
def Trapped (s : State) (k : Kind) (i : Option (Fin 16)) (j : Fin 16) : Prop :=
  i = some j ∧ trapCovers s.activeImage.entries[j].trapPolicy k = true

/-- A port's state after an assigned tag (R48, R49). -/
def tagged (ps : PortState) (t : Byte) : PortState :=
  { ps with lastTag := t, tagNext := nextTag t }

/-- The pool after a program of the port has taken its buffer; unchanged for an erase (R37, R52). -/
def poolAfter (s : State) (p : Port) (k : Kind) : Vector (Option PageBuf) 6 :=
  if k = .pageProgram then (takeFree s (portOrigin p) (bufferFromLatch s p)).pool else s.pool

/-! ### Job steps -/

/-- The steps that a job issues from a cursor on, in issue order, `n` of them at most (R121). -/
def stepsFrom (d : Descriptor) : Nat → Cursor → List (Kind × Nat)
  | 0, _ => []
  | n + 1, c =>
    match stepAt d c with
    | none => []
    | some (k, a) => (k, a) :: stepsFrom d n (cursorAfter d c k)

/-! ### Sound states -/

/-- Every addressed store is in canonical form, and a page buffer has 256 bytes (R51). -/
def Canonical (s : State) : Prop :=
  s.array.wf = true ∧ s.sealStore.wf = true ∧
    ∀ i : Fin 6, ∀ b, s.pool[i] = some b →
      b.data.wf = true ∧ ∀ c ∈ b.data, c.1 < Config.pageBytes

/-- Nothing holds more than it has room for (R46, R50, R112, R122, R154, R156). -/
def WithinCapacity (s : State) : Prop :=
  s.queue.length ≤ Config.queueDepth
    ∧ outstanding s .a ≤ Config.outstandingCap ∧ outstanding s .m ≤ Config.outstandingCap
    ∧ stepsOutstanding s ≤ Config.jobWindow
    ∧ s.portA.fifo.length ≤ Config.fifoDepth ∧ s.portM.fifo.length ≤ Config.fifoDepth
    ∧ s.log.length ≤ Config.logDepth
    ∧ s.jobs.length ≤ Config.jobListDepth

/-- The sequencer's discipline: one entry at most is ACTIVE and one SUSPENDED, a SUSPENDED one is an erase
(R75, R88), an orphan has begun (R75), and a suspend is on its way only with an entry ACTIVE and none SUSPENDED (R86, R87). -/
def SequencerSound (s : State) : Prop :=
  s.queue.countP isActive ≤ 1 ∧ s.queue.countP isSuspended ≤ 1
    ∧ (∀ e ∈ s.queue, isSuspended e = true → isEraseKind e.kind = true)
    ∧ (∀ e ∈ s.queue, e.orphan = true → isWaiting e = false)
    ∧ (s.suspend ≠ .none → s.queue.countP isActive = 1 ∧ s.queue.countP isSuspended = 0)

/-- A RELEASING slot exists only while the queue is full (R46). -/
def MailboxSound (s : State) : Prop :=
  operating s = true →
    (s.slot0.state = .releasing ∨ s.slot1.state = .releasing) → queueFull s = true

/-- No port is in a transaction while the device is without power or in reset (R161, R162), and a DORMANT
device has only transactions that began while it was DORMANT (R167), which no read is (R168). -/
def SelectionSound (s : State) : Prop :=
  ∀ p tx, (s.port p).sel = .opened tx →
    (s.power = .active ∨ (s.power = .dormant ∧ tx.dormant = true))
      ∧ (tx.dormant = true → tx.readOp = none)

/-- No tag counter and no job id counter is 0 (R48, R113). -/
def TagsSound (s : State) : Prop :=
  s.portA.tagNext ≠ 0 ∧ s.portM.tagNext ≠ 0 ∧ s.jobIdNext ≠ 0

/-- Both store slots have 213 bytes (chapter 8.3). -/
def StoreSound (s : State) : Prop :=
  s.store0.length = Config.slotBytes ∧ s.store1.length = Config.slotBytes

/-- What owns page buffers: each entry and each mailbox slot, with the buffer it has and the origin that
it is counted against (R51). -/
def bufferHolders (s : State) : List (Option (Fin 6) × Origin) :=
  s.queue.map (fun e => (e.buffer, e.origin)) ++ [(s.slot0.buffer, .a), (s.slot1.buffer, .a)]

/-- A buffer that is not free belongs to exactly one holder, of the origin that it is counted against; a
free one to none; an EMPTY slot has none; and no origin is past its cap (R51). -/
def BuffersSound (s : State) : Prop :=
  (∀ i : Fin 6, (bufferHolders s).countP (fun h => h.1 == some i) = bit s.pool[i].isSome
      ∧ ∀ b, s.pool[i] = some b → (some i, b.origin) ∈ bufferHolders s)
    ∧ (∀ slot, (s.slot slot).state = .empty → (s.slot slot).buffer = none)
    ∧ ∀ o, buffersOwned s o ≤ bufferCap o

/-- The active image passes validation, so does the staging image while a COMMIT is queued, and so does
the image of each store slot that classifies as VALID (R56). -/
def ImagesValid (s : State) : Prop :=
  tableFault s.activeImage = none
    ∧ ((∃ e ∈ s.queue, e.kind = .commit) → tableFault s.stagingImage = none)
    ∧ ∀ slot, classify (s.store slot) = .valid →
      tableFault (imageOf (slotImageBytes (s.store slot))) = none

/-- The commands of the present instant still to run wait in the queue (R17). -/
def InstantSound (s : State) : Prop := s.instantLeft ≤ s.pending.length

/-- The current settings of a port are the port defaults of the active image (R11). -/
def HasDefaults (s : State) : Port → Prop
  | .a => s.portA.lane = laneOf s.activeImage.settings.aLanes
      ∧ s.portA.wait = s.activeImage.settings.aWait.setWidth 4
      ∧ s.portA.wrap = wrapOf s.activeImage.settings.aWrap
      ∧ s.portA.irqMask = s.activeImage.settings.aIrqMask
  | .m => s.portM.lane = laneOf s.activeImage.settings.mLanes
      ∧ s.portM.wait = s.activeImage.settings.mWait.setWidth 4
      ∧ s.portM.wrap = wrapOf s.activeImage.settings.mWrap
      ∧ s.portM.irqMask = s.activeImage.settings.mIrqMask

/-- What the configuration load leaves of the slot states, the selection, the images, the generation and
DIRTY, with the bytes that the store slots then hold (R57, R138, R139): the VALID slot of higher generation
is selected, slot 0 where they are equal, and its image is active; with none VALID the factory image is. -/
def LoadTaken (t : State) : Prop :=
  (∀ slot, t.storeClass slot = classify (t.store slot))
    ∧ (∀ slot other, other ≠ slot → classify (t.store slot) = .valid →
      (classify (t.store other) = .valid →
        slotGeneration (t.store other) < slotGeneration (t.store slot)
          ∨ slotGeneration (t.store other) = slotGeneration (t.store slot) ∧ slot = .s0) →
      t.selected = some slot)
    ∧ (classify t.store0 ≠ .valid → classify t.store1 ≠ .valid → t.selected = none)
    ∧ (∀ slot, t.selected = some slot →
      t.activeImage = imageOf (slotImageBytes (t.store slot))
        ∧ t.generation = slotGeneration (t.store slot) ∧ t.dirty = false)
    ∧ (t.selected = none → t.activeImage = factoryImage ∧ t.generation = 0 ∧ t.dirty = true)
    ∧ t.stagingImage = t.activeImage ∧ t.validation = 0

/-- The events of a configuration load, numbered from 0 (R139): STORE_SLOT_TORN for each TORN slot, slot 0
before slot 1, then STORE_DEFAULTED where no slot is VALID; origin 0, no tag, no address. -/
def loadEvents (t : State) : List Event :=
  let torn0 := if classify t.store0 = .torn then [(EventKind.storeSlotTorn, 0x00#8)] else []
  let torn1 := if classify t.store1 = .torn then [(EventKind.storeSlotTorn, 0x01#8)] else []
  let defaulted := if classify t.store0 ≠ .valid ∧ classify t.store1 ≠ .valid then
    [(EventKind.storeDefaulted, 0x00#8)] else []
  (torn0 ++ torn1 ++ defaulted).mapIdx fun n e =>
    { seq := BitVec.ofNat 16 n, kind := e.1, origin := 0, tag := 0, detail := e.2
      address := 0xFFFFFFFF }

/-- What power-on and the release of RESET_N leave of every volatile item and of the loaded ones (section
10.4, R11, R106, R139, R161, R162), the event log, the counters of events and the session lock apart; `s`
is the state before. -/
def PowerOnColumn (s t : State) : Prop :=
  t.power = .active ∧ t.resetN = true
    ∧ t.queue = [] ∧ t.suspend = .none ∧ t.quantum = none ∧ t.hold = none
    ∧ t.slot0 = emptySlot ∧ t.slot1 = emptySlot ∧ (∀ i : Fin 6, t.pool[i] = none)
    ∧ t.jobs = [] ∧ t.engine = .idle ∧ t.current = none ∧ t.jobAttn = false ∧ t.jobIdNext = 1
    ∧ LoadTaken t ∧ t.commitRun = none ∧ t.aborted = []
    ∧ t.watchdog = (if t.activeImage.settings.watchdogInterval = 0 then ⟨.disabled, 0, 0, false⟩
        else ⟨.armed, t.activeImage.settings.watchdogInterval.toNat * 10,
          t.activeImage.settings.watchdogInterval.toNat * 5, false⟩)
    ∧ ∀ p, HasDefaults t p ∧ (t.port p).fifo = [] ∧ (t.port p).completionLost = false
      ∧ (t.port p).tagNext = 1 ∧ (t.port p).lastTag = 0 ∧ (t.port p).wel = false
      ∧ (t.port p).flags = noFlags ∧ (t.port p).lastRefusal = .none
      ∧ (t.port p).refusalNew = false ∧ (t.port p).contArmed = false
      ∧ (t.port p).resetArmed = false ∧ (t.port p).latch = [] ∧ (t.port p).received = 0
      ∧ (t.port p).driven = none
      ∧ ((s.port p).sel = .high → (t.port p).sel = .high)
      ∧ ((s.port p).sel ≠ .high → (t.port p).sel = .ignored)

/-- The pool with the buffers of some entries free (R53). -/
def poolWithout (s : State) (gone : List Entry) : Vector (Option PageBuf) 6 :=
  Vector.ofFn fun i => if gone.any (·.buffer == some i) then none else s.pool[i]

/-- The interrupt outputs stand at the level that their causes give (R159). -/
def OutputsRight (s : State) : Prop := s.irqA = irqLow s .a ∧ s.irqM = irqLow s .m

/-! ### What may differ between two states -/

/-- The framing state that a port keeps for itself (R1). -/
def SamePortFraming (ps qs : PortState) : Prop :=
  txState ps = txState qs ∧ ps.contArmed = qs.contArmed ∧ ps.resetArmed = qs.resetArmed
    ∧ ps.latch = qs.latch ∧ ps.received = qs.received ∧ ps.lane = qs.lane ∧ ps.wait = qs.wait
    ∧ ps.wrap = qs.wrap ∧ ps.irqMask = qs.irqMask ∧ ps.wel = qs.wel

/-- A state with its selection inputs, lanes and interrupt outputs set aside, and what is kept of the present
instant: its count and its started timers. -/
def withoutPins (s : State) : State :=
  { s with
    portA := { s.portA with sel := .high, driven := none }
    portM := { s.portM with sel := .high, driven := none }
    irqA := false, irqM := false, instantLeft := 0, started := noneStarted }

/-- The content that survives a loss of power (R173): array, store slots, fuse, seal pages and locks. -/
def SameNonvolatile (s t : State) : Prop :=
  s.array = t.array ∧ s.store0 = t.store0 ∧ s.store1 = t.store1 ∧ s.fuse = t.fuse
    ∧ s.sealStore = t.sealStore ∧ s.sealLocks = t.sealLocks

end Sys2Proof.Machine
end

