-- ==== Sys2Proof/Certificates/Slice0/Obligations.lean ====
section
/-! DEFINITION. The statements about the model, for the provers. -/

open Sys2Proof Sys2Proof.Machine

/-! ### The machine as a whole -/

/-- A step takes the command at the front of the queue and runs it on the state with the queue's
rest. -/
def Obligations.StepRunsFrontCommand : Prop :=
  ∀ (c : Instr) (rest : List Instr) (s : State),
    step { s with pending := c :: rest } = exec c { s with pending := rest }

/-- No command stops the machine (a refusal is an effect, R10): each answers a next state and leaves
the waiting commands and the coming instants as they were. The interrupt outputs take the level of
their causes at the end of the instant, and keep theirs until then, so that a cause that comes and
goes within one instant gives no pulse (R159); without power and in reset they are released at once.
The eight causes by their mask bits, the last four Port M's alone; a port's output is low in an operating
device just while a cause of that port is true and its mask bit is 1, so that bits 4 to 7 of Port A's mask
have no effect (R159). The marks of timers started in an instant go at its end (R15; assumption 11).
That a command which stands in no instant is an instant of its own is the model's choice (assumption 2);
that the outputs follow their causes at a WAKE too, where R160's table has them unchanged, is the model's
reading (assumption 24). -/
def Obligations.EveryCommandAnswers : Prop :=
  (∀ (i : Instr) (s : State), ∃ t, exec i s = .next t
    ∧ t.pending = s.pending ∧ t.arriving = s.arriving ∧ t.instantLeft = s.instantLeft - 1
    ∧ (s.instantLeft ≤ 1 → OutputsRight t ∧ t.started = noneStarted)
    ∧ (1 < s.instantLeft → operating t = true → t.irqA = s.irqA ∧ t.irqM = s.irqM)
    ∧ (operating t = false → t.irqA = false ∧ t.irqM = false))
  ∧ (∀ (s : State) (p : Port),
    let ps := s.port p
    (List.range 8).map (irqCauses s p).getLsbD
        = [!ps.fifo.isEmpty, ps.refusalNew,
          ps.flags.masked || ps.flags.collided || ps.flags.suspendedRange,
          decide (s.watchdog.state = .lapsed),
          decide (p = .m ∧ (s.slot0.state = .held ∨ s.slot1.state = .held)),
          decide (p = .m ∧ s.log ≠ []), decide (p = .m ∧ s.jobAttn = true),
          decide (p = .m ∧ s.watchdog.warn = true)]
      ∧ (irqLow s p = true ↔ (s.power = .active ∨ s.power = .dormant)
        ∧ ∃ n < (match p with | .a => 4 | .m => 8),
          (irqCauses s p).getLsbD n = true ∧ ps.irqMask.getLsbD n = true))

/-- The request order (R17, R18). With no command waiting, the next instant begins: its events and the
device's own (the six expiries, the engine's action, the start decision) wait in the request order,
those of one place as they were given. The places: what stands before the order; the pin; the
sequencer's events; Port M, a consumption before the fetch; Port A likewise; the tick; the trap
deadlines, slot 0 first; hold deadline, run quantum, warning point, lapse; the engine; the start decision,
a restart first; power-on and the release of RESET_N. With nothing arriving a further instant begins
where the engine has an action, and else the block idles. No command of an instant is left out of
the wait for its end. The place of the pin and the idling are the model's choices (assumption 2), and so
are the places of TRANSACTION_BEGIN and IGNORED_TRANSACTION_END (assumption 25); that the tick stands at
the head of step 4 is the model's reading (assumption 11). -/
def Obligations.InstantsFollowTheRequestOrder : Prop :=
  (∀ s : State, s.pending = [] →
      (∀ events later, s.arriving = events :: later → events ≠ [] ∨ engineReady s = true →
        step s = .next { s with
          arriving := later, pending := inRequestOrder (events ++ deviceEvents)
          instantLeft := events.length + 10 })
      ∧ (∀ later, s.arriving = [] :: later → engineReady s = false →
        step s = .next { s with arriving := later, instantLeft := 0 })
      ∧ (s.arriving = [] → engineReady s = true →
        step s = .next { s with
          pending := inRequestOrder deviceEvents, instantLeft := 10 })
      ∧ (s.arriving = [] → engineReady s = false → step s = .next s))
    ∧ (∀ events : List Instr,
      (inRequestOrder events).Perm events
        ∧ (inRequestOrder events).Pairwise (fun i j => instantPlace i ≤ instantPlace j)
        ∧ ∀ place, (inRequestOrder events).filter (fun i => instantPlace i == place)
          = events.filter fun i => instantPlace i == place)
    ∧ (∀ stuck, instantPlace (.operationCompletion stuck) < instantPlace (.completionPop .m)
        ∧ instantPlace .suspendTaken = instantPlace (.operationCompletion stuck)
        ∧ instantPlace (.operationCompletion stuck) = 2 ∧ instantPlace .tick = 7
        ∧ (∀ high, instantPlace (.guardNChange high) = 1)
        ∧ ∀ left, instantPlace (.resetNAssert left) = 0 ∧ instantPlace (.powerLoss left) = 0)
    ∧ (∀ i, rowPort i = some .m → instantPlace i = if i = .completionPop .m ∨ i = .eventPop then 3 else 4)
    ∧ (∀ i, rowPort i = some .a → instantPlace i = if i = .completionPop .a then 5 else 6)
    ∧ (deviceEvents.map instantPlace = [8, 9, 10, 11, 12, 13, 14, 14, 15, 16]
        ∧ instantPlace .resetNRelease = 17 ∧ ∀ left, instantPlace (.powerOn left) = 17)
    ∧ (∀ s t : State, InstantSound s → step s = .next t → InstantSound t)

/-- The reset state: the power-on column of the reset table (section 10.4) for the shipped device
(R138). The 205 bytes of the factory image: the factory settings (R132), entry 0 over the whole array
(section 4.9), and 15 cleared entries (R55). The reset state is sound. -/
def Obligations.ResetState : Prop :=
  (let s := State.reset
   s.power = .active ∧ s.queue = [] ∧ s.suspend = .none ∧ s.quantum = none ∧ s.hold = none
     ∧ s.slot0 = emptySlot ∧ s.slot1 = emptySlot ∧ (∀ i : Fin 6, s.pool[i] = none)
     ∧ s.jobs = [] ∧ s.engine = .idle ∧ s.jobAttn = false ∧ s.jobIdNext = 1
     ∧ s.log = [] ∧ s.seqNext = 0 ∧ s.overflow = 0 ∧ s.sessionLock = false
     ∧ s.dirty = false ∧ s.validation = 0 ∧ s.watchdog.state = .disabled
     ∧ (∀ p, (s.port p).wel = false ∧ (s.port p).tagNext = 1 ∧ (s.port p).lastTag = 0
         ∧ (s.port p).contArmed = false ∧ (s.port p).resetArmed = false ∧ (s.port p).latch = []
         ∧ (s.port p).flags = noFlags ∧ (s.port p).lastRefusal = .none
         ∧ (s.port p).refusalNew = false ∧ (s.port p).fifo = []
         ∧ (s.port p).completionLost = false ∧ (s.port p).lane = .one ∧ (s.port p).wait = 8
         ∧ (s.port p).wrap = .b64 ∧ (s.port p).irqMask = 0)
     ∧ s.store0 = slotOf 1 factoryImage ∧ s.store1 = blankSlot
     ∧ s.class0 = .valid ∧ s.class1 = .blank ∧ s.selected = some .s0 ∧ s.generation = 1
     ∧ s.activeImage = factoryImage ∧ s.stagingImage = factoryImage ∧ s.fuse = false)
    ∧ imageToBytes factoryImage = [0, 0, 8, 8, 2, 2, 0, 0, 0xFF, 50, 0, 20, 0]
      ++ [1, 0, 0, 2, 0, 0, 0, 2, 2, 0, 0, 0xFF]
      ++ (List.replicate 15 (0x00#8 :: List.replicate 11 0xFF#8)).flatten
    ∧ (Canonical State.reset ∧ WithinCapacity State.reset ∧ SequencerSound State.reset
     ∧ MailboxSound State.reset ∧ SelectionSound State.reset ∧ TagsSound State.reset
     ∧ StoreSound State.reset ∧ OutputsRight State.reset ∧ BuffersSound State.reset
     ∧ ImagesValid State.reset ∧ InstantSound State.reset)

/-- Every step keeps the array, the seal pages and the page buffers in canonical form, so that
equal contents are equal data, and every page buffer within its 256 bytes. -/
def Obligations.MemoriesStayCanonical : Prop :=
  ∀ s t : State, Canonical s → step s = .next t → Canonical t

/-- Every step keeps the queue at 8 entries at most, each port's outstanding count at 4, the job
steps at 2, each completion FIFO at 8 records, the event log at 16 and the job list at 8. -/
def Obligations.CapacitiesStayWithin : Prop :=
  ∀ s t : State, WithinCapacity s → step s = .next t → WithinCapacity t

/-- Every step keeps it so that each page buffer that is not free belongs to exactly one entry or
mailbox slot, of the origin that it is counted against, that an EMPTY slot has none, and that no
origin has more than its cap: 3 for A, 3 for M, 2 for JOB (R51, R52, R53). -/
def Obligations.BuffersStayOwned : Prop :=
  ∀ s t : State, BuffersSound s → step s = .next t → BuffersSound t

/-- Every step keeps one ACTIVE and one SUSPENDED entry at most, a SUSPENDED entry an erase, an
orphan begun, and a suspend on its way only while an entry is ACTIVE and none SUSPENDED. -/
def Obligations.SequencerStaysSound : Prop :=
  ∀ s t : State, SequencerSound s → step s = .next t → SequencerSound t

/-- Every step keeps it so that a slot is RELEASING only while the queue is full (R46). Every step
keeps these: no transaction under way without power or in reset, only dormant-born ones while
DORMANT; no tag counter or job id counter 0; store slots of 213 bytes. That a DORMANT-born
transaction makes no read rests on R168. -/
def Obligations.PortsMailboxTagsStoreStaySound : Prop :=
  (∀ s t : State, MailboxSound s → step s = .next t → MailboxSound t)
    ∧ (∀ s t : State, SelectionSound s ∧ TagsSound s ∧ StoreSound s → step s = .next t →
     SelectionSound t ∧ TagsSound t ∧ StoreSound t)

/-- What is programmable once never comes back: a blown fuse stays blown (R145), a locked seal
page stays locked (R148), and no seal bit goes from 0 to 1 (R147), whatever the command. What a
cut-short operation leaves is an operand (assumption 10). -/
def Obligations.OneTimeContentNeverReturns : Prop :=
  ∀ (i : Instr) (s t : State), Canonical s → exec i s = .next t →
    (s.fuse = true → t.fuse = true)
      ∧ s.sealLocks &&& t.sealLocks = s.sealLocks
      ∧ ∀ a, memRead s.sealStore a &&& memRead t.sealStore a = memRead t.sealStore a

/-- Only a completion, or an operation cut short by RESET_N or the supply, changes the array, the
store slots, the fuse, the seal pages or their locks (R19, R33, R80): every other command leaves
them. -/
def Obligations.ContentChangesOnlyAtCompletion : Prop :=
  ∀ (i : Instr) (s t : State), exec i s = .next t →
    (∀ stuck, i ≠ .operationCompletion stuck) → (∀ left, i ≠ .powerOn left) →
    (∀ left, i ≠ .powerLoss left) → (∀ left, i ≠ .resetNAssert left) → SameNonvolatile s t

/-- What happens on one port's pins never changes the other port's transaction state,
continuation, reset-arm, inbound latch, current settings or write-arm latch (R1); the one
exception is Port M's DORMANT, which abandons Port A's transaction (R167). -/
def Obligations.PortsAreIndependent : Prop :=
  ∀ (i : Instr) (s t : State) (p : Port), rowPort i = some p → (∀ f w, i ≠ .dormant p f w) →
    exec i s = .next t → SamePortFraming (s.port (otherPort p)) (t.port (otherPort p))

/-- While the device is not ACTIVE, except by WAKE, by the supply, by RESET_N and at the GUARD_N pin,
nothing changes (R161, R162, R168) but the selection of the ports, the release of lanes that a port
drove, and what is kept of the present instant, the count of its commands and the marks of its started
timers: no port drives a lane anew, and interrupt outputs that
stand at the level of their causes keep it. -/
def Obligations.NothingChangesWhileNotActive : Prop :=
  ∀ (i : Instr) (s : State), s.power ≠ .active → SelectionSound s → isPowerEvent i = false →
    (∀ p f, i ≠ .wake p f) → (∀ b, i ≠ .guardNChange b) →
    ∃ t, exec i s = .next t ∧ withoutPins t = withoutPins s
      ∧ (∀ p, (t.port p).driven = none ∨ (t.port p).driven = (s.port p).driven)
      ∧ (OutputsRight s → t.irqA = s.irqA ∧ t.irqM = s.irqM)

/-- The write-arm latch (R34, R35). ARM_WRITE and DISARM_WRITE are always accepted, whatever follows
the command byte, and change WEL alone; torn, they are refused FRAME_TORN and leave it. Each of the
seven requests that need it leaves it 0 when it arrives whole on a port that recognises it, and as it
was otherwise. No other command, completion or timer changes a port's WEL, but for a soft reset of the
port that is carried out, power-on, a loss of power and the release of RESET_N, after which it is 0.
It is bit 0 of byte 0 of the status record. A row of an unselected port stands for its whole
transaction: the model's choice (assumption 5). That WEL is 0 without power is the model's choice
(assumption 15). -/
def Obligations.WriteArmLatch : Prop :=
  (∀ s p f, Arrives s p .armWrite f →
      exec (.armWrite p f) s
        = .next (driveIrq ((ended s p).setPort p { (ended s p).port p with wel := true })))
    ∧ (∀ s p f, Arrives s p .disarmWrite f →
        exec (.disarmWrite p f) s
          = .next (driveIrq ((ended s p).setPort p { (ended s p).port p with wel := false })))
    ∧ (∀ s p tx (f : Frame), f.part = true →
        (Delivered s p .armWrite tx → ∃ t, exec (.armWrite p f) s = .next t
          ∧ (t.port p).wel = (s.port p).wel ∧ (t.port p).lastRefusal = .frameTorn
          ∧ (t.port p).refusalNew = true)
        ∧ (Delivered s p .disarmWrite tx → ∃ t, exec (.disarmWrite p f) s = .next t
          ∧ (t.port p).wel = (s.port p).wel ∧ (t.port p).lastRefusal = .frameTorn
          ∧ (t.port p).refusalNew = true))
    ∧ (∀ i s t p, exec i s = .next t →
        (∀ f, i ≠ .armWrite p f) → (∀ f, i ≠ .disarmWrite p f) →
        (∀ f tx, i = .resetPort p f → Delivered s p .resetPort tx → torn .resetPort f = false →
          tx.resetArmed = false) →
        (∀ c f, requestOf i = some (p, c, f) → needsArming c = false) →
        (∀ left, i ≠ .powerOn left) → (∀ left, i ≠ .powerLoss left) →
        (i = .resetNRelease → s.power ≠ .inReset ∧ s.power ≠ .waiting) →
        (t.port p).wel = (s.port p).wel)
    ∧ (∀ i s t p c f, requestOf i = some (p, c, f) → needsArming c = true → exec i s = .next t →
        (Arrives s p c f → (t.port p).wel = false)
          ∧ (¬ Arrives s p c f → (t.port p).wel = (s.port p).wel))
    ∧ (∀ s p f tx t, Delivered s p .resetPort tx → torn .resetPort f = false →
        tx.resetArmed = true → exec (.resetPort p f) s = .next t → (t.port p).wel = false)
    ∧ (∀ s left t p, exec (.powerOn left) s = .next t → (t.port p).wel = false)
    ∧ (∀ s left t p, s.power ≠ .off → exec (.powerLoss left) s = .next t → (t.port p).wel = false)
    ∧ (∀ s t p, s.power = .inReset ∨ s.power = .waiting → exec .resetNRelease s = .next t → (t.port p).wel = false)
    ∧ (∀ s p cont, (statusByte0 s p cont).getLsbD 0 = (s.port p).wel)

/-- The session lock (R137): LOCK_SESSION sets it and logs SESSION_LOCKED the first time, and does
nothing the second; no command and no reset clears it, only the supply does (power-on, loss of
power, and the release of a RESET_N that has been low since power-on). A row of an unselected port
stands for its whole transaction: the model's choice (assumption 5). -/
def Obligations.SessionLock : Prop :=
  (∀ s f, Arrives s .m .lockSession f →
      exec (.lockSession .m f) s = .next (driveIrq
        (if s.sessionLock then ended s .m
         else logEvent { ended s .m with sessionLock := true } .sessionLocked 2 0 0 0xFFFFFFFF)))
    ∧ ∀ i s t, exec i s = .next t → s.sessionLock = true → s.power ≠ .waiting →
        (∀ left, i ≠ .powerOn left) → (∀ left, i ≠ .powerLoss left) → t.sessionLock = true

/-- The read flags (R30, R31): only the port's own DATA_BYTE_FETCH sets one, and only a
READ_PORT_STATUS or RESET_PORT of the port, the supply and RESET_N clear any. -/
def Obligations.ReadFlagsAreTheirPortsOwn : Prop :=
  ∀ (i : Instr) (s t : State) (p : Port), exec i s = .next t → isPowerEvent i = false →
    (∀ f, i ≠ .readPortStatus p f) → (∀ f, i ≠ .resetPort p f) →
    ((s.port p).flags.masked = true → (t.port p).flags.masked = true)
      ∧ ((s.port p).flags.collided = true → (t.port p).flags.collided = true)
      ∧ ((s.port p).flags.suspendedRange = true → (t.port p).flags.suspendedRange = true)
      ∧ ((∀ w, i ≠ .dataByteFetch p w) → (t.port p).flags = (s.port p).flags)

/-- The tag that the next accepted request of a port receives (R48): with fewer than 4 requests
outstanding it is in use on no entry or slot of the port, and it is not 0; it is the first value not in use
from the counter on, 255 being followed by 1, found within four tries. A value is in use while an entry of
the port that is no orphan, or a slot of Port A, carries it. The event log (R156): an
event takes the next sequence number; it is appended while fewer than 16 records are held, and else
dropped and counted, the count stopping at 255. Nothing else changes. The completion FIFO (R154): a
record is appended while fewer than 8 are held; else the oldest is discarded, the new one appended and
COMPLETION_LOST set. Nothing else of the device changes, but that the port's transaction in progress
notes the loss (R152) and that the record under a delivery of READ_COMPLETIONS is gone (R155). -/
def Obligations.TagsLogAndFifo : Prop :=
  (∀ (s : State) (p : Port), outstanding s p < Config.outstandingCap → (s.port p).tagNext ≠ 0 →
     let after := fun (n : Nat) =>
       Nat.iterate (fun t : Byte => if t = 255 then 1 else t + 1) n (s.port p).tagNext
     tagInUse s p (tagFor s p) = false ∧ tagFor s p ≠ 0
       ∧ ∃ n, n < 4 ∧ tagFor s p = after n ∧ ∀ m, m < n → tagInUse s p (after m) = true)
    ∧ (∀ (s : State) (p : Port) (t : Byte), tagInUse s p t = true ↔
     (∃ e ∈ s.queue, e.origin = portOrigin p ∧ e.orphan = false ∧ e.tag = t)
       ∨ (p = .a ∧ ∃ slot, (s.slot slot).state ≠ .empty ∧ (s.slot slot).tag = t))
    ∧ (∀ (s : State) (k : EventKind) (o t d : Byte) (a : Word),
     (s.log.length < 16 → logEvent s k o t d a =
         { s with log := s.log ++ [⟨s.seqNext, k, o, t, d, a⟩], seqNext := s.seqNext + 1 })
       ∧ (16 ≤ s.log.length → logEvent s k o t d a =
         { s with
           seqNext := s.seqNext + 1
           overflow := BitVec.ofNat 8 (min (s.overflow.toNat + 1) 255) }))
    ∧ (∀ (s : State) (p : Port) (r : Completion),
     ((s.port p).fifo.length < 8 →
         pushCompletion s p r = s.setPort p { s.port p with fifo := (s.port p).fifo ++ [r] })
       ∧ (8 ≤ (s.port p).fifo.length →
         ((∀ tx, (s.port p).sel ≠ .opened tx) →
           pushCompletion s p r = s.setPort p { s.port p with
             fifo := (s.port p).fifo.drop 1 ++ [r], completionLost := true })
         ∧ (∀ tx, (s.port p).sel = .opened tx →
           pushCompletion s p r = s.setPort p { s.port p with
             fifo := (s.port p).fifo.drop 1 ++ [r], completionLost := true
             sel := .opened { tx with
               lostSince := true
               delivery := if tx.readOp = some .completions then
                   tx.delivery.map fun d => { d with present := false }
                 else tx.delivery } })))

/-! ### Framing -/

/-- TRANSACTION_BEGIN (R2, R3): on an ACTIVE device a selected port samples its settings, its
continuation and its reset-arm, and its latch is emptied; a DORMANT device leaves all but the
selection; without power or in reset the port will ignore its clock; a SEL_N that is low already
has no falling edge. IGNORED_TRANSACTION_END (R2): of an ignored or null transaction, the port is
deselected, its lanes undriven, and nothing else changes. What the end of a transaction that
carried a whole byte leaves, before its own effect (R2, R7, R12, R14): the port is deselected and
drives nothing, continuation is OFF and reset-arm DISARMED; every other item of the port, the
other port and all else stay. That IGNORED_TRANSACTION_END also ends a null transaction, and that
a row of an unselected port stands for its whole transaction, are the model's choices (assumptions
6 and 5). -/
def Obligations.TransactionBeginAndEnd : Prop :=
  ((∀ s p, (s.port p).sel = .high → s.power = .active →
       exec (.transactionBegin p) s = .next (driveIrq (s.setPort p { s.port p with
         sel := .opened
           { lane := (s.port p).lane, wait := (s.port p).wait, wrap := (s.port p).wrap
             contArmed := (s.port p).contArmed, resetArmed := (s.port p).resetArmed
             dormant := false, phase := .command, wire := [], readOp := none, fetched := 0
             delivery := none, peekAt := 0, lostSince := false }
         latch := [], received := 0, driven := none })))
     ∧ (∀ s p, (s.port p).sel = .high → s.power = .dormant → ∃ tx, tx.dormant = true ∧
         exec (.transactionBegin p) s
           = .next (driveIrq (s.setPort p { s.port p with sel := .opened tx })))
     ∧ (∀ s p, (s.port p).sel = .high → s.power ≠ .active → s.power ≠ .dormant →
         exec (.transactionBegin p) s
           = .next (driveIrq (s.setPort p { s.port p with sel := .ignored })))
     ∧ (∀ s p, (s.port p).sel ≠ .high → exec (.transactionBegin p) s = .next (driveIrq s))
     ∧ (∀ s p, (s.port p).sel = .ignored ∨
           (∃ tx, (s.port p).sel = .opened tx ∧ tx.readOp = none ∧ tx.wire = []) →
         exec (.ignoredTransactionEnd p) s
           = .next (driveIrq (s.setPort p { s.port p with sel := .high, driven := none }))))
    ∧ (∀ (s : State) (p : Port) (tx : Tx), Live s p tx →
     ∃ latch received,
       ended s p = s.setPort p { s.port p with
           sel := .high, driven := none, contArmed := false, resetArmed := false
           latch := latch, received := received }
         ∧ ((s.port p).sel = .high → latch = [] ∧ received = 0)
         ∧ ((s.port p).sel ≠ .high → latch = (s.port p).latch ∧ received = (s.port p).received))

/-- A refusal (R10, R153): the code is recorded on the port with REFUSAL_NEW, the latch is discarded (R7),
and nothing else changes. A torn request of any of the commands (R9): FRAME_TORN is recorded on the port and
one FRAME_TORN event logged, with the port as origin, no tag, the command byte as detail and no
address; the latch is discarded, and nothing else changes. A command byte that its port does not
recognise (R8): UNKNOWN_COMMAND is recorded at the end of the transaction, whatever followed,
without an event. It holds of every Port-M-only command on Port A, a torn frame included, and of
UNKNOWN_COMMAND with a code that belongs to no command. A row of an unselected port stands for its
whole transaction: the model's choice (assumption 5). -/
def Obligations.TornAndUnrecognisedCommands : Prop :=
  (∀ (i : Instr) (s : State) (p : Port) (c : Command) (f : Frame) (tx : Tx),
     requestOf i = some (p, c, f) → Delivered s p c tx → recognises p c = true → torn c f = true →
     exec i s = .next (driveIrq
       ((logEvent (ended s p) .frameTorn (portCode p) 0 (commandCode c) 0xFFFFFFFF).setPort p
         { (ended s p).port p with
           lastRefusal := .frameTorn, refusalNew := true, latch := [], received := 0 })))
    ∧ ((∀ (i : Instr) (s : State) (p : Port) (c : Command) (f : Frame) (tx : Tx),
       requestOf i = some (p, c, f) ∨ readOf i = some (p, c, f) → Delivered s p c tx →
       recognises p c = false →
       exec i s = .next (driveIrq (refuse (ended s p) p .unknownCommand)))
     ∧ ∀ (s : State) (p : Port) (code : Byte) (f : Frame) (tx : Tx), Live s p tx →
         tx.readOp = none → decodeFor p code = none →
         (tx.contArmed = true → code ≠ 0 ∧ code ≠ 1) →
         exec (.unknownCommand p code f) s
           = .next (driveIrq (refuse (ended s p) p .unknownCommand)))
    ∧ (∀ (s : State) (p : Port) (code : RefusalCode), refuse s p code = s.setPort p { s.port p with
       lastRefusal := code, refusalNew := true, latch := [], received := 0 })

/-- The end of a READ, WRAP_READ, READ_SEAL, READ_COMPLETIONS, IDENTIFY, TABLE_READ,
SETTINGS_READ, MAILBOX_READ, MAILBOX_DATA_READ, JOB_READ or EVENT_PEEK, torn or not, on a port
that recognises it: no effect but on the selection, continuation and reset-arm (R9, R10, R12, R14,
R19). The end of a STREAM_READ and of a CONTINUATION_TRANSACTION (R12, R13): with the mark in
full, continuation is ARMED just when the mark is A5h; torn, it is OFF. With continuation OFF at
its start, a first byte of 00h or 01h is an unrecognised command byte. The end of a
READ_PORT_STATUS (R31, R152) and of an EVENT_READ (R157): with a whole frame and the clear
selector 01h, the port's REFUSAL_NEW and read flags are cleared, and COMPLETION_LOST unless a
record was lost since the last fetch of byte 0; the overflow counter becomes 0. With any other
selector, or torn, nothing changes. A row of an unselected port stands for its whole transaction:
the model's choice (assumption 5). Once output has begun, the frame recorded then is the one that
counts (assumption 16). -/
def Obligations.ReadEnds : Prop :=
  (∀ (i : Instr) (s : State) (p : Port) (c : Command) (f : Frame) (tx : Tx),
     readOf i = some (p, c, f) → c ≠ .streamRead → c ≠ .readPortStatus → c ≠ .eventRead →
     Delivered s p c tx → recognises p c = true →
     exec i s = .next (driveIrq (ended s p)))
    ∧ ((∀ s p f tx, Delivered s p .streamRead tx → readWhole tx .streamRead f →
       exec (.streamRead p f) s = .next (driveIrq ((ended s p).setPort p
         { (ended s p).port p with contArmed := decide (byteAt (readFrame tx 1 f) 4 = 0xA5) })))
     ∧ (∀ s p f tx, Delivered s p .streamRead tx → ¬ readWhole tx .streamRead f →
         exec (.streamRead p f) s = .next (driveIrq (ended s p)))
     ∧ (∀ s p f tx, Live s p tx → continuationFits f tx = true → tx.contArmed = true →
         5 ≤ (readFrame tx 0 f).length →
         exec (.continuationTransaction p f) s = .next (driveIrq ((ended s p).setPort p
           { (ended s p).port p with contArmed := decide (byteAt (readFrame tx 0 f) 4 = 0xA5) })))
     ∧ (∀ s p f tx, Live s p tx → continuationFits f tx = true → tx.contArmed = true →
         (readFrame tx 0 f).length < 5 →
         exec (.continuationTransaction p f) s = .next (driveIrq (ended s p)))
     ∧ (∀ s p f tx, Live s p tx → continuationFits f tx = true → tx.contArmed = false →
         exec (.continuationTransaction p f) s
           = .next (driveIrq (refuse (ended s p) p .unknownCommand))))
    ∧ ((∀ s p f tx, Delivered s p .readPortStatus tx → readWhole tx .readPortStatus f →
       byteAt (readFrame tx 1 f) 0 = 1 →
       exec (.readPortStatus p f) s = .next (driveIrq ((ended s p).setPort p
         { (ended s p).port p with
           refusalNew := false, flags := ⟨false, false, false⟩
           completionLost := (s.port p).completionLost && tx.lostSince })))
     ∧ (∀ s p f tx, Delivered s p .readPortStatus tx →
         (readWhole tx .readPortStatus f → byteAt (readFrame tx 1 f) 0 ≠ 1) →
         exec (.readPortStatus p f) s = .next (driveIrq (ended s p)))
     ∧ (∀ s f tx, Delivered s .m .eventRead tx → readWhole tx .eventRead f →
         byteAt (readFrame tx 1 f) 0 = 1 →
         exec (.eventRead .m f) s = .next (driveIrq { ended s .m with overflow := 0 }))
     ∧ (∀ s f tx, Delivered s .m .eventRead tx →
         (readWhole tx .eventRead f → byteAt (readFrame tx 1 f) 0 ≠ 1) →
         exec (.eventRead .m f) s = .next (driveIrq (ended s .m))))

/-- The command codes (chapter 11.2): each command's code reads back as that command, and Port A
reads it just when the command is not Port M's own (R8). The states of a transaction (R4): the bytes
taken in bring it to ADDRESS while fixed fields are missing, to MARK for STREAM_READ's last one, to WAIT
while wait bytes of a memory read are missing, and then to DATA; a command byte that is not recognised
leaves it in COMMAND. The first DATA_BYTE_FETCH of a transaction: once DATA is reached the bytes decide
the read (R5, R13), and the fetch goes on as one of that read; before that nothing is driven.
Continuation turns OFF at once where the first byte leads no address (R13). That a fetch row whose
bytes open no data-out only takes them in is the model's choice (assumption 6). -/
def Obligations.FramesDecode : Prop :=
  (∀ (c : Command), decodeCommand (commandCode c) = some c
     ∧ decodeFor .m (commandCode c) = some c
     ∧ decodeFor .a (commandCode c) = (if portMOnly c then none else some c))
    ∧ (∀ (p : Port) (tx : Tx) (w : List Byte), tx.phase = .command → tx.wire = [] →
     (receiveWire p tx w).wire = w
       ∧ (framing p tx.contArmed w = none → (receiveWire p tx w).phase = .command)
       ∧ ∀ c bs cont, framing p tx.contArmed w = some ⟨c, bs, cont⟩ →
         (receiveWire p tx w).phase =
           (if frameComplete c bs = false then
              (if c = .streamRead ∧ bs.length = 4 then .mark else .address)
            else if commandClass c = .memoryRead ∧ bs.length < fixedLen c + tx.wait.toNat then .wait
            else .data))
    ∧ ((∀ s p tx w, s.power = .active → (s.port p).sel = .opened tx → tx.dormant = false →
       tx.readOp = none →
       let tx' := receiveWire p tx w
       let ps := { s.port p with contArmed := (s.port p).contArmed
         && !(tx.contArmed && decide (∃ b, tx'.wire.head? = some b ∧ b ≠ 0 ∧ b ≠ 1)) }
       (∀ r, tx'.phase = .data → decodeRead p tx.contArmed tx'.wire = some r →
         exec (.dataByteFetch p w) s = exec (.dataByteFetch p w)
           (s.setPort p { ps with sel := .opened { tx' with readOp := some r } }))
       ∧ (tx'.phase ≠ .data ∨ decodeRead p tx.contArmed tx'.wire = none →
         exec (.dataByteFetch p w) s
           = .next (driveIrq (s.setPort p { ps with sel := .opened tx' }))))
     ∧ (∀ p cont b0 b1 b2 b3 m rest,
         decodeRead p cont (0x11 :: b0 :: b1 :: b2 :: b3 :: rest)
             = some (.read (b0 ++ b1 ++ (b2 ++ b3)))
           ∧ decodeRead p cont (0x14 :: b0 :: b1 :: b2 :: b3 :: rest)
             = some (.wrapRead (b0 ++ b1 ++ (b2 ++ b3)))
           ∧ decodeRead p cont (0x1C :: b0 :: b1 :: b2 :: b3 :: m :: rest)
             = some (.streamRead (b0 ++ b1 ++ (b2 ++ b3)) false)
           ∧ decodeRead p cont (0x81 :: b0 :: b1 :: b2 :: rest)
             = some (.readSeal b0 (b1 ++ b2)))
     ∧ (∀ p b1 b2 b3 m rest,
         decodeRead p true (0x01 :: b1 :: b2 :: b3 :: m :: rest)
             = some (.streamRead (0x01#8 ++ b1 ++ (b2 ++ b3)) true)
           ∧ decodeRead p false (0x01 :: b1 :: b2 :: b3 :: m :: rest) = none))

/-- The lanes (R3, R6, R13): which lanes carry each part of a frame in each lane mode, a byte taking 8
clocks on one lane and 2 on four; on one lane the most significant bit goes first, on four the high
nibble, IO3 its bit 3 and IO0 its bit 0, so that the byte can be read back from its levels. The first
byte with continuation ARMED travels as an address byte does. The port samples no lane in its wait
bytes nor while it puts data out, and drives none but at a fetch. -/
def Obligations.LanesCarryBytes : Prop :=
  (lanesOf .one .command = [0] ∧ lanesOf .one .fields = [0] ∧ lanesOf .one .dataOut = [1]
     ∧ lanesOf .fourData .command = [0] ∧ lanesOf .fourData .fields = [0, 1, 2, 3]
     ∧ lanesOf .fourData .dataOut = [0, 1, 2, 3] ∧ ∀ part, lanesOf .fourAll part = [0, 1, 2, 3])
    ∧ (∀ (m : LaneMode) (part : FramePart) (b : Byte),
      clocksOf m part * (lanesOf m part).length = 8
        ∧ (byteSignal m part b).length = clocksOf m part
        ∧ (∀ clock ∈ byteSignal m part b, clock.map Prod.fst = lanesOf m part)
        ∧ (∀ l, lanesOf m part = [l] → byteSignal m part b = (List.range 8).map fun n =>
          [(l, b.getLsbD (7 - n))])
        ∧ (lanesOf m part = [0, 1, 2, 3] → byteSignal m part b =
          [[(0, b.getLsbD 4), (1, b.getLsbD 5), (2, b.getLsbD 6), (3, b.getLsbD 7)],
           [(0, b.getLsbD 0), (1, b.getLsbD 1), (2, b.getLsbD 2), (3, b.getLsbD 3)]]))
    ∧ (∀ m part b c, byteSignal m part b = byteSignal m part c → b = c)
    ∧ (∀ (m : LaneMode) (ps : PortState) (d : Bool),
      let tx := sampleTx { ps with lane := m } d
      (ps.contArmed = true → sampledLanes tx = lanesOf m .fields)
        ∧ (ps.contArmed = false → sampledLanes tx = lanesOf m .command))
    ∧ (∀ tx : Tx, tx.phase = .wait ∨ tx.readOp ≠ none → sampledLanes tx = [])
    ∧ (∀ (i : Instr) (s t : State) (p : Port), exec i s = .next t → (t.port p).driven ≠ none →
      (t.port p).driven = (s.port p).driven ∨ ∃ w tx b, i = .dataByteFetch p w
        ∧ (t.port p).sel = .opened tx ∧ (t.port p).driven = some (byteSignal tx.lane .dataOut b))

/-! ### Reads -/

/-- A byte of READ, STREAM_READ or WRAP_READ that passes every check (R21, R22, R24): the array byte at its
physical address, which is the address itself on Port M and the translation on Port A, where the partition
gives a read right. The address of the n-th byte: n further on, from the end of the array back to 0 (R21),
or n further on within the aligned wrap group (R22). The busy bank is the one of the ACTIVE program or erase
(R27), the suspended range that of the SUSPENDED entry (R28). That an a_rights code of 3 or above, which
section 4.1 does not have and only a loaded image can hold, gives a read right is the model's choice
(assumption 22). Nothing else changes. A byte that fails a check (R24, R25, R28, R29): the filler, with
exactly one flag of the issuing port set: MASKED where it does not translate or may not be read, else
SUSPENDED_RANGE inside the suspended range, else COLLIDED in the busy bank. -/
def Obligations.ArrayByte : Prop :=
  (∀ (s : State) (p : Port) (tx : Tx) (w : List Byte) (r : ReadOp) (field : Word) (a phys : Nat),
     s.power = .active → (s.port p).sel = .opened tx → tx.dormant = false → tx.readOp = some r →
     readAddress tx.wrap tx.fetched r = some (field, a) → field.toNat < 0x2000000 →
     (p = .m ∧ phys = a ∨ p = .a ∧ ∃ j, translate s.activeImage a = some (j, phys)
         ∧ s.activeImage.entries[j].aRights ≠ 0) →
     meetsSuspended s phys 1 = false → bankBusyAt s phys = false →
     exec (.dataByteFetch p w) s = .next (driveIrq (s.setPort p { s.port p with
       driven := some (byteSignal tx.lane .dataOut (memRead s.array phys))
       sel := .opened { tx with fetched := tx.fetched + 1, phase := .data } })))
    ∧ (∀ (s : State) (p : Port) (tx : Tx) (w : List Byte) (r : ReadOp) (field : Word) (a : Nat),
     s.power = .active → (s.port p).sel = .opened tx → tx.dormant = false → tx.readOp = some r →
     readAddress tx.wrap tx.fetched r = some (field, a) → field.toNat < 0x2000000 →
     let out := fun (fl : ReadFlags) => Host.Outcome.next (driveIrq (s.setPort p { s.port p with
       flags := fl
       driven := some (byteSignal tx.lane .dataOut s.activeImage.settings.filler)
       sel := .opened { tx with fetched := tx.fetched + 1, phase := .data } }))
     (p = .a → translate s.activeImage a = none →
         exec (.dataByteFetch p w) s = out { (s.port p).flags with masked := true })
       ∧ (∀ j phys, p = .a → translate s.activeImage a = some (j, phys) →
           s.activeImage.entries[j].aRights = 0 →
           exec (.dataByteFetch p w) s = out { (s.port p).flags with masked := true })
       ∧ (∀ phys, (p = .m ∧ phys = a ∨ p = .a ∧ ∃ j, translate s.activeImage a = some (j, phys)
             ∧ s.activeImage.entries[j].aRights ≠ 0) →
           (meetsSuspended s phys 1 = true →
             exec (.dataByteFetch p w) s = out { (s.port p).flags with suspendedRange := true })
           ∧ (meetsSuspended s phys 1 = false → bankBusyAt s phys = true →
             exec (.dataByteFetch p w) s = out { (s.port p).flags with collided := true })))
    ∧ (∀ (field : Word) (cont : Bool) (wrap : WrapLen) (n : Nat),
     let a := field.toNat
     let group := match wrap with | .b16 => 16 | .b32 => 32 | .b64 => 64 | .b256 => 256
     let base := a - a % group
     readAddress wrap n (.read field) = some (field, (a + n) % 0x2000000)
       ∧ readAddress wrap n (.streamRead field cont) = some (field, (a + n) % 0x2000000)
       ∧ readAddress wrap n (.wrapRead field) = some (field, base + (a - base + n) % group))
    ∧ (∀ (s : State) (a len : Nat),
     (bankBusyAt s a = true ↔ ∃ e base l, activeEntry s = some e
         ∧ (e.kind = .pageProgram ∨ e.kind = .sectorErase ∨ e.kind = .blockErase)
         ∧ e.target = .array base l ∧ base / 0x1000000 = a / 0x1000000)
       ∧ (meetsSuspended s a len = true ↔ ∃ e base l, suspendedEntry s = some e
         ∧ e.target = .array base l ∧ ∃ n, a ≤ n ∧ n < a + len ∧ base ≤ n ∧ n < base + l))

/-- R20 in full. With any of bits 31 to 25 of the address field set, every data byte of a READ,
WRAP_READ or STREAM_READ is the filler and MASKED is set from the first one on, whatever the
table, the queue and the array hold, and no refusal is recorded. The bits are all 0 just for the
values 0000000h to 1FFFFFFh, each of which is its own starting address; the address of a
continuation transaction always has them 0. -/
def Obligations.AddressOutsideTheArray : Prop :=
  (∀ (s : State) (p : Port) (tx : Tx) (w : List Byte) (r : ReadOp) (field : Word) (a : Nat),
      s.power = .active → (s.port p).sel = .opened tx → tx.dormant = false →
      tx.readOp = some r → readAddress tx.wrap tx.fetched r = some (field, a) →
      field.extractLsb' 25 7 ≠ 0 →
      exec (.dataByteFetch p w) s = .next (driveIrq (s.setPort p { s.port p with
        flags := { (s.port p).flags with masked := true }
        driven := some (byteSignal tx.lane .dataOut s.activeImage.settings.filler)
        sel := .opened { tx with fetched := tx.fetched + 1, phase := .data } })))
    ∧ (∀ field : Word, field.extractLsb' 25 7 = 0 ↔ field.toNat ≤ 0x1FFFFFF)
    ∧ (∀ (field : Word) (wrap : WrapLen), field.toNat ≤ 0x1FFFFFF →
        readAddress wrap 0 (.read field) = some (field, field.toNat)
          ∧ readAddress wrap 0 (.wrapRead field) = some (field, field.toNat)
          ∧ readAddress wrap 0 (.streamRead field false) = some (field, field.toNat))
    ∧ (∀ p w field, decodeRead p true w = some (.streamRead field true) →
        field.extractLsb' 25 7 = 0)

/-- READ_SEAL (R32): byte (s + n) modulo 512 of the page, whatever the queue holds; the filler and MASKED
where the page field is 3 or above. A byte of IDENTIFY, TABLE_READ, SETTINGS_READ, MAILBOX_READ, JOB_READ
(R62, R97, R119, R133, R170), MAILBOX_DATA_READ (R98) and READ_PORT_STATUS (R149): the record as it stands
at the fetch, repeated. Nothing else changes, but that byte 0 of a status record ends the note of a loss
(R152). The bytes of the status record of each port (R150, R151), bit by bit, in a state within its
capacities; of a mailbox slot's record (R97), zeros for an EMPTY slot and for a slot field of 2 or above;
and of a job's (R119), zeros past the end of the list. The kind codes (R74) and the refusal codes (Table
9-1). A byte of MAILBOX_DATA_READ: of the page buffer of a HELD program, at offset plus count modulo 256,
and else 00h (R98), whatever the slot held earlier in the transaction: that a slot HELD anew delivers its
new buffer is the model's choice (assumption 26). The entry and the image that TABLE_READ's field selects,
byte by byte (R62), the settings record that SETTINGS_READ's selects (R133), and the values of IDENTIFY's
parameter space (R171). That a deadline which is due shows 1 is the model's reading (assumption 11). -/
def Obligations.SealAndStatusBytes : Prop :=
  (∀ (s : State) (p : Port) (tx : Tx) (w : List Byte) (page : Byte) (offset : Half),
     s.power = .active → (s.port p).sel = .opened tx → tx.dormant = false →
     tx.readOp = some (.readSeal page offset) →
     (page.toNat ≤ 2 → exec (.dataByteFetch p w) s = .next (driveIrq (s.setPort p { s.port p with
         driven := some (byteSignal tx.lane .dataOut (memRead s.sealStore
           (page.toNat * 512 + (offset.toNat + tx.fetched) % 512)))
         sel := .opened { tx with fetched := tx.fetched + 1, phase := .data } })))
       ∧ (3 ≤ page.toNat → exec (.dataByteFetch p w) s = .next (driveIrq (s.setPort p
         { s.port p with
           flags := { (s.port p).flags with masked := true }
           driven := some (byteSignal tx.lane .dataOut s.activeImage.settings.filler)
           sel := .opened { tx with fetched := tx.fetched + 1, phase := .data } }))))
    ∧ ((∀ (s : State) (p : Port) (tx : Tx) (w : List Byte) (r : ReadOp) (rec : List Byte),
       s.power = .active → (s.port p).sel = .opened tx → tx.dormant = false →
       tx.readOp = some r → fixedRecord s r = some rec →
       exec (.dataByteFetch p w) s = .next (driveIrq (s.setPort p { s.port p with
         driven := some (byteSignal tx.lane .dataOut (byteAt rec (tx.fetched % rec.length)))
         sel := .opened { tx with fetched := tx.fetched + 1, phase := .data } })))
     ∧ (∀ (s : State) (p : Port) (tx : Tx) (w : List Byte) (field offset : Byte),
         s.power = .active → (s.port p).sel = .opened tx → tx.dormant = false →
         tx.readOp = some (.mailboxData field offset) →
         exec (.dataByteFetch p w) s = .next (driveIrq (s.setPort p { s.port p with
           driven := some (byteSignal tx.lane .dataOut (mailboxDataByte s field offset tx.fetched))
           sel := .opened { tx with fetched := tx.fetched + 1, phase := .data } })))
     ∧ (∀ (s : State) (p : Port) (tx : Tx) (w : List Byte) (selector : Byte),
         s.power = .active → (s.port p).sel = .opened tx → tx.dormant = false →
         tx.readOp = some (.portStatus selector) →
         exec (.dataByteFetch p w) s = .next (driveIrq (s.setPort p { s.port p with
           driven := some (byteSignal tx.lane .dataOut (byteAt (statusRecord s p tx.contArmed)
             (tx.fetched % (match p with | .a => 8 | .m => 18))))
           sel := .opened { tx with
             fetched := tx.fetched + 1, phase := .data
             lostSince := tx.lostSince
               && decide (tx.fetched % (match p with | .a => 8 | .m => 18) ≠ 0) } }))))
    ∧ (∀ (s : State) (p : Port) (cont : Bool), WithinCapacity s →
     let r := statusRecord s p cont
     let ps := s.port p
     let held := fun (sl : MailSlot) => if p = .a ∧ sl.state ≠ .empty then 1 else 0
     r.length = (match p with | .a => 8 | .m => 18)
       ∧ (List.range 8).map (byteAt r 0).getLsbD
         = [ps.wel, cont, s.watchdog.state = .lapsed, s.queue.any fun e => e.state = .active,
           s.queue.any fun e => e.state = .suspended, ps.completionLost, ps.refusalNew,
           p = .m && s.dirty]
       ∧ (List.range 8).map (byteAt r 1).getLsbD
         = [ps.flags.masked, ps.flags.collided, ps.flags.suspendedRange, false, false, false,
           false, false]
       ∧ byteAt r 2 = refusalByte ps.lastRefusal ∧ byteAt r 3 = ps.lastTag
       ∧ ((byteAt r 4).extractLsb' 0 4).toNat = outstanding s p
       ∧ ((byteAt r 4).extractLsb' 4 4).toNat = held s.slot0 + held s.slot1
       ∧ (byteAt r 5).toNat = ps.fifo.length
       ∧ ((byteAt r 6).extractLsb' 6 2).toNat
         = (match ps.lane with | .one => 0 | .fourData => 1 | .fourAll => 2)
       ∧ ((byteAt r 6).extractLsb' 4 2).toNat
         = (match ps.wrap with | .b16 => 0 | .b32 => 1 | .b64 => 2 | .b256 => 3)
       ∧ (byteAt r 6).extractLsb' 0 4 = ps.wait ∧ byteAt r 7 = ps.irqMask
       ∧ (p = .m →
         ((byteAt r 8).extractLsb' 0 2).toNat
             = (match baseMode s with | .opened => 0 | .pinGuarded => 1 | .sealed => 2)
           ∧ (List.range' 2 6).map (byteAt r 8).getLsbD
             = [s.sessionLock, s.guardN, barrierPending s, false, false, false]
           ∧ ((byteAt r 9).extractLsb' 0 2).toNat
             = (match s.watchdog.state with | .disabled => 0 | .armed => 1 | .lapsed => 2)
           ∧ (byteAt r 9).getLsbD 2 = s.watchdog.warn
           ∧ ((byteAt r 9).extractLsb' 3 2).toNat
             = (match s.class0 with | .blank => 0 | .valid => 1 | .torn => 2)
           ∧ ((byteAt r 9).extractLsb' 5 2).toNat
             = (match s.class1 with | .blank => 0 | .valid => 1 | .torn => 2)
           ∧ (byteAt r 9).getLsbD 7 = false
           ∧ ((byteAt r 10).extractLsb' 5 3).toNat
             = (match s.engine with
               | .idle => 0 | .running => 1 | .pausing => 2 | .paused => 3 | .aborting => 4
               | .halted => 5)
           ∧ (byteAt r 10).getLsbD 4 = s.jobAttn
           ∧ ((byteAt r 10).extractLsb' 0 4).toNat = s.jobs.length
           ∧ (byteAt r 11).toNat = s.log.length ∧ byteAt r 12 = s.overflow
           ∧ byteAt r 13 = s.validation ∧ (byteAt r 14).toNat = s.queue.length
           ∧ (∀ e, activeEntry s = some e →
             ((byteAt r 15).extractLsb' 3 5).toNat
                 = (match e.origin with | .a => 1 | .m => 2 | .job => 3)
               ∧ (byteAt r 15).extractLsb' 0 3 = (kindCode e.kind).setWidth 3)
           ∧ (activeEntry s = none → byteAt r 15 = 0)
           ∧ be16 r 16 = s.generation.setWidth 16))
    ∧ (∀ (s : State) (field : Byte),
     (∀ slot, slotOfField field = some slot → (s.slot slot).state ≠ .empty →
       let r := mailboxRecord s field
       let sl := s.slot slot
       r.length = 18 ∧ (byteAt r 0).toNat = (if sl.state = .held then 1 else 2)
         ∧ byteAt r 1 = sl.tag ∧ byteAt r 2 = kindCode sl.kind
         ∧ byteAt r 3 = BitVec.ofNat 8 sl.entry
         ∧ be32 r 4 = BitVec.ofNat 32 sl.logical ∧ be32 r 8 = BitVec.ofNat 32 sl.physical
         ∧ be16 r 12 = (match sl.deadline with
           | none => 0xFFFF
           | some n => BitVec.ofNat 16 (max n 1))
         ∧ (byteAt r 14).toNat = (if sl.release then 1 else 0)
         ∧ be16 r 15 = BitVec.ofNat 16 sl.count
         ∧ (List.range 8).map (byteAt r 17).getLsbD
           = [sl.redirected, sl.auto, false, false, false, false, false, false])
     ∧ ((2 ≤ field.toNat ∨ ∃ slot, slotOfField field = some slot ∧ (s.slot slot).state = .empty) →
       mailboxRecord s field = List.replicate 18 0))
    ∧ (∀ (s : State) (index : Byte),
     (∀ d, s.jobs[index.toNat]? = some d →
       let r := jobRecord s index
       r.length = 25 ∧ byteAt r 0 = d.id
         ∧ (byteAt r 1).toNat = (match d.state with
           | .loaded => 0 | .running => 1 | .done => 2 | .faulted => 3 | .cancelled => 4)
         ∧ (byteAt r 2).toNat = (match d.kind with
           | .copy => 1 | .fill => 2 | .eraseRange => 3 | .verify => 4 | .digest => 5)
         ∧ be32 r 3 = BitVec.ofNat 32 d.bytesDone
         ∧ (List.range 8).map (byteAt r 7).getLsbD
           = [d.digest.isSome, d.mismatches.isSome, d.firstMismatch.isSome, d.fault.isSome, false,
             false, false, false]
         ∧ be32 r 8 = d.digest.getD 0 ∧ be32 r 12 = d.mismatches.getD 0
         ∧ be32 r 16 = BitVec.ofNat 32 (d.firstMismatch.getD 0)
         ∧ (d.fault = none → byteAt r 20 = 0 ∧ be32 r 21 = 0)
         ∧ (∀ code a, d.fault = some (code, a) → be32 r 21 = BitVec.ofNat 32 a
           ∧ (byteAt r 20).toNat = (match code with
             | .protected_ => 1 | .opFailed => 2 | .mismatch => 3 | .guarded => 4)))
     ∧ (s.jobs.length ≤ index.toNat → jobRecord s index = List.replicate 25 0))
    ∧ (slotOfField 0 = some .s0 ∧ slotOfField 1 = some .s1
     ∧ ∀ (s : State) (field offset : Byte) (n : Nat),
       (∀ slot i b, slotOfField field = some slot → (s.slot slot).state = .held →
         (s.slot slot).kind = .pageProgram → (s.slot slot).buffer = some i → s.pool[i] = some b →
         mailboxDataByte s field offset n = memRead b.data ((offset.toNat + n) % 256))
       ∧ ((2 ≤ field.toNat ∨ ∃ slot, slotOfField field = some slot
           ∧ ((s.slot slot).state ≠ .held ∨ (s.slot slot).kind ≠ .pageProgram)) →
         mailboxDataByte s field offset n = 0))
    ∧ (∀ (s : State) (field : Byte),
     (∀ i : Fin 16, (field.extractLsb' 0 4).toNat = i.val →
       let r := tableRecord s field
       let e := (if field.getLsbD 7 then s.stagingImage else s.activeImage).entries[i]
       fixedRecord s (.table field) = some r ∧ r.length = 12
         ∧ byteAt r 0 = e.flags ∧ be16 r 1 = e.physBase ∧ be16 r 3 = e.length
         ∧ be16 r 5 = e.viewBase ∧ byteAt r 7 = e.aRights ∧ byteAt r 8 = e.mRights
         ∧ byteAt r 9 = e.trapPolicy ∧ byteAt r 10 = e.defaultAction ∧ byteAt r 11 = e.aliasIndex)
     ∧ (let t := (if field.getLsbD 0 then s.stagingImage else s.activeImage).settings
       fixedRecord s (.settings field) = some
         [t.aLanes, t.mLanes, t.aWait, t.mWait, t.aWrap, t.mWrap, t.aIrqMask, t.mIrqMask, t.filler,
           t.trapTimeout, t.watchdogInterval, t.holdLimit, t.guardMode])
     ∧ fixedRecord s (.mailbox field) = some (mailboxRecord s field)
     ∧ fixedRecord s (.job field) = some (jobRecord s field)
     ∧ ∃ r, fixedRecord s .identify = some r ∧ r.length = 57
       ∧ byteAt r 0 = 0x50 ∧ be16 r 1 = 0x5632 ∧ be32 r 3 = 0x2000000 ∧ be16 r 7 = 0x100
       ∧ be16 r 9 = 0x1000 ∧ be32 r 11 = 0x10000
       ∧ (List.range' 15 5).map (byteAt r) = [0x02, 0x10, 0x0C, 0x0D, 0xCD] ∧ be16 r 20 = 0xD5
       ∧ (List.range' 22 8).map (byteAt r) = [2, 8, 4, 2, 6, 3, 3, 2] ∧ be16 r 30 = 0x100
       ∧ (List.range' 32 8).map (byteAt r) = [0x02, 0x08, 0x04, 0x10, 0x0A, 0x08, 0x04, 0x03]
       ∧ be16 r 40 = 0x200 ∧ (List.range' 42 3).map (byteAt r) = [0xA5, 0x01, 0x28]
       ∧ be32 r 45 = 0x186A0 ∧ be16 r 49 = 0x190 ∧ be16 r 51 = 0x2D ∧ be16 r 53 = 0x15E
       ∧ be16 r 55 = 0x32)
    ∧ ([Kind.pageProgram, .sectorErase, .blockErase, .commit, .guardFuse, .sealProgram, .sealLock].map
       kindCode = [1, 2, 3, 4, 5, 6, 7]
     ∧ [RefusalCode.none, .unknownCommand, .frameTorn, .notArmed, .addressRange, .noData, .unmapped,
       .protected_, .guarded, .storeUpdating, .portLimit, .noBuffer, .trapFull, .queueFull, .notFound,
       .notOwner, .suspendRefused, .resumeRefused, .tableInvalid, .badArgument, .busy, .jobListFull,
       .jobState, .sequence, .interrupted, .sealLocked, .slotState, .dirty, .entryState,
       .storeExhausted].map (fun c => (refusalByte c).toNat) = List.range 30)

/-- READ_COMPLETIONS, EVENT_READ and EVENT_PEEK (R155, R157, R158): the fetch of byte 0 of a
delivery chooses the oldest record, or of a peek the one at its position, whatever it delivered
before; all of its bytes are zeros where there is none. Each further byte comes from the record that
was chosen, and nothing but the port's own next fetch and pop changes the chosen bytes. COMPLETION_POP
and EVENT_POP (R155, R157): once all the bytes of a delivery have been fetched, the chosen record
leaves the FIFO or the log, if it is still there; an empty record pops nothing. A fetch that finds a
delivery over and its pop not taken is the pop and then the fetch (assumption 7). The 4 bytes of a
completion record with the outcome codes (section 9.3, R154), its kind code that of R74; the 10 bytes of an
event record (section 9.4, R156), the 23 event kind codes in the order of Table 9-2, and the origin codes. -/
def Obligations.RecordDeliveries : Prop :=
  (∀ (s : State) (p : Port) (tx : Tx) (w : List Byte) (r : ReadOp) (chosen : Option (List Byte))
     (len at' : Nat),
     s.power = .active → (s.port p).sel = .opened tx → tx.dormant = false →
     tx.readOp = some r → tx.delivery = none ∨ r = .peek → tx.fetched % len = 0 →
     (r = .completions ∧ len = 4 ∧ at' = tx.peekAt
         ∧ chosen = (s.port p).fifo.head?.map completionBytes
       ∨ (∃ selector, r = .events selector) ∧ len = 10 ∧ at' = tx.peekAt
         ∧ chosen = s.log.head?.map eventBytes
       ∨ r = .peek ∧ len = 10 ∧ at' = (if tx.peekAt < s.log.length then tx.peekAt + 1 else 0)
         ∧ chosen = s.log[tx.peekAt]?.map eventBytes) →
     exec (.dataByteFetch p w) s = .next (driveIrq (s.setPort p { s.port p with
       driven := some (byteSignal tx.lane .dataOut
         (byteAt (chosen.getD (List.replicate len 0)) 0))
       sel := .opened { tx with
         fetched := tx.fetched + 1, phase := .data, peekAt := at'
         delivery := some
           { bytes := chosen.getD (List.replicate len 0), present := chosen.isSome } } })))
    ∧ (∀ (s : State) (p : Port) (tx : Tx) (w : List Byte) (r : ReadOp) (len : Nat) (d : Delivery),
     s.power = .active → (s.port p).sel = .opened tx → tx.dormant = false →
     tx.readOp = some r → deliveryBytes r = some len → tx.delivery = some d →
     (tx.fetched % len ≠ 0 →
       exec (.dataByteFetch p w) s = .next (driveIrq (s.setPort p { s.port p with
         driven := some (byteSignal tx.lane .dataOut (byteAt d.bytes (tx.fetched % len)))
         sel := .opened { tx with fetched := tx.fetched + 1, phase := .data } })))
     ∧ (tx.fetched % len = 0 → 0 < tx.fetched → r = .completions →
       exec (.dataByteFetch p w) s = exec (.dataByteFetch p w) (s.setPort p { s.port p with
         sel := .opened { tx with delivery := none }
         fifo := if d.present then (s.port p).fifo.drop 1 else (s.port p).fifo }))
     ∧ (∀ selector, tx.fetched % len = 0 → 0 < tx.fetched → r = .events selector →
       exec (.dataByteFetch p w) s = exec (.dataByteFetch p w)
         (State.setPort { s with log := if d.present then s.log.drop 1 else s.log } p
           { s.port p with sel := .opened { tx with delivery := none } })))
    ∧ (∀ (i : Instr) (s t : State) (p : Port) (tx tx' : Tx) (d : Delivery),
     (s.port p).sel = .opened tx → tx.delivery = some d → exec i s = .next t →
     (t.port p).sel = .opened tx' → (∀ w, i ≠ .dataByteFetch p w) → i ≠ .completionPop p →
     (p = .m → i ≠ .eventPop) →
     tx'.fetched = tx.fetched ∧ ∃ d', tx'.delivery = some d' ∧ d'.bytes = d.bytes)
    ∧ ((∀ (s : State) (p : Port) (tx : Tx) (d : Delivery),
       (s.port p).sel = .opened tx → tx.readOp = some .completions → tx.delivery = some d →
       0 < tx.fetched → tx.fetched % 4 = 0 →
       exec (.completionPop p) s = .next (driveIrq (s.setPort p { s.port p with
         sel := .opened { tx with delivery := none }
         fifo := if d.present then (s.port p).fifo.drop 1 else (s.port p).fifo })))
     ∧ (∀ (s : State) (tx : Tx) (d : Delivery) (selector : Byte),
         s.portM.sel = .opened tx → tx.readOp = some (.events selector) → tx.delivery = some d →
         0 < tx.fetched → tx.fetched % 10 = 0 →
         exec .eventPop s = .next (driveIrq { s with
           log := if d.present then s.log.drop 1 else s.log
           portM := { s.portM with sel := .opened { tx with delivery := none } } })))
    ∧ (∀ r : Completion,
     let b := completionBytes r
     b.length = 4 ∧ byteAt b 0 = r.tag ∧ byteAt b 1 = kindCode r.kind
       ∧ (byteAt b 2).toNat
         = (match r.outcome with | .done => 0 | .failed => 1 | .denied => 2 | .cancelled => 3)
       ∧ (List.range 8).map (byteAt b 3).getLsbD
         = [r.redirected, r.auto, false, false, false, false, false, false])
    ∧ (∀ e : Event,
     let b := eventBytes e
     b.length = 10 ∧ be16 b 0 = e.seq ∧ byteAt b 2 = eventCode e.kind ∧ byteAt b 3 = e.origin
       ∧ byteAt b 4 = e.tag ∧ byteAt b 5 = e.detail ∧ be32 b 6 = e.address)
    ∧ ([EventKind.modifyRefused, .opFailed, .trapTimeout, .trapDenied, .trapAuto, .trapRedirected,
       .watchdogLapse, .watchdogRestored, .watchdogDisabled, .suspendExpired, .frameTorn,
       .commitDone, .commitUnchanged, .commitFailed, .storeSlotTorn, .storeDefaulted, .jobDone,
       .jobFault, .portReset, .resetAborted, .sealLocked, .guardSealed, .sessionLocked].map
       (fun k => (eventCode k).toNat) = List.range' 1 23
     ∧ [Kind.pageProgram, .sectorErase, .blockErase, .commit, .guardFuse, .sealProgram,
       .sealLock].map (fun k => (kindCode k).toNat) = List.range' 1 7
     ∧ [Origin.a, .m, .job].map originCode = [1, 2, 3] ∧ [Port.a, .m].map portCode = [1, 2])

/-! ### Port settings -/

/-- SET_LANES, SET_WAIT, SET_WRAP and SET_IRQ_MASK (R11) write one setting of their port and
nothing else; a value out of range is refused BAD_ARGUMENT and leaves it. The codes of the lane modes and
wrap lengths, and the mode and length that a port default of a code in range stands for. RESET_ARM (R14) arms the
reset-arm. A row of an unselected port stands for its whole transaction: the model's choice
(assumption 5). -/
def Obligations.PortSettings : Prop :=
  ([LaneMode.one, .fourData, .fourAll].map laneCode = [0, 1, 2]
    ∧ [WrapLen.b16, .b32, .b64, .b256].map wrapCode = [0, 1, 2, 3]
    ∧ ∀ v : Byte, (v.toNat ≤ 2 → laneCode (laneOf v) = v.toNat)
      ∧ (v.toNat ≤ 3 → wrapCode (wrapOf v) = v.toNat))
  ∧ ∀ (s : State) (p : Port) (f : Frame) (v : Byte), byteAt f.bytes 0 = v →
    (Arrives s p .setLanes f → v.toNat ≤ 2 → ∃ m, laneCode m = v.toNat ∧
        exec (.setLanes p f) s
          = .next (driveIrq ((ended s p).setPort p { (ended s p).port p with lane := m })))
      ∧ (Arrives s p .setLanes f → 2 < v.toNat →
        exec (.setLanes p f) s = .next (driveIrq (refuse (ended s p) p .badArgument)))
      ∧ (Arrives s p .setWait f → v.toNat ≤ 15 →
        exec (.setWait p f) s = .next (driveIrq ((ended s p).setPort p
          { (ended s p).port p with wait := BitVec.ofNat 4 v.toNat })))
      ∧ (Arrives s p .setWait f → 15 < v.toNat →
        exec (.setWait p f) s = .next (driveIrq (refuse (ended s p) p .badArgument)))
      ∧ (Arrives s p .setWrap f → v.toNat ≤ 3 → ∃ l, wrapCode l = v.toNat ∧
        exec (.setWrap p f) s
          = .next (driveIrq ((ended s p).setPort p { (ended s p).port p with wrap := l })))
      ∧ (Arrives s p .setWrap f → 3 < v.toNat →
        exec (.setWrap p f) s = .next (driveIrq (refuse (ended s p) p .badArgument)))
      ∧ (Arrives s p .setIrqMask f →
        exec (.setIrqMask p f) s
          = .next (driveIrq ((ended s p).setPort p { (ended s p).port p with irqMask := v })))
      ∧ (Arrives s p .resetArm f →
        exec (.resetArm p f) s = .next (driveIrq
          ((ended s p).setPort p { (ended s p).port p with resetArmed := true })))

/-! ### Modifying the array -/

/-- Each of the seven requests that need the write-arm latch is refused NOT_ARMED when it arrives
whole with WEL 0 (R35): no event, no tag, nothing else (a program's or seal program's latch is
discarded). The five edits, and COMMIT and GUARD_FUSE once armed, are refused GUARDED while the guard
does not permit configuration edits and else STORE_UPDATING while a barrier is pending (R63, R134,
R136, R140, R144), before any other check but the frame and the latch; they log no event. The guard permits
configuration edits just when the fuse is unblown, guard_mode is 0 or GUARD_N is high, and the session lock
is clear; the base mode is SEALED with the fuse blown, else OPEN for guard_mode 0 and PIN_GUARDED for 1
(R136). That a guard_mode of 2 or above, which only a loaded image can hold, is PIN_GUARDED is the model's
choice (assumption 17). A barrier is pending while a COMMIT or GUARD_FUSE is WAITING or ACTIVE (R79). A row of
an unselected port stands for its whole transaction: the model's choice (assumption 5). -/
def Obligations.ArmingAndGuardChecks : Prop :=
  (∀ (i : Instr) (s : State) (p : Port) (c : Command) (f : Frame),
     requestOf i = some (p, c, f) → needsArming c = true → Arrives s p c f →
     (s.port p).wel = false →
     exec i s = .next (driveIrq (refuse (ended s p) p .notArmed)))
    ∧ (∀ (i : Instr) (s : State) (c : Command) (f : Frame),
     requestOf i = some (.m, c, f) → Arrives s .m c f →
     c ∈ [Command.tableWriteEntry, .tableClearEntry, .stageFromActive, .settingsWriteStaged,
         .settingsWriteLive]
       ∨ (c ∈ [Command.commit, .guardFuse] ∧ s.portM.wel = true) →
     let b := if needsArming c then consumed (ended s .m) .m else ended s .m
     (guardPermits s = false → exec i s = .next (driveIrq (refuse b .m .guarded)))
       ∧ (guardPermits s = true → barrierPending s = true →
         exec i s = .next (driveIrq (refuse b .m .storeUpdating))))
    ∧ (∀ (s : State),
     let mode := s.activeImage.settings.guardMode
     (guardPermits s = true ↔
         s.fuse = false ∧ (mode = 0 ∨ s.guardN = true) ∧ s.sessionLock = false)
       ∧ (s.fuse = true → baseMode s = .sealed)
       ∧ (s.fuse = false → mode = 0 → baseMode s = .opened)
       ∧ (s.fuse = false → mode ≠ 0 → baseMode s = .pinGuarded)
       ∧ (barrierPending s = true ↔
         ∃ e ∈ s.queue, (e.kind = .commit ∨ e.kind = .guardFuse) ∧ e.state ≠ .suspended))

/-- A PAGE_PROGRAM, SECTOR_ERASE or BLOCK_ERASE that passes every check of R40 and is not trapped
joins the queue's tail (R36, R37, R46, R48, R49, R52): WAITING, its target the physical granule of
the address, with a free tag, which LAST_TAG takes; a program takes the free buffer of lowest
number, filled with FFh and then with the latch. WEL is consumed, and the latch discarded (R7);
nothing else changes. The granules are 256 B, 4 KB and 64 KB (section 3.2). Each byte of the buffer is the
last data byte that the latch received for its position, (start + n) modulo 256 for the n-th, and FFh where
there was none (R7, R37). What codes outside section 4.1's ranges, in a loaded image, let a port write and
trap is the model's choice (assumption 22). A row of an unselected port stands for its whole transaction:
the model's choice (assumption 5). -/
def Obligations.ModifyRequestIsQueued : Prop :=
  ([Kind.pageProgram, .sectorErase, .blockErase].map granuleBytes = [0x100, 0x1000, 0x10000]
    ∧ (∀ (s : State) (i : Fin 6), freeBuffer? s = some i ↔
      s.pool[i] = none ∧ ∀ j : Fin 6, j < i → s.pool[j] ≠ none)
    ∧ (∀ (s : State) (o : Origin) (data : Memory) (i : Fin 6), freeBuffer? s = some i →
      (takeFree s o data).pool = s.pool.set i (some { origin := o, data := data }))
    ∧ (∀ (s : State) (p : Port) (f : Frame),
      poolAfter (modifyBase s p .pageProgram f) p .pageProgram = (takeFree s (portOrigin p)
          (bufferFromLatch (endedWith s p (byteAt f.bytes 3).toNat (f.bytes.drop 4)) p)).pool
        ∧ ∀ k, k ≠ .pageProgram → poolAfter (modifyBase s p k f) p k = s.pool)
    ∧ (∀ (s : State) (p : Port) (start : Nat) (data : List Byte) (i : Nat), i < 256 →
      let lands := fun (n : Nat) => n < data.length ∧ (start + n) % 256 = i
      let byte := memRead (bufferFromLatch (endedWith s p start data) p) i
      ((∀ n, ¬ lands n) → byte = 0xFF)
        ∧ ∀ n, lands n → (∀ m, n < m → ¬ lands m) → byte = byteAt data n))
  ∧ ∀ (i : Instr) (s : State) (p : Port) (k : Kind) (f : Frame) (phys : Nat)
    (cov : Option (Fin 16)),
    modifyOf i = some (p, k, f) → ModifyArrives s p k f →
    TargetFound s p (be32 f.bytes 0).toNat phys cov → NotTrapped s k cov → RoomFound s p k →
    s.queue.length < 8 →
    exec i s = .next (driveIrq (discardLatch
      { (modifyBase s p k f).setPort p (tagged ((modifyBase s p k f).port p) (tagFor s p)) with
        pool := poolAfter (modifyBase s p k f) p k
        queue := s.queue ++
          [{ tag := tagFor s p, origin := portOrigin p, kind := k
             target := .array (phys - phys % granuleBytes k) (granuleBytes k)
             buffer := if k = .pageProgram then freeBuffer? s else none
             state := .waiting, resumePending := false, redirected := false, auto := false
             orphan := false }] } p))

/-- A Port A modify request that its partition traps, with the watchdog not LAPSED and a slot EMPTY, is held
in the EMPTY slot of lowest number (R95, R96), with its trap deadline started unless trap_timeout is 0; it
takes a tag and, for a program, a buffer, and no queue entry; a program's data count is the number of its
data bytes, 256 at most (R37). A trap_policy of 1 traps the erases, one of 2 programs too (section 6.1). A
trapped request while the watchdog is LAPSED (R109). Default DENY: a tag, a DENIED record with AUTO and a
TRAP_AUTO event with the translated address, nothing held. Default RELEASE: into the queue with AUTO and a
TRAP_AUTO event with the target's base, or QUEUE_FULL. The latch is discarded (R7). That a default_action
code of 2 or above, which section 4.1 does not have and only a loaded image can hold, is DENY, and that a
trap_policy code of 3 or above traps nothing, are the model's choices (assumption 22). A row of an
unselected port stands for its whole transaction: the model's choice (assumption 5). A timer that starts is
noted, so that it does not count the tick of its own instant (R15; assumption 11). -/
def Obligations.TrappedRequests : Prop :=
  (∀ (i : Instr) (s : State) (k : Kind) (f : Frame) (phys : Nat) (cov : Option (Fin 16))
     (j : Fin 16) (slot : SlotId),
     modifyOf i = some (.a, k, f) → ModifyArrives s .a k f →
     TargetFound s .a (be32 f.bytes 0).toNat phys cov → Trapped s k cov j → RoomFound s .a k →
     s.watchdog.state ≠ .lapsed → (s.slot slot).state = .empty →
     (slot = .s1 → s.slot0.state ≠ .empty) →
     exec i s = .next (driveIrq (discardLatch (State.setSlot
       { (modifyBase s .a k f).setPort .a (tagged (modifyBase s .a k f).portA (tagFor s .a)) with
         pool := poolAfter (modifyBase s .a k f) .a k
         started := if slot = .s0 then { s.started with trap0 := true }
           else { s.started with trap1 := true } } slot
       { state := .held, tag := tagFor s .a, kind := k, entry := j.val
         logical := (be32 f.bytes 0).toNat, physical := phys
         deadline := if s.activeImage.settings.trapTimeout = 0 then none
           else some s.activeImage.settings.trapTimeout.toNat
         release := decide (s.activeImage.entries[j].defaultAction = 1)
         count := if k = .pageProgram then (modifyBase s .a k f).portA.latch.length else 0
         redirected := false, auto := false
         buffer := if k = .pageProgram then freeBuffer? s else none }) .a)))
    ∧ (∀ (i : Instr) (s : State) (k : Kind) (f : Frame) (phys : Nat) (cov : Option (Fin 16))
     (j : Fin 16),
     modifyOf i = some (.a, k, f) → ModifyArrives s .a k f →
     TargetFound s .a (be32 f.bytes 0).toNat phys cov → Trapped s k cov j → RoomFound s .a k →
     s.watchdog.state = .lapsed →
     (s.activeImage.entries[j].defaultAction ≠ 1 →
         exec i s = .next (driveIrq (discardLatch (pushCompletion
           (logEvent ((modifyBase s .a k f).setPort .a
               (tagged (modifyBase s .a k f).portA (tagFor s .a)))
             .trapAuto 1 (tagFor s .a) 0 (addressWord phys))
           .a ⟨tagFor s .a, k, .denied, false, true⟩) .a)))
       ∧ (s.activeImage.entries[j].defaultAction = 1 → s.queue.length < 8 →
         exec i s = .next (driveIrq (discardLatch (logEvent
           { (modifyBase s .a k f).setPort .a
               (tagged (modifyBase s .a k f).portA (tagFor s .a)) with
             pool := poolAfter (modifyBase s .a k f) .a k
             queue := s.queue ++
               [{ tag := tagFor s .a, origin := .a, kind := k
                  target := .array (phys - phys % granuleBytes k) (granuleBytes k)
                  buffer := if k = .pageProgram then freeBuffer? s else none
                  state := .waiting, resumePending := false, redirected := false, auto := true
                  orphan := false }] }
           .trapAuto 1 (tagFor s .a) 1 (addressWord (phys - phys % granuleBytes k))) .a)))
       ∧ (s.activeImage.entries[j].defaultAction = 1 → 8 ≤ s.queue.length →
         exec i s = .next (driveIrq (refuse (modifyBase s .a k f) .a .queueFull))))
    ∧ (∀ (policy : Byte) (k : Kind), trapCovers policy k = true ↔
     (k = .sectorErase ∨ k = .blockErase) ∧ (policy = 1 ∨ policy = 2)
       ∨ k = .pageProgram ∧ policy = 2)
    ∧ (∀ (s : State) (p : Port) (f : Frame),
     ((modifyBase s p .pageProgram f).port p).latch.length = min (f.bytes.length - 4) 256)

/-- Steps 3 to 6 of R40 refuse a modify request (R36, R41, R42): ADDRESS_RANGE and NO_DATA without
an event; UNMAPPED, PROTECTED and GUARDED with a MODIFY_REFUSED event of the address as received.
WEL is consumed all the same. Steps 7 to 11 of R40 refuse a modify request whose target stands
(R43, R44, R45, R46), each when the steps before it pass: STORE_UPDATING, PORT_LIMIT, NO_BUFFER,
TRAP_FULL, QUEUE_FULL; no event. A port's outstanding count is that of its entries that are no orphans,
and on Port A of its filled slots (R50); buffers fall short where none is free or the origin owns its cap of
3, of JOB 2 (R44, R51). PROTECTED is Port A's without READ_WRITE (R60) and Port M's under READ
(R61). That it is also the refusal for the codes that section 4.1 does not have and only a loaded image
can hold, an a_rights of 3 or above and an m_rights of 0 or of 3 or above, and that a trap_policy of 3 or
above traps nothing, are the model's choices (assumption 22). A row of an unselected port stands for its
whole transaction: the model's choice (assumption 5). -/
def Obligations.ModifyRefusals : Prop :=
  (∀ (i : Instr) (s : State) (p : Port) (k : Kind) (f : Frame),
     modifyOf i = some (p, k, f) → Arrives s p (modifyCommand k) f → (s.port p).wel = true →
     let a := (be32 f.bytes 0).toNat
     let b := modifyBase s p k f
     let refusedWith := fun (code : RefusalCode) => Host.Outcome.next (driveIrq (refuse
       (logEvent b .modifyRefused (portCode p) 0 (refusalByte code) (be32 f.bytes 0)) p code))
     (0x2000000 ≤ a → exec i s = .next (driveIrq (refuse b p .addressRange)))
       ∧ (a < 0x2000000 → k = .pageProgram → f.bytes.length = 4 →
         exec i s = .next (driveIrq (refuse b p .noData)))
       ∧ (ModifyArrives s p k f → p = .a → translate s.activeImage a = none →
         exec i s = refusedWith .unmapped)
       ∧ (∀ j phys, ModifyArrives s p k f → p = .a →
         translate s.activeImage a = some (j, phys) → s.activeImage.entries[j].aRights ≠ 2 →
         exec i s = refusedWith .protected_)
       ∧ (∀ j, ModifyArrives s p k f → p = .m → partitionOf s.activeImage a = some j →
         s.activeImage.entries[j].mRights ≠ 2 → exec i s = refusedWith .protected_)
       ∧ (ModifyArrives s p k f → p = .m → partitionOf s.activeImage a = none →
         guardPermits s = false → exec i s = refusedWith .guarded))
    ∧ (∀ (i : Instr) (s : State) (p : Port) (k : Kind) (f : Frame) (phys : Nat)
     (cov : Option (Fin 16)),
     modifyOf i = some (p, k, f) → ModifyArrives s p k f →
     TargetFound s p (be32 f.bytes 0).toNat phys cov →
     let refused := fun (code : RefusalCode) => exec i s
       = .next (driveIrq (refuse (modifyBase s p k f) p code))
     (barrierPending s = true → refused .storeUpdating)
       ∧ (barrierPending s = false → 4 ≤ outstanding s p → refused .portLimit)
       ∧ (barrierPending s = false → outstanding s p < 4 → k = .pageProgram →
         bufferShort s (portOrigin p) = true → refused .noBuffer)
       ∧ (∀ j, RoomFound s p k → Trapped s k cov j → s.watchdog.state ≠ .lapsed →
         s.slot0.state ≠ .empty → s.slot1.state ≠ .empty → refused .trapFull)
       ∧ (RoomFound s p k → NotTrapped s k cov → 8 ≤ s.queue.length → refused .queueFull))
    ∧ (∀ (s : State) (p : Port), outstanding s p
     = (s.queue.countP fun e => e.origin = portOrigin p ∧ e.orphan = false)
       + (if p = .a then [SlotId.s0, .s1].countP fun i => (s.slot i).state ≠ .empty else 0))
    ∧ (∀ (s : State) (o : Origin), bufferShort s o = true ↔
     (∀ i : Fin 6, s.pool[i] ≠ none)
       ∨ (match o with | .a => 3 | .m => 3 | .job => 2)
         ≤ (List.finRange 6).countP fun i => s.pool[i].any fun b => b.origin = o)
    ∧ (∀ (s : State) (a : Nat),
     (portMWriteRefusal s a = none ↔
         (∃ j, partitionOf s.activeImage a = some j ∧ s.activeImage.entries[j].mRights = 2)
           ∨ partitionOf s.activeImage a = none ∧ guardPermits s = true)
       ∧ ∀ code, portMWriteRefusal s a = some code →
         (code = .protected_ ∧ ∃ j, partitionOf s.activeImage a = some j)
           ∨ (code = .guarded ∧ partitionOf s.activeImage a = none))

/-- CANCEL (R84, R85, R105). A tag of 0, or one that nothing of the issuer holds, is NOT_FOUND; an entry
that has begun is ENTRY_STATE. A WAITING entry leaves the queue, its buffer freed, with a CANCELLED record,
and RELEASING slots take the place; a Port A slot is emptied, its buffer freed, with the same record. No
event. SUSPEND (R86, R87) and RESUME (R89): refused by the checks of their tables in order, and accepted
with one effect: the suspend state becomes PENDING while the run quantum runs and TAKING after it, or stays;
resume-pending is set on the SUSPENDED entry. A tag names an entry of the issuer's origin that is no orphan,
or for Port A a slot that is not EMPTY (R84); Port M may act on any erase, Port A on its own that are no
orphans (R86, R89). A row of an unselected port stands for its whole transaction: the model's choice
(assumption 5). -/
def Obligations.CancelSuspendResume : Prop :=
  (∀ (s : State) (p : Port) (f : Frame), Arrives s p .cancel f →
     let t := byteAt f.bytes 0
     let b := ended s p
     (t = 0 ∨ (slotNamed s p t = none ∧ s.queue.find? (namedBy p t) = none) →
         exec (.cancel p f) s = .next (driveIrq (refuse b p .notFound)))
       ∧ (∀ e, t ≠ 0 → slotNamed s p t = none → s.queue.find? (namedBy p t) = some e →
         (e.state ≠ .waiting →
           exec (.cancel p f) s = .next (driveIrq (refuse b p .entryState)))
         ∧ (e.state = .waiting →
           exec (.cancel p f) s = .next (driveIrq (fillFromMailbox (pushCompletion
             (releaseBuffer { b with queue := s.queue.eraseP (namedBy p t) } e.buffer) p
             ⟨t, e.kind, .cancelled, e.redirected, e.auto⟩)))))
       ∧ (∀ slot, t ≠ 0 → slotNamed s p t = some slot → p = .a →
         exec (.cancel .a f) s = .next (driveIrq (pushCompletion
           ((releaseBuffer b (s.slot slot).buffer).setSlot slot emptySlot) .a
           ⟨(s.slot slot).tag, (s.slot slot).kind, .cancelled, (s.slot slot).redirected,
             (s.slot slot).auto⟩))))
    ∧ (∀ (s : State) (p : Port) (f : Frame),
     (Arrives s p .suspend f →
       (∀ e, activeEntry s = some e → isEraseKind e.kind = true → mayCommand p e = true →
         suspendedEntry s = none →
         exec (.suspend p f) s = .next (driveIrq { ended s p with
           suspend := if s.suspend ≠ .none then s.suspend
             else if s.quantum.isSome then .pending else .taking }))
       ∧ ((∀ e, activeEntry s = some e → isEraseKind e.kind = false) →
         exec (.suspend p f) s = .next (driveIrq (refuse (ended s p) p .suspendRefused)))
       ∧ (∀ e, activeEntry s = some e → isEraseKind e.kind = true → mayCommand p e = false →
         exec (.suspend p f) s = .next (driveIrq (refuse (ended s p) p .notOwner)))
       ∧ (∀ e, activeEntry s = some e → isEraseKind e.kind = true → mayCommand p e = true →
         suspendedEntry s ≠ none →
         exec (.suspend p f) s = .next (driveIrq (refuse (ended s p) p .suspendRefused))))
     ∧ (Arrives s p .resume f →
       (∀ e, suspendedEntry s = some e → mayCommand p e = true →
         exec (.resume p f) s = .next (driveIrq { ended s p with
           queue := updateFirst isSuspended (fun e => { e with resumePending := true }) s.queue }))
       ∧ (∀ e, suspendedEntry s = some e → mayCommand p e = false →
         exec (.resume p f) s = .next (driveIrq (refuse (ended s p) p .notOwner)))
       ∧ (suspendedEntry s = none →
         exec (.resume p f) s = .next (driveIrq (refuse (ended s p) p .resumeRefused)))))
    ∧ (∀ (p : Port) (t : Byte) (e : Entry),
     (namedBy p t e = true ↔ e.origin = portOrigin p ∧ e.orphan = false ∧ e.tag = t)
       ∧ (mayCommand p e = true ↔ p = .m ∨ e.origin = .a ∧ e.orphan = false))
    ∧ (∀ (s : State) (p : Port) (t : Byte),
     let holds := fun (slot : SlotId) => (s.slot slot).state ≠ .empty ∧ (s.slot slot).tag = t
     (slotNamed s p t = none ↔ p = .m ∨ ∀ slot, ¬ holds slot)
       ∧ ∀ slot, slotNamed s p t = some slot → p = .a ∧ holds slot)

/-! ### Configuration -/

/-- TABLE_WRITE_ENTRY, STAGE_FROM_ACTIVE and SETTINGS_WRITE_STAGED (R63, R64, R66, R134), with the
guard permitting edits and no barrier pending, change the staging image alone: one entry, the
whole image, one settings byte; an argument out of range is refused BAD_ARGUMENT. The ranges of an
entry's fields, of which an unused entry has its flags byte checked alone (R64), and of each settings
byte (R132); the bytes that the fields of a written entry stand in (section 4.1), and the one settings
byte that a write replaces. A row of an unselected port stands for its whole transaction: the model's
choice (assumption 5). -/
def Obligations.StagingEdits : Prop :=
  (∀ (e : PartEntry),
    let inRanges := e.physBase.toNat ≤ 511 ∧ 1 ≤ e.length.toNat ∧ e.length.toNat ≤ 512
      ∧ (e.viewBase.toNat ≤ 511 ∨ e.viewBase = 0xFFFF)
      ∧ e.aRights.toNat ≤ 2 ∧ (e.mRights = 1 ∨ e.mRights = 2) ∧ e.trapPolicy.toNat ≤ 2
      ∧ e.defaultAction.toNat ≤ 1 ∧ (e.aliasIndex.toNat ≤ 15 ∨ e.aliasIndex = 0xFF)
    entryInRange e = true ↔
      e.flags.extractLsb' 2 6 = 0 ∧ (e.flags.getLsbD 0 = true → inRanges))
  ∧ (∀ (bs : List Byte),
    let e := entryOf bs
    e.flags = byteAt bs 0 ∧ e.physBase = be16 bs 1 ∧ e.length = be16 bs 3 ∧ e.viewBase = be16 bs 5
      ∧ e.aRights = byteAt bs 7 ∧ e.mRights = byteAt bs 8 ∧ e.trapPolicy = byteAt bs 9
      ∧ e.defaultAction = byteAt bs 10 ∧ e.aliasIndex = byteAt bs 11)
  ∧ (∀ (t : Settings) (n : Nat) (v : Byte), n ≤ 12 →
    (settingInRange n v = true ↔
      (n = 0 ∨ n = 1 → v.toNat ≤ 2) ∧ (n = 2 ∨ n = 3 → v.toNat ≤ 15)
        ∧ (n = 4 ∨ n = 5 → v.toNat ≤ 3) ∧ (n = 11 → v ≠ 0) ∧ (n = 12 → v.toNat ≤ 1))
      ∧ ∀ m, m ≤ 12 → byteAt (settingsBytes (settingsPut t n v)) m
        = if m = n then v else byteAt (settingsBytes t) m)
  ∧ ∀ (s : State) (f : Frame), guardPermits s = true → barrierPending s = false →
    (∀ i : Fin 16, Arrives s .m .tableWriteEntry f → (byteAt f.bytes 0).toNat = i.val →
        entryInRange (entryOf (f.bytes.drop 1)) = true →
        exec (.tableWriteEntry .m f) s = .next (driveIrq { ended s .m with
          stagingImage := { s.stagingImage with
            entries := s.stagingImage.entries.set i (entryOf (f.bytes.drop 1)) } }))
      ∧ (Arrives s .m .tableWriteEntry f →
        (16 ≤ (byteAt f.bytes 0).toNat ∨ entryInRange (entryOf (f.bytes.drop 1)) = false) →
        exec (.tableWriteEntry .m f) s
          = .next (driveIrq (refuse (ended s .m) .m .badArgument)))
      ∧ (Arrives s .m .stageFromActive f →
        exec (.stageFromActive .m f) s
          = .next (driveIrq { ended s .m with stagingImage := s.activeImage }))
      ∧ (Arrives s .m .settingsWriteStaged f → (byteAt f.bytes 0).toNat ≤ 12 →
        settingInRange (byteAt f.bytes 0).toNat (byteAt f.bytes 1) = true →
        exec (.settingsWriteStaged .m f) s = .next (driveIrq { ended s .m with
          stagingImage := { s.stagingImage with
            settings := settingsPut s.stagingImage.settings (byteAt f.bytes 0).toNat
              (byteAt f.bytes 1) } }))
      ∧ (Arrives s .m .settingsWriteStaged f →
        (12 < (byteAt f.bytes 0).toNat
          ∨ settingInRange (byteAt f.bytes 0).toNat (byteAt f.bytes 1) = false) →
        exec (.settingsWriteStaged .m f) s
          = .next (driveIrq (refuse (ended s .m) .m .badArgument)))

/-- R65 in full. TABLE_CLEAR_ENTRY, once past the guard and the barrier, with an index of 0 to 15
puts the cleared pattern of R55 into that staging entry, which is then unused, whatever it held,
and changes no other entry; a valid entry whose partner it was keeps its fields and has alias
fault 6. Any other index is BAD_ARGUMENT. -/
def Obligations.TableClearEntry : Prop :=
  ∀ (s : State) (f : Frame), guardPermits s = true → barrierPending s = false →
    s.portM.sel ≠ .high → Arrives s .m .tableClearEntry f →
    (∀ i : Fin 16, (byteAt f.bytes 0).toNat = i.val →
        exec (.tableClearEntry .m f) s = .next (driveIrq { ended s .m with
            stagingImage := { s.stagingImage with
              entries := s.stagingImage.entries.set i clearedEntry } })
          ∧ (∀ t, exec (.tableClearEntry .m f) s = .next t →
            entryBytes t.stagingImage.entries[i]
                = [0, 0xFF, 0xFF, 0xFF, 0xFF, 0xFF, 0xFF, 0xFF, 0xFF, 0xFF, 0xFF, 0xFF]
              ∧ entryValid t.stagingImage.entries[i] = false
              ∧ ∀ q : Fin 16, q ≠ i →
                t.stagingImage.entries[q] = s.stagingImage.entries[q]
                  ∧ (s.stagingImage.entries[q].aliasIndex.toNat = i.val →
                    aliasFault t.stagingImage q t.stagingImage.entries[q] = true)))
      ∧ (16 ≤ (byteAt f.bytes 0).toNat →
        exec (.tableClearEntry .m f) s
          = .next (driveIrq (refuse (ended s .m) .m .badArgument)))

/-- SETTINGS_WRITE_LIVE (R110, R134): byte 8 to 11 of the active image, DIRTY set; byte 10 acts on the
watchdog by the table of R110. SWAP_VIEWS (R70): the views of a swap pair change places in the active image,
DIRTY set, under the session lock alone. SWAP_VIEWS refused (R70): GUARDED under the session lock, then
STORE_UPDATING, then BAD_ARGUMENT for indices that are out of range or no swap pair: two different entries,
both valid and SWAPPABLE, each the alias of the other. A row of an unselected port stands for its whole
transaction: the model's choice (assumption 5). A timer that starts is noted, so that it does not count the
tick of its own instant (R15; assumption 11). -/
def Obligations.LiveEditsAndSwaps : Prop :=
  (∀ (s : State) (f : Frame), barrierPending s = false →
     let v := byteAt f.bytes 1
     let image := fun (n : Nat) => { s.activeImage with
       settings := settingsPut s.activeImage.settings n v }
     (∀ n, guardPermits s = true → Arrives s .m .settingsWriteLive f →
         (byteAt f.bytes 0).toNat = n → n = 8 ∨ n = 9 ∨ (n = 11 ∧ v ≠ 0) →
         exec (.settingsWriteLive .m f) s
           = .next (driveIrq { ended s .m with activeImage := image n, dirty := true }))
       ∧ (guardPermits s = true → Arrives s .m .settingsWriteLive f →
         byteAt f.bytes 0 = 10 →
         exec (.settingsWriteLive .m f) s = .next (driveIrq
           (match s.watchdog.state, decide (v = 0) with
             | .disabled, true | .lapsed, false =>
               { ended s .m with activeImage := image 10, dirty := true }
             | .armed, true =>
               { ended s .m with
                 activeImage := image 10, dirty := true, watchdog := ⟨.disabled, 0, 0, false⟩ }
             | .disabled, false | .armed, false =>
               { ended s .m with
                 activeImage := image 10, dirty := true
                 watchdog := ⟨.armed, v.toNat * 10, v.toNat * 5, false⟩
                 started := { s.started with watchdog := true } }
             | .lapsed, true =>
               logEvent { ended s .m with
                 activeImage := image 10, dirty := true, watchdog := ⟨.disabled, 0, 0, false⟩ }
                 .watchdogDisabled 2 0 0 0xFFFFFFFF)))
       ∧ (guardPermits s = true → Arrives s .m .settingsWriteLive f →
         ((byteAt f.bytes 0).toNat < 8 ∨ 11 < (byteAt f.bytes 0).toNat
           ∨ (byteAt f.bytes 0 = 11 ∧ v = 0)) →
         exec (.settingsWriteLive .m f) s
           = .next (driveIrq (refuse (ended s .m) .m .badArgument)))
       ∧ (∀ i j : Fin 16, s.sessionLock = false → Arrives s .m .swapViews f →
         (byteAt f.bytes 0).toNat = i.val → v.toNat = j.val →
         swapPair s.activeImage i j = true →
         exec (.swapViews .m f) s = .next (driveIrq { ended s .m with
           activeImage := { s.activeImage with
             entries := (s.activeImage.entries.set i
                 { s.activeImage.entries[i] with viewBase := s.activeImage.entries[j].viewBase }).set
               j { s.activeImage.entries[j] with viewBase := s.activeImage.entries[i].viewBase } }
           dirty := true })))
    ∧ (∀ (s : State) (f : Frame), Arrives s .m .swapViews f →
     (s.sessionLock = true →
         exec (.swapViews .m f) s = .next (driveIrq (refuse (ended s .m) .m .guarded)))
       ∧ (s.sessionLock = false → barrierPending s = true →
         exec (.swapViews .m f) s = .next (driveIrq (refuse (ended s .m) .m .storeUpdating)))
       ∧ (s.sessionLock = false → barrierPending s = false →
         (∀ i j : Fin 16, (byteAt f.bytes 0).toNat = i.val → (byteAt f.bytes 1).toNat = j.val →
           swapPair s.activeImage i j = false) →
         exec (.swapViews .m f) s = .next (driveIrq (refuse (ended s .m) .m .badArgument))))
    ∧ (∀ (im : Image) (i j : Fin 16),
     let partner := fun (e : PartEntry) (other : Fin 16) =>
       e.flags.getLsbD 0 = true ∧ e.flags.getLsbD 1 = true ∧ e.aliasIndex.toNat = other.val
     swapPair im i j = true ↔ i ≠ j ∧ partner im.entries[i] j ∧ partner im.entries[j] i)

/-- COMMIT and GUARD_FUSE (R69, R140, R144) with WEL 1, the guard permitting edits and no barrier
pending. COMMIT writes the validation detail, is refused TABLE_INVALID when validation fails and
STORE_EXHAUSTED at the last generation; GUARD_FUSE is refused DIRTY; then PORT_LIMIT and
QUEUE_FULL; accepted, each is a WAITING barrier at the queue's tail with a tag. A row of an
unselected port stands for its whole transaction: the model's choice (assumption 5). -/
def Obligations.BarrierRequests : Prop :=
  ∀ (s : State) (f : Frame), s.portM.wel = true → guardPermits s = true →
    barrierPending s = false →
    let b := consumed (ended s .m) .m
    let checked := { b with validation := validationDetail s.stagingImage }
    let room := outstanding s .m < 4 ∧ s.queue.length < 8
    let queued := fun (b : State) (k : Kind) =>
      { b.setPort .m (tagged b.portM (tagFor s .m)) with
        queue := s.queue ++ [newEntry (tagFor s .m) .m k .nothing none false false] }
    (Arrives s .m .commit f →
        (tableFault s.stagingImage ≠ none →
          exec (.commit .m f) s = .next (driveIrq (refuse checked .m .tableInvalid)))
        ∧ (tableFault s.stagingImage = none → s.generation = 0xFFFFFFFF →
          exec (.commit .m f) s = .next (driveIrq (refuse checked .m .storeExhausted)))
        ∧ (tableFault s.stagingImage = none → s.generation ≠ 0xFFFFFFFF → room →
          exec (.commit .m f) s = .next (driveIrq (queued checked .commit)))
        ∧ (tableFault s.stagingImage = none → s.generation ≠ 0xFFFFFFFF →
          4 ≤ outstanding s .m →
          exec (.commit .m f) s = .next (driveIrq (refuse checked .m .portLimit)))
        ∧ (tableFault s.stagingImage = none → s.generation ≠ 0xFFFFFFFF →
          outstanding s .m < 4 → 8 ≤ s.queue.length →
          exec (.commit .m f) s = .next (driveIrq (refuse checked .m .queueFull))))
      ∧ (Arrives s .m .guardFuse f →
        (s.dirty = true → exec (.guardFuse .m f) s = .next (driveIrq (refuse b .m .dirty)))
        ∧ (s.dirty = false → room →
          exec (.guardFuse .m f) s = .next (driveIrq (queued b .guardFuse)))
        ∧ (s.dirty = false → 4 ≤ outstanding s .m →
          exec (.guardFuse .m f) s = .next (driveIrq (refuse b .m .portLimit)))
        ∧ (s.dirty = false → outstanding s .m < 4 → 8 ≤ s.queue.length →
          exec (.guardFuse .m f) s = .next (driveIrq (refuse b .m .queueFull))))

/-- SEAL_PROGRAM and SEAL_LOCK (R146, R148) with WEL 1: accepted into the queue, a SEAL_PROGRAM with a
buffer of its latch bytes for the page half of its offset, whatever the guard's base mode and barriers, the
latch then discarded (R7); refused GUARDED under the session lock, BAD_ARGUMENT for a page or offset out of
range, NO_DATA without data, SEAL_LOCKED for a page that is locked or whose SEAL_LOCK is queued, then
PORT_LIMIT, NO_BUFFER for a SEAL_PROGRAM, and QUEUE_FULL. A row of an unselected port stands for its whole
transaction: the model's choice (assumption 5). -/
def Obligations.SealRequests : Prop :=
  ∀ (s : State) (f : Frame), s.portM.wel = true →
    let page := (byteAt f.bytes 0).toNat
    let offset := (be16 f.bytes 1).toNat
    let b := consumed (endedWith s .m (byteAt f.bytes 2).toNat (f.bytes.drop 3)) .m
    let b' := consumed (ended s .m) .m
    (Arrives s .m .sealProgram f →
        (s.sessionLock = true →
          exec (.sealProgram .m f) s = .next (driveIrq (refuse b .m .guarded)))
        ∧ (s.sessionLock = false → 3 ≤ page ∨ 512 ≤ offset →
          exec (.sealProgram .m f) s = .next (driveIrq (refuse b .m .badArgument)))
        ∧ (s.sessionLock = false → page ≤ 2 → offset < 512 → f.bytes.length = 3 →
          exec (.sealProgram .m f) s = .next (driveIrq (refuse b .m .noData)))
        ∧ (s.sessionLock = false → page ≤ 2 → offset < 512 → 3 < f.bytes.length →
          sealLocked s page = true →
          exec (.sealProgram .m f) s = .next (driveIrq (refuse b .m .sealLocked)))
        ∧ (s.sessionLock = false → page ≤ 2 → offset < 512 → 3 < f.bytes.length →
          sealLocked s page = false →
          (4 ≤ outstanding s .m →
            exec (.sealProgram .m f) s = .next (driveIrq (refuse b .m .portLimit)))
          ∧ (outstanding s .m < 4 → bufferShort s .m = true →
            exec (.sealProgram .m f) s = .next (driveIrq (refuse b .m .noBuffer)))
          ∧ (outstanding s .m < 4 → bufferShort s .m = false → 8 ≤ s.queue.length →
            exec (.sealProgram .m f) s = .next (driveIrq (refuse b .m .queueFull))))
        ∧ (s.sessionLock = false → page ≤ 2 → offset < 512 → 3 < f.bytes.length →
          sealLocked s page = false → outstanding s .m < 4 → bufferShort s .m = false →
          s.queue.length < 8 →
          exec (.sealProgram .m f) s = .next (driveIrq (discardLatch
            { b.setPort .m (tagged b.portM (tagFor s .m)) with
              pool := (takeFree b .m (bufferFromLatch b .m)).pool
              queue := s.queue ++
                [newEntry (tagFor s .m) .m .sealProgram
                  (.sealPage page (if 256 ≤ offset then 256 else 0)) (freeBuffer? s) false
                  false] } .m))))
      ∧ (Arrives s .m .sealLock f →
        (s.sessionLock = true →
          exec (.sealLock .m f) s = .next (driveIrq (refuse b' .m .guarded)))
        ∧ (s.sessionLock = false → 3 ≤ page →
          exec (.sealLock .m f) s = .next (driveIrq (refuse b' .m .badArgument)))
        ∧ (s.sessionLock = false → page ≤ 2 → sealLocked s page = true →
          exec (.sealLock .m f) s = .next (driveIrq (refuse b' .m .sealLocked)))
        ∧ (s.sessionLock = false → page ≤ 2 → sealLocked s page = false →
          4 ≤ outstanding s .m →
          exec (.sealLock .m f) s = .next (driveIrq (refuse b' .m .portLimit)))
        ∧ (s.sessionLock = false → page ≤ 2 → sealLocked s page = false →
          outstanding s .m < 4 → 8 ≤ s.queue.length →
          exec (.sealLock .m f) s = .next (driveIrq (refuse b' .m .queueFull)))
        ∧ (s.sessionLock = false → page ≤ 2 → sealLocked s page = false →
          outstanding s .m < 4 → s.queue.length < 8 →
          exec (.sealLock .m f) s = .next (driveIrq
            { b'.setPort .m (tagged b'.portM (tagFor s .m)) with
              queue := s.queue ++ [newEntry (tagFor s .m) .m .sealLock (.sealPage page 0) none
                false false] })))
      ∧ (sealLocked s page = true ↔ s.sealLocks.getLsbD page = true
        ∨ ∃ e half, e ∈ s.queue ∧ e.kind = .sealLock ∧ e.target = .sealPage page half)

/-! ### Mailbox and watchdog -/

/-- MAILBOX_RELEASE, MAILBOX_REDIRECT and MAILBOX_DENY of a HELD slot (R99 to R102). Released, the request
joins the queue's tail as origin A with the slot's tag, kind, granule, buffer and flags and the slot becomes
EMPTY, or RELEASING where the queue is full. A redirect first takes the new granule with the old offset,
sets REDIRECTED and logs TRAP_REDIRECTED. Denied, its buffer is freed, the slot becomes EMPTY, with a DENIED
record and TRAP_DENIED. The refusals of the three resolutions (R99): BAD_ARGUMENT for a slot field of 2 or
above, SLOT_STATE for a slot that is not HELD, and for a redirect ADDRESS_RANGE, PROTECTED and GUARDED; the
slot stays as it was and no event is logged. That an m_rights code of 0, or of 3 or above, which only a
loaded image can hold, is PROTECTED is the model's choice (assumption 22). A row of an unselected port
stands for its whole transaction: the model's choice (assumption 5). -/
def Obligations.MailboxResolutions : Prop :=
  (∀ (s : State) (f : Frame) (slot : SlotId), slotOfField (byteAt f.bytes 0) = some slot →
     (s.slot slot).state = .held →
     let b := ended s .m
     let sl := s.slot slot
     let released := fun (b : State) (sl : MailSlot) =>
       if s.queue.length < 8 then
         State.setSlot { b with queue := s.queue ++
           [{ tag := sl.tag, origin := .a, kind := sl.kind
              target := .array (sl.physical - sl.physical % granuleBytes sl.kind)
                (granuleBytes sl.kind)
              buffer := sl.buffer, state := .waiting, resumePending := false
              redirected := sl.redirected, auto := sl.auto, orphan := false }] } slot emptySlot
       else b.setSlot slot { sl with state := .releasing, deadline := none }
     (Arrives s .m .mailboxRelease f →
         exec (.mailboxRelease .m f) s = .next (driveIrq (released b sl)))
       ∧ (∀ new, Arrives s .m .mailboxRedirect f → new = (be32 f.bytes 1).toNat →
         new < 0x2000000 → portMWriteRefusal s (new - new % granuleBytes sl.kind) = none →
         let phys := new - new % granuleBytes sl.kind + sl.physical % granuleBytes sl.kind
         let sl' := { sl with physical := phys, redirected := true }
         exec (.mailboxRedirect .m f) s = .next (driveIrq (released
           (logEvent (b.setSlot slot sl') .trapRedirected 1 sl.tag (kindCode sl.kind)
             (addressWord phys)) sl')))
       ∧ (Arrives s .m .mailboxDeny f →
         exec (.mailboxDeny .m f) s = .next (driveIrq (logEvent
           (pushCompletion ((releaseBuffer b sl.buffer).setSlot slot emptySlot) .a
             ⟨sl.tag, sl.kind, .denied, false, false⟩)
           .trapDenied 1 sl.tag (kindCode sl.kind) (addressWord sl.physical)))))
    ∧ (∀ (i : Instr) (s : State) (c : Command) (f : Frame),
     requestOf i = some (.m, c, f) →
     c ∈ [Command.mailboxRelease, .mailboxRedirect, .mailboxDeny] → Arrives s .m c f →
     let refused := fun (code : RefusalCode) => exec i s
       = .next (driveIrq (refuse (ended s .m) .m code))
     (2 ≤ (byteAt f.bytes 0).toNat → refused .badArgument)
       ∧ ∀ slot, slotOfField (byteAt f.bytes 0) = some slot →
         ((s.slot slot).state ≠ .held → refused .slotState)
         ∧ ((s.slot slot).state = .held → c = .mailboxRedirect →
           (0x2000000 ≤ (be32 f.bytes 1).toNat → refused .addressRange)
           ∧ (∀ code, (be32 f.bytes 1).toNat < 0x2000000 →
             portMWriteRefusal s (granuleBase (s.slot slot).kind (be32 f.bytes 1).toNat)
               = some code → refused code)))

/-- MAILBOX_DATA_WRITE (R103): each latch position that holds a byte goes into the HELD program's buffer,
the latch is discarded (R7), and nothing else changes; BAD_ARGUMENT for a slot field of 2 or above,
SLOT_STATE for a slot that is not HELD or holds an erase, NO_DATA without a data byte. RELEASING_SLOT_ENTRY
(R17, R100): RELEASING slots enter the queue, slot 0 before slot 1, while entries are free, so that with one
free entry slot 0 alone does; in a state whose RELEASING slots have a full queue before them nothing is left
to do. The entry that a slot's request becomes (R100): WAITING, of origin A, on the granule of the slot's
physical address, with its tag, kind, buffer and flags. Each byte of the buffer is the last data byte for
its position, and as it was where there was none (R7, R103). A row of an unselected port stands for its
whole transaction: the model's choice (assumption 5). That the row RELEASING_SLOT_ENTRY finds nothing left
to do in reachable states is the model's choice (assumption 8). -/
def Obligations.MailboxDataAndReleasingSlots : Prop :=
  (∀ (s : State) (f : Frame) (slot : SlotId), Arrives s .m .mailboxDataWrite f →
     slotOfField (byteAt f.bytes 0) = some slot →
     let b := endedWith s .m (byteAt f.bytes 1).toNat (f.bytes.drop 2)
     ((s.slot slot).state = .held → (s.slot slot).kind = .pageProgram → f.bytes.length = 2 →
         exec (.mailboxDataWrite .m f) s = .next (driveIrq (refuse b .m .noData)))
       ∧ (∀ (n : Fin 6) (pb : PageBuf), (s.slot slot).state = .held →
         (s.slot slot).kind = .pageProgram → 2 < f.bytes.length →
         (s.slot slot).buffer = some n → s.pool[n] = some pb →
         exec (.mailboxDataWrite .m f) s = .next (driveIrq (discardLatch { b with
           pool := s.pool.set n (some { pb with
             data := latchCopy (latchFill [] (byteAt f.bytes 1).toNat (f.bytes.drop 2))
               pb.data }) } .m)))
       ∧ ((s.slot slot).state ≠ .held ∨ (s.slot slot).kind ≠ .pageProgram →
         exec (.mailboxDataWrite .m f) s = .next (driveIrq (refuse b .m .slotState))))
    ∧ (∀ (s : State) (f : Frame), Arrives s .m .mailboxDataWrite f →
     2 ≤ (byteAt f.bytes 0).toNat →
     exec (.mailboxDataWrite .m f) s = .next (driveIrq (refuse (ended s .m) .m .badArgument)))
    ∧ (∀ (s : State), s.power = .active →
     (s.slot0.state = .releasing → s.slot1.state ≠ .releasing → s.queue.length < 8 →
         exec .releasingSlotEntry s = .next (driveIrq { s with
           queue := s.queue ++ [slotEntry s.slot0], slot0 := emptySlot }))
       ∧ (s.slot0.state ≠ .releasing → s.slot1.state = .releasing → s.queue.length < 8 →
         exec .releasingSlotEntry s = .next (driveIrq { s with
           queue := s.queue ++ [slotEntry s.slot1], slot1 := emptySlot }))
       ∧ (s.slot0.state = .releasing → s.slot1.state = .releasing → s.queue.length = 7 →
         exec .releasingSlotEntry s = .next (driveIrq { s with
           queue := s.queue ++ [slotEntry s.slot0], slot0 := emptySlot }))
       ∧ (s.slot0.state = .releasing → s.slot1.state = .releasing → s.queue.length < 7 →
         exec .releasingSlotEntry s = .next (driveIrq { s with
           queue := s.queue ++ [slotEntry s.slot0, slotEntry s.slot1], slot0 := emptySlot
           slot1 := emptySlot }))
       ∧ (MailboxSound s → exec .releasingSlotEntry s = .next (driveIrq s))
       ∧ exec .releasingSlotEntry s = .next (driveIrq (fillFromMailbox s)))
    ∧ (emptySlot.state = .empty ∧ emptySlot.buffer = none ∧ emptySlot.deadline = none
     ∧ ∀ sl : MailSlot, slotEntry sl =
       { tag := sl.tag, origin := .a, kind := sl.kind
         target := .array (sl.physical - sl.physical % granuleBytes sl.kind) (granuleBytes sl.kind)
         buffer := sl.buffer, state := .waiting, resumePending := false
         redirected := sl.redirected, auto := sl.auto, orphan := false })
    ∧ (∀ (start : Nat) (data : List Byte) (buf : Memory) (i : Nat), buf.wf = true → i < 256 →
     let lands := fun (n : Nat) => n < data.length ∧ (start + n) % 256 = i
     let byte := memRead (latchCopy (latchFill [] start data) buf) i
     ((∀ n, ¬ lands n) → byte = memRead buf i)
       ∧ ∀ n, lands n → (∀ m, n < m → ¬ lands m) → byte = byteAt data n)

/-- TRAP_DEADLINE_EXPIRY (R104) of a HELD slot whose deadline is due, and the default action it
captured: RELEASE into the queue, or to RELEASING where that is full; DENY with its record; AUTO
stays 0, and one TRAP_TIMEOUT is logged. A slot that is not HELD, or whose deadline is not due, is
left. The watchdog (R106, R107, R108): HEARTBEAT restarts an ARMED countdown with WARN clear, brings a
LAPSED one back with WATCHDOG_RESTORED and leaves a DISABLED one; the warning point sets WARN alone. The
lapse logs WATCHDOG_LAPSE and then resolves each HELD slot by its default action, slot 0 first:
released into the queue with AUTO, or RELEASING with AUTO where that is full; denied with its buffer
freed and a DENIED record with AUTO; one TRAP_AUTO event each. A slot that is not HELD is left. A row
of an unselected port stands for its whole transaction: the model's choice (assumption 5). That a
deadline or a countdown is due when its count is 0 is the model's reading (assumption 11).
A timer that starts is noted, so that it does not count the tick of its own instant (R15; assumption 11). -/
def Obligations.DeadlinesAndWatchdog : Prop :=
  (∀ (s : State) (slot : SlotId), s.power = .active →
     let sl := s.slot slot
     (sl.state = .held → sl.deadline = some 0 → sl.release = true → s.queue.length < 8 →
         exec (.trapDeadlineExpiry slot) s = .next (driveIrq (logEvent
           (State.setSlot { s with queue := s.queue ++ [slotEntry sl] } slot emptySlot)
           .trapTimeout 1 sl.tag 1 (addressWord sl.physical))))
       ∧ (sl.state = .held → sl.deadline = some 0 → sl.release = true → 8 ≤ s.queue.length →
         exec (.trapDeadlineExpiry slot) s = .next (driveIrq (logEvent
           (s.setSlot slot { sl with state := .releasing, deadline := none })
           .trapTimeout 1 sl.tag 1 (addressWord sl.physical))))
       ∧ (sl.state = .held → sl.deadline = some 0 → sl.release = false →
         exec (.trapDeadlineExpiry slot) s = .next (driveIrq (logEvent
           (pushCompletion ((releaseBuffer s sl.buffer).setSlot slot emptySlot) .a
             ⟨sl.tag, sl.kind, .denied, false, false⟩)
           .trapTimeout 1 sl.tag 0 (addressWord sl.physical))))
       ∧ (sl.state ≠ .held ∨ sl.deadline ≠ some 0 →
         exec (.trapDeadlineExpiry slot) s = .next (driveIrq s)))
    ∧ (∀ (s : State),
     let full : Watchdog :=
       ⟨.armed, s.activeImage.settings.watchdogInterval.toNat * 10,
         s.activeImage.settings.watchdogInterval.toNat * 5, false⟩
     let beaten := fun (b : State) =>
       { b with watchdog := full, started := { s.started with watchdog := true } }
     let resolved := fun (b : State) (slot : SlotId) =>
       let sl := b.slot slot
       if sl.state ≠ .held then b
       else if sl.release = false then
         logEvent (pushCompletion ((releaseBuffer b sl.buffer).setSlot slot emptySlot) .a
             ⟨sl.tag, sl.kind, .denied, false, true⟩)
           .trapAuto 1 sl.tag 0 (addressWord sl.physical)
       else if b.queue.length < 8 then
         logEvent (State.setSlot
             { b with queue := b.queue ++ [slotEntry { sl with auto := true }] } slot emptySlot)
           .trapAuto 1 sl.tag 1 (addressWord sl.physical)
       else
         logEvent (b.setSlot slot { sl with state := .releasing, deadline := none, auto := true })
           .trapAuto 1 sl.tag 1 (addressWord sl.physical)
     (∀ f, Arrives s .m .heartbeat f →
         (s.watchdog.state = .disabled →
           exec (.heartbeat .m f) s = .next (driveIrq (ended s .m)))
         ∧ (s.watchdog.state = .armed →
           exec (.heartbeat .m f) s = .next (driveIrq (beaten (ended s .m))))
         ∧ (s.watchdog.state = .lapsed →
           exec (.heartbeat .m f) s = .next (driveIrq (logEvent
             (beaten (ended s .m)) .watchdogRestored 2 0 0 0xFFFFFFFF))))
       ∧ (s.power = .active → s.watchdog.state = .armed → s.watchdog.warnLeft = 0 →
         exec .watchdogWarningPoint s
           = .next (driveIrq { s with watchdog := { s.watchdog with warn := true } }))
       ∧ (s.power = .active → s.watchdog.state = .armed → s.watchdog.left = 0 →
         exec .watchdogLapse s = .next (driveIrq (resolved (resolved (logEvent
           { s with watchdog := ⟨.lapsed, 0, 0, false⟩ } .watchdogLapse 0 0 0 0xFFFFFFFF) .s0) .s1)))
       ∧ (s.watchdog.state ≠ .armed ∨ s.watchdog.left ≠ 0 →
         exec .watchdogLapse s = .next (driveIrq s))
       ∧ (s.watchdog.state ≠ .armed ∨ s.watchdog.warnLeft ≠ 0 →
         exec .watchdogWarningPoint s = .next (driveIrq s)))

/-! ### Jobs -/

/-- JOB_LOAD (R112, R113): a descriptor that passes R114 joins the list, LOADED, with the job id
counter's value, and the counter advances, 255 to 1; JOB_STATE while ABORTING, BAD_ARGUMENT,
JOB_LIST_FULL. The conditions of R114, kind by kind: at most four options of different types that the
kind allows, the ranges inside the array, the alignments, a length other than 0, the unused field 0,
the two ranges of COPY and VERIFY apart. The descriptor holds the fields and options given, an option
that is not given at its default. A row of an unselected port stands for its whole transaction: the model's choice
(assumption 5). -/
def Obligations.JobLoad : Prop :=
  (∀ (id : Byte) (bs : List Byte) (os : List JobOption), jobOptionsOf bs = some os →
     let kind := (byteAt bs 0).toNat
     let src := (be32 bs 1).toNat
     let dst := (be32 bs 5).toNat
     let len := (be32 bs 9).toNat
     let paged := dst % 256 = 0 ∧ len % 256 = 0
       ∧ (.preErase ∈ os → dst % 4096 = 0 ∧ len % 4096 = 0)
     let apart := src + len ≤ dst ∨ dst + len ≤ src
     (loadedDescriptor id bs ≠ none ↔
       (byteAt bs 13).toNat ≤ 4 ∧ (os.map optionType).Nodup ∧ len ≠ 0
         ∧ (kind = 1 ∧ (∀ o ∈ os, o = .preErase) ∧ src + len ≤ 0x2000000
             ∧ dst + len ≤ 0x2000000 ∧ src % 256 = 0 ∧ paged ∧ apart
           ∨ kind = 2 ∧ (∀ o ∈ os, o = .preErase ∨ ∃ v, o = .fillValue v) ∧ src = 0
             ∧ dst + len ≤ 0x2000000 ∧ paged
           ∨ kind = 3 ∧ os = [] ∧ src = 0 ∧ dst + len ≤ 0x2000000 ∧ dst % 4096 = 0
             ∧ len % 4096 = 0
           ∨ kind = 4 ∧ (∀ o ∈ os, o = .mismatchPolicy 0 ∨ o = .mismatchPolicy 1)
             ∧ src + len ≤ 0x2000000 ∧ dst + len ≤ 0x2000000 ∧ apart
           ∨ kind = 5 ∧ (∀ o ∈ os, ∃ v, o = .digestSeed v) ∧ dst = 0
             ∧ src + len ≤ 0x2000000))
       ∧ ∀ d, loadedDescriptor id bs = some d →
         d.id = id ∧ d.state = .loaded ∧ (jobKindCode d.kind).toNat = kind ∧ d.source = src
           ∧ d.dest = dst ∧ d.length = len ∧ d.bytesDone = 0 ∧ d.digest = none
           ∧ d.mismatches = none ∧ d.firstMismatch = none ∧ d.fault = none
           ∧ (d.preErase = true ↔ .preErase ∈ os) ∧ (d.stop = true ↔ .mismatchPolicy 1 ∈ os)
           ∧ (∀ v, .fillValue v ∈ os → d.fill = v) ∧ (∀ v, .digestSeed v ∈ os → d.seed = v)
           ∧ ((∀ v, .fillValue v ∉ os) → d.fill = 0)
           ∧ ((∀ v, .digestSeed v ∉ os) → d.seed = 0xFFFFFFFF))
    ∧ (∀ (s : State) (f : Frame), Arrives s .m .jobLoad f →
    (s.engine = .aborting →
        exec (.jobLoad .m f) s = .next (driveIrq (refuse (ended s .m) .m .jobState)))
      ∧ (s.engine ≠ .aborting → loadedDescriptor s.jobIdNext f.bytes = none →
        exec (.jobLoad .m f) s = .next (driveIrq (refuse (ended s .m) .m .badArgument)))
      ∧ (∀ d, s.engine ≠ .aborting → loadedDescriptor s.jobIdNext f.bytes = some d →
        d.state = .loaded ∧ d.id = s.jobIdNext
          ∧ (s.jobs.length < 8 →
            exec (.jobLoad .m f) s = .next (driveIrq { ended s .m with
              jobs := s.jobs ++ [d]
              jobIdNext := if s.jobIdNext = 255 then 1 else s.jobIdNext + 1 }))
          ∧ (8 ≤ s.jobs.length →
            exec (.jobLoad .m f) s = .next (driveIrq (refuse (ended s .m) .m .jobListFull)))))

/-- JOB_START, JOB_PAUSE and JOB_ABORT (R116 to R118): accepted in the engine states of the table of R116,
with JOB_ATTN cleared on the way; a pause with no step outstanding takes effect at once and sets JOB_ATTN.
An abort removes the WAITING job steps and frees their buffers, and RELEASING slots take the places; with a
begun step left the engine is ABORTING, and with none the abort ends at once, RUNNING and LOADED descriptors
CANCELLED, JOB_ATTN set. Every other state is refused JOB_STATE. JOB_CLEAR (R120): BUSY unless the engine is
IDLE or HALTED; else the list is emptied, JOB_ATTN cleared and the engine IDLE, and nothing else changes.
The next descriptor is the LOADED one of lowest index (R112); one that begins becomes RUNNING and current,
its steps from the start, a DIGEST's register at its seed (R116, R129). A row of an unselected port stands
for its whole transaction: the model's choice (assumption 5). -/
def Obligations.JobControlsAndClear : Prop :=
  (∀ (s : State) (f : Frame),
     let b := ended s .m
     (∀ n d, Arrives s .m .jobStart f →
         (s.engine = .idle ∨ s.engine = .halted ∨ (s.engine = .paused ∧ currentJob s = none)) →
         nextLoaded s = some n → s.jobs[n]? = some d →
         exec (.jobStart .m f) s = .next (driveIrq { b with
           engine := .running, jobAttn := false, current := some n
           jobs := s.jobs.set n { d with state := .running }
           cursor := ⟨0, false⟩, crc := if d.kind = .digest then d.seed else s.crc }))
       ∧ (Arrives s .m .jobStart f → s.engine = .paused → currentJob s ≠ none →
         exec (.jobStart .m f) s
           = .next (driveIrq { b with engine := .running, jobAttn := false }))
       ∧ (Arrives s .m .jobStart f →
         (s.engine = .running ∨ s.engine = .pausing ∨ s.engine = .aborting
           ∨ ((s.engine = .idle ∨ s.engine = .halted) ∧ nextLoaded s = none)) →
         exec (.jobStart .m f) s = .next (driveIrq (refuse b .m .jobState)))
       ∧ (Arrives s .m .jobPause f → s.engine = .running → stepsOutstanding s ≠ 0 →
         exec (.jobPause .m f) s
           = .next (driveIrq { b with engine := .pausing, jobAttn := false }))
       ∧ (∀ d, Arrives s .m .jobPause f → s.engine = .running → stepsOutstanding s = 0 →
         currentJob s = some d → d.state = .running →
         exec (.jobPause .m f) s
           = .next (driveIrq { b with engine := .paused, jobAttn := true }))
       ∧ (Arrives s .m .jobPause f → s.engine ≠ .running →
         exec (.jobPause .m f) s = .next (driveIrq (refuse b .m .jobState)))
       ∧ (Arrives s .m .jobAbort f → s.engine ≠ .idle → s.engine ≠ .aborting →
         let withdrawn := fun (e : Entry) => e.origin == .job && !e.orphan && e.state == .waiting
         let begun := s.queue.countP fun e => e.origin == .job && !e.orphan && e.state != .waiting
         let c := fillFromMailbox { b with
           engine := .aborting, jobAttn := false
           queue := s.queue.filter fun e => !withdrawn e
           pool := poolWithout s (s.queue.filter withdrawn) }
         (begun ≠ 0 → exec (.jobAbort .m f) s = .next (driveIrq c))
         ∧ (begun = 0 → exec (.jobAbort .m f) s = .next (driveIrq { c with
             engine := .idle, current := none, jobAttn := true
             jobs := s.jobs.map fun d => if d.state = .running ∨ d.state = .loaded then
               { d with state := .cancelled } else d })))
       ∧ (Arrives s .m .jobAbort f → s.engine = .idle ∨ s.engine = .aborting →
         exec (.jobAbort .m f) s = .next (driveIrq (refuse b .m .jobState))))
    ∧ (∀ (s : State) (f : Frame), Arrives s .m .jobClear f →
     (s.engine = .idle ∨ s.engine = .halted →
         exec (.jobClear .m f) s = .next (driveIrq { ended s .m with
           jobs := [], current := none, engine := .idle, jobAttn := false }))
       ∧ (s.engine ≠ .idle → s.engine ≠ .halted →
         exec (.jobClear .m f) s = .next (driveIrq (refuse (ended s .m) .m .busy))))
    ∧ (∀ (s : State),
     (∀ d, currentJob s = some d ↔ ∃ n, s.current = some n ∧ s.jobs[n]? = some d)
       ∧ (nextLoaded s = none ↔ ∀ d ∈ s.jobs, d.state ≠ .loaded)
       ∧ (∀ n, nextLoaded s = some n ↔ (∃ d, s.jobs[n]? = some d ∧ d.state = .loaded)
         ∧ ∀ m d, m < n → s.jobs[m]? = some d → d.state ≠ .loaded)
       ∧ ∀ n d, s.jobs[n]? = some d → beginJob s n = { s with
         jobs := s.jobs.set n { d with state := .running }, current := some n, cursor := ⟨0, false⟩
         crc := if d.kind = .digest then d.seed else s.crc })

/-- JOB_STEP_ISSUE (R122, R123): with the engine RUNNING, the five conditions met and the target
writable, the step at the cursor joins the queue's tail with origin JOB and the job id as tag, a
page step with a buffer of its data, and the cursor advances; a failed condition issues nothing. A
step whose target Port M may not write (R123, R130) issues nothing and faults the descriptor, with
fault code PROTECTED or GUARDED, the target as fault address and a JOB_FAULT event; with no step
outstanding the engine is HALTED at once and JOB_ATTN set. The five conditions (R122, R126): a free
entry, fewer than 2 steps outstanding, no barrier WAITING or ACTIVE, for a page step a free buffer and
fewer than 2 owned for JOB, for a COPY's a readable source page. The steps in issue order (R121): the
pages of a COPY or FILL ascending, each sector's erase before its 16 pages under PRE_ERASE; of an
ERASE_RANGE a block where one is aligned and remains, else a sector; none of a VERIFY or DIGEST. A page
step's data: the source page at the same distance, or the fill value. That an m_rights code of 0, or of
3 or above, which only a loaded image can hold, is PROTECTED is the model's choice (assumption 22). -/
def Obligations.JobStepsIssue : Prop :=
  (∀ (s : State) (n : Nat) (d : Descriptor) (k : Kind) (a : Nat), s.power = .active →
     s.engine = .running → s.current = some n → s.jobs[n]? = some d → d.state = .running →
     stepAt d s.cursor = some (k, a) →
     (stepReady s d k = true → portMWriteRefusal s a = none →
         exec .jobStepIssue s = .next (driveIrq { s with
           pool := if k = .pageProgram then (takeFree s .job (stepData s d s.cursor)).pool
             else s.pool
           queue := s.queue ++
             [{ tag := d.id, origin := .job, kind := k
                target := .array (a - a % granuleBytes k) (granuleBytes k)
                buffer := if k = .pageProgram then freeBuffer? s else none
                state := .waiting, resumePending := false, redirected := false, auto := false
                orphan := false }]
           cursor := cursorAfter d s.cursor k }))
       ∧ (stepReady s d k = false → exec .jobStepIssue s = .next (driveIrq s)))
    ∧ (∀ (s : State) (n : Nat) (d : Descriptor) (k : Kind) (a : Nat) (code : RefusalCode),
     s.power = .active → s.engine = .running → s.current = some n → s.jobs[n]? = some d →
     d.state = .running → stepAt d s.cursor = some (k, a) → stepReady s d k = true →
     portMWriteRefusal s a = some code →
     ∃ t fault, exec .jobStepIssue s = .next t
       ∧ (fault = if code = .guarded then JobFault.guarded else .protected_)
       ∧ t.jobs = s.jobs.set n { d with state := .faulted, fault := some (fault, a) }
       ∧ t.queue = s.queue ∧ t.pool = s.pool
       ∧ t.log = (logEvent s .jobFault 3 d.id (if code = .guarded then 4 else 1)
         (BitVec.ofNat 32 a)).log
       ∧ (stepsOutstanding s = 0 → t.engine = .halted ∧ t.jobAttn = true)
       ∧ (stepsOutstanding s ≠ 0 → t.engine = .running ∧ t.jobAttn = s.jobAttn))
    ∧ (∀ (s : State) (d : Descriptor) (k : Kind),
     stepReady s d k = true ↔
       s.queue.length < 8
         ∧ (s.queue.countP fun e => e.origin = .job ∧ e.orphan = false) < 2
         ∧ (∀ e ∈ s.queue, e.kind = .commit ∨ e.kind = .guardFuse → e.state = .suspended)
         ∧ (k = .pageProgram → (∃ i : Fin 6, s.pool[i] = none)
           ∧ ((List.finRange 6).countP fun i => s.pool[i].any fun b => b.origin = .job) < 2)
         ∧ (k = .pageProgram → d.kind = .copy →
           let page := d.source + s.cursor.pos
           bankBusyAt s page = false ∧ meetsSuspended s (page - page % 256) 256 = false))
    ∧ (∀ (d : Descriptor) (n m : Nat), n < m →
     (d.kind = .copy ∨ d.kind = .fill →
       (d.preErase = false → d.length = 256 * n → stepsFrom d m ⟨0, false⟩ =
         (List.range n).map fun i => (.pageProgram, d.dest + 256 * i))
       ∧ (d.preErase = true → d.length = 4096 * n → stepsFrom d (17 * m) ⟨0, false⟩ =
         (List.range n).flatMap fun i => (.sectorErase, d.dest + 4096 * i) ::
           (List.range 16).map fun j => (.pageProgram, d.dest + 4096 * i + 256 * j)))
     ∧ (∀ pos, d.kind = .eraseRange →
       (d.length ≤ pos → stepsFrom d m ⟨pos, false⟩ = [])
       ∧ (pos < d.length →
         ((d.dest + pos) % 65536 = 0 ∧ 65536 ≤ d.length - pos →
           stepsFrom d (m + 1) ⟨pos, false⟩
             = (.blockErase, d.dest + pos) :: stepsFrom d m ⟨pos + 65536, false⟩)
         ∧ ((d.dest + pos) % 65536 ≠ 0 ∨ d.length - pos < 65536 →
           stepsFrom d (m + 1) ⟨pos, false⟩
             = (.sectorErase, d.dest + pos) :: stepsFrom d m ⟨pos + 4096, false⟩)))
     ∧ (∀ c, d.kind = .verify ∨ d.kind = .digest → stepsFrom d m c = []))
    ∧ (∀ (s : State) (d : Descriptor) (c : Cursor) (i : Nat), i < 256 →
     memRead (stepData s d c) i
       = if d.kind = .fill then d.fill else memRead s.array (d.source + c.pos + i))

/-- The completion of a job step that is no orphan (R82, R83, R124). DONE, bytes_done grows by the step's
bytes, none for a PRE_ERASE; with another step outstanding that is all. With none outstanding, and
every step issued, the descriptor becomes DONE with a JOB_DONE event, and the engine goes on to the next
LOADED descriptor or enters IDLE (R125); PAUSING ends in PAUSED or IDLE (R117), ABORTING in IDLE with the
RUNNING and LOADED descriptors CANCELLED (R118), and a FAULTED descriptor in HALTED (R130), JOB_ATTN set
each time. FAILED, OP_FAILED is logged, and a descriptor that has not faulted becomes FAULTED with a
JOB_FAULT event. No completion record; the rest is as for any entry. That a FAULTED descriptor's
bytes_done still grows is the model's reading (assumption 23); the bits left wrong are an operand
(assumption 10). -/
def Obligations.JobStepsComplete : Prop :=
  ∀ (s : State) (stuck : StuckBits) (e : Entry) (base len n : Nat) (d : Descriptor),
    s.power = .active → activeEntry s = some e → isArrayKind e.kind = true →
    e.target = .array base len → base < 0x2000000 → e.origin = .job → e.orphan = false →
    s.current = some n → s.jobs[n]? = some d → d.kind ≠ .verify → d.kind ≠ .digest →
    let gone := releaseBuffer { s with
      array := arrayAfter s e base len stuck, queue := s.queue.eraseP isActive, suspend := .none
      quantum := none } e.buffer
    let left := stepsOutstanding gone
    let ends := fun (t : State) =>
      exec (.operationCompletion stuck) s = .next (driveIrq (fillFromMailbox t))
    let idle := fun (t : State) => { t with engine := .idle, current := none, jobAttn := true }
    let aborted := fun (t : State) => idle { t with
      jobs := t.jobs.map fun d => if d.state = .running ∨ d.state = .loaded then
        { d with state := .cancelled } else d }
    let halted := fun (t : State) => { t with
      engine := .halted, current := none, jobAttn := true }
    (arrayAfter s e base len stuck = arrayAfter s e base len [] →
      let d1 := { d with bytesDone := d.bytesDone + (if e.kind = .pageProgram then 256
        else if d.kind = .eraseRange then granuleBytes e.kind else 0) }
      let counted := { gone with jobs := s.jobs.set n d1 }
      let finished := logEvent { gone with jobs := s.jobs.set n { d1 with state := .done } }
        .jobDone 3 d.id (jobKindCode d.kind) (addressWord d.dest)
      (left ≠ 0 → ends counted)
      ∧ (left = 0 → d.state = .running → stepAt d s.cursor ≠ none →
        (s.engine = .running → ends counted)
        ∧ (s.engine = .pausing → ends { counted with engine := .paused, jobAttn := true }))
      ∧ (left = 0 → d.state = .running → stepAt d s.cursor = none →
        (∀ m, s.engine = .running → nextLoaded finished = some m → ends (beginJob finished m))
        ∧ (s.engine = .running → nextLoaded finished = none → ends (idle finished))
        ∧ (s.engine = .pausing → nextLoaded finished ≠ none →
          ends { finished with engine := .paused, current := none, jobAttn := true })
        ∧ (s.engine = .pausing → nextLoaded finished = none → ends (idle finished)))
      ∧ (left = 0 → d.state = .faulted → s.engine = .running ∨ s.engine = .pausing →
        ends (halted counted))
      ∧ (left = 0 → s.engine = .aborting → ends (aborted counted)))
    ∧ (arrayAfter s e base len stuck ≠ arrayAfter s e base len [] →
      let failed := logEvent gone .opFailed 3 e.tag (kindCode e.kind) (addressWord base)
      let faulted := if d.state = .faulted then failed else
        logEvent { failed with
            jobs := s.jobs.set n { d with state := .faulted, fault := some (.opFailed, base) } }
          .jobFault 3 d.id 2 (addressWord base)
      (left ≠ 0 → ends faulted)
      ∧ (left = 0 → s.engine = .running ∨ s.engine = .pausing → ends (halted faulted))
      ∧ (left = 0 → s.engine = .aborting → ends (aborted faulted)))

/-- CHUNK_READ of a DIGEST and of a VERIFY (R126 to R129): up to the end of the page, with the bytes
combined into the CRC, or compared, the mismatches counted and the first one kept; under STOP the first
mismatch faults the job there; bytes_done advances. The chunk that ends a DIGEST or a VERIFY makes it DONE,
with its results and a JOB_DONE event, and the engine goes on to the next LOADED descriptor or enters IDLE
with JOB_ATTN set (R125). A page that is not readable, in the busy bank or meeting the suspended range, is
waited for. The digest unit (R129): a byte is combined into the low 8 bits of the register, which then
shifts eight times toward its low end, combined with EDB88320h where the bit shifted out was 1; a digest is
the register combined with FFFFFFFFh; from seed FFFFFFFFh, the CRC-32 of the nine ASCII bytes 123456789 is
CBF43926h, and a run over two pieces is the run over the whole. -/
def Obligations.ChunkRead : Prop :=
  (∀ (s : State) (n : Nat) (d : Descriptor), s.power = .active → s.engine = .running →
     s.current = some n → s.jobs[n]? = some d → d.state = .running →
     let a := d.source + d.bytesDone
     let b := d.dest + d.bytesDone
     let bytes := fun (m : Nat) => (List.range m).map fun i => memRead s.array (a + i)
     let goesOn := fun (finished : State) =>
       (∀ next, nextLoaded finished = some next →
         exec .chunkRead s = .next (driveIrq (beginJob finished next)))
       ∧ (nextLoaded finished = none → exec .chunkRead s = .next (driveIrq { finished with
         engine := .idle, current := none, jobAttn := true }))
     (d.kind = .digest →
       (∀ m, m = 256 - a % 256 → m < d.length - d.bytesDone → pageReadable s a = true →
         exec .chunkRead s = .next (driveIrq { s with
           crc := crcRun s.crc (bytes m)
           jobs := s.jobs.set n { d with bytesDone := d.bytesDone + m } }))
       ∧ (∀ m, m = d.length - d.bytesDone → m ≤ 256 - a % 256 → pageReadable s a = true →
         let finished := logEvent { s with
           crc := crcRun s.crc (bytes m)
           jobs := s.jobs.set n { d with
             bytesDone := d.bytesDone + m, state := .done
             digest := some (crcRun s.crc (bytes m) ^^^ 0xFFFFFFFF) } }
           .jobDone 3 d.id 5 (addressWord d.source)
         goesOn finished)
       ∧ (pageReadable s a = false → exec .chunkRead s = .next (driveIrq s)))
     ∧ (d.kind = .verify →
       let bad := fun (m : Nat) =>
         (List.range m).filter fun i => memRead s.array (a + i) != memRead s.array (b + i)
       (∀ m, m = min (256 - a % 256) (256 - b % 256) → m < d.length - d.bytesDone →
         pageReadable s a = true → pageReadable s b = true →
         (d.stop = false ∨ bad m = [] →
           exec .chunkRead s = .next (driveIrq { s with
             jobs := s.jobs.set n { d with
               bytesDone := d.bytesDone + m
               mismatches := some (BitVec.ofNat 32
                 (min ((d.mismatches.getD 0).toNat + (bad m).length) 0xFFFFFFFF))
               firstMismatch := d.firstMismatch.or
                 ((bad m).head?.map fun k => d.bytesDone + k) } })))
       ∧ (∀ m k, m = min (min (256 - a % 256) (256 - b % 256)) (d.length - d.bytesDone) →
         pageReadable s a = true → pageReadable s b = true →
         d.stop = true → (bad m).head? = some k →
         ∃ t, exec .chunkRead s = .next t
           ∧ t.jobs = s.jobs.set n { d with
             bytesDone := d.bytesDone + (k + 1)
             mismatches := some (BitVec.ofNat 32
               (min ((d.mismatches.getD 0).toNat + 1) 0xFFFFFFFF))
             firstMismatch := d.firstMismatch.or (some (d.bytesDone + k))
             state := .faulted, fault := some (.mismatch, a + k) }
           ∧ t.log = (logEvent s .jobFault 3 d.id 3 (addressWord (a + k))).log
           ∧ (stepsOutstanding s = 0 → t.engine = .halted ∧ t.jobAttn = true))
       ∧ (∀ m, m = d.length - d.bytesDone → m ≤ 256 - a % 256 → m ≤ 256 - b % 256 →
         pageReadable s a = true → pageReadable s b = true → d.stop = false ∨ bad m = [] →
         let finished := logEvent { s with
           jobs := s.jobs.set n { d with
             bytesDone := d.bytesDone + m, state := .done
             mismatches := some (BitVec.ofNat 32
               (min ((d.mismatches.getD 0).toNat + (bad m).length) 0xFFFFFFFF))
             firstMismatch := d.firstMismatch.or
               ((bad m).head?.map fun k => d.bytesDone + k) } }
           .jobDone 3 d.id 4 (addressWord d.source)
         goesOn finished)
       ∧ (pageReadable s a = false ∨ pageReadable s b = false →
         exec .chunkRead s = .next (driveIrq s))))
    ∧ (crc32 0xFFFFFFFF [0x31, 0x32, 0x33, 0x34, 0x35, 0x36, 0x37, 0x38, 0x39] = 0xCBF43926
     ∧ (∀ r xs ys, crcRun r (xs ++ ys) = crcRun (crcRun r xs) ys)
     ∧ (∀ (r : Word) (b : Byte), crcRun r [b] = Nat.iterate
       (fun r : Word => if r.getLsbD 0 then (r >>> 1) ^^^ 0xEDB88320 else r >>> 1) 8
       (r ^^^ b.setWidth 32))
     ∧ ∀ seed bs, crc32 seed bs = crcRun seed bs ^^^ 0xFFFFFFFF)
    ∧ (∀ (s : State) (a : Nat), pageReadable s a = true ↔
     bankBusyAt s a = false ∧ meetsSuspended s (a - a % 256) 256 = false)

/-! ### The array sequencer -/

/-- ENTRY_START (R76 to R78): with nothing ACTIVE and no SUSPENDED entry due, the oldest eligible WAITING
entry becomes ACTIVE in its place, an erase with a run quantum of one tick; a COMMIT compares or takes its
target slot (R141): one that is BLANK or TORN, slot 0 when both are, else the one of lower generation, else
the one not selected; where the selected slot is a VALID one of no lower generation than the other, it is
never the target. The COMMIT is unchanged just when a slot is selected and its bytes 4 to 208 equal the 205
bytes of the staging image (R141). ENTRY_RESTART (R91): the SUSPENDED entry that is due becomes ACTIVE, the
hold deadline stops and a fresh quantum starts, and ENTRY_START starts nothing. A timer that starts is
noted, so that it does not count the tick of its own instant (R15; assumption 11). -/
def Obligations.StartDecision : Prop :=
  ∀ (s : State), s.power = .active → activeEntry s = none →
    (∀ older e rest, s.queue = older ++ e :: rest →
        (∀ o, suspendedEntry s = some o → o.resumePending = false) →
        eligible (suspendedEntry s) older e = true →
        (∀ l x r, older = l ++ x :: r → eligible (suspendedEntry s) l x = false) →
        (e.kind ≠ .commit →
          exec .entryStart s = .next (driveIrq { s with
            queue := older ++ { e with state := .active } :: rest
            quantum := if e.kind = .sectorErase ∨ e.kind = .blockErase then some 1 else none
            started := if e.kind = .sectorErase ∨ e.kind = .blockErase then
              { s.started with quantum := true } else s.started }))
        ∧ (e.kind = .commit → commitUnchanged s = true →
          exec .entryStart s = .next (driveIrq { s with
            queue := older ++ { e with state := .active } :: rest, quantum := none
            commitRun := some .unchanged }))
        ∧ (e.kind = .commit → commitUnchanged s = false →
          exec .entryStart s = .next (driveIrq (State.setStoreClass { s with
            queue := older ++ { e with state := .active } :: rest, quantum := none
            commitRun := some (.writing (commitTarget s)) } (commitTarget s) .torn))))
      ∧ ((∃ o, suspendedEntry s = some o ∧ o.resumePending = true) →
        exec .entryStart s = .next (driveIrq s)
          ∧ exec .entryRestart s = .next (driveIrq { s with
            queue := updateFirst isSuspended
              (fun e => { e with state := .active, resumePending := false }) s.queue
            hold := none, quantum := some 1, started := { s.started with quantum := true } }))
      ∧ ((s.class0 ≠ .valid → commitTarget s = .s0)
        ∧ (s.class0 = .valid → s.class1 ≠ .valid → commitTarget s = .s1)
        ∧ (s.class0 = .valid → s.class1 = .valid →
          (slotGeneration s.store0 < slotGeneration s.store1 → commitTarget s = .s0)
          ∧ (slotGeneration s.store1 < slotGeneration s.store0 → commitTarget s = .s1)
          ∧ (slotGeneration s.store0 = slotGeneration s.store1 → s.selected ≠ none →
            s.selected ≠ some (commitTarget s)))
        ∧ (∀ slot other, s.selected = some slot → other ≠ slot → s.storeClass slot = .valid →
          (s.storeClass other = .valid →
            slotGeneration (s.store other) ≤ slotGeneration (s.store slot)) →
          commitTarget s = other))
      ∧ (commitUnchanged s = true ↔ ∃ slot, s.selected = some slot
        ∧ ((s.store slot).drop 4).take 205 = imageToBytes s.stagingImage)

/-- The eligibility of a WAITING entry (R76): no older barrier WAITING; no overlap with the
SUSPENDED entry or with any older entry; a barrier only as the oldest entry and with none
SUSPENDED. Two targets overlap just when both are in the array and share a byte, or both are on one seal
page; a barrier, which has no target, overlaps nothing. -/
def Obligations.EligibilityConditions : Prop :=
  (∀ (susp : Option Entry) (older : List Entry) (e : Entry),
    eligible susp older e = true ↔
      e.state = .waiting
        ∧ (∀ o ∈ older, (o.kind = .commit ∨ o.kind = .guardFuse) → o.state ≠ .waiting)
        ∧ (∀ o, susp = some o → targetsOverlap e.target o.target = false)
        ∧ (∀ o ∈ older, targetsOverlap e.target o.target = false)
        ∧ ((e.kind = .commit ∨ e.kind = .guardFuse) → older = [] ∧ susp = none))
    ∧ (∀ t u : Target, targetsOverlap t u = true ↔
      (∃ b l b' l' n, t = .array b l ∧ u = .array b' l' ∧ b ≤ n ∧ n < b + l ∧ b' ≤ n ∧ n < b' + l')
        ∨ ∃ page half half', t = .sealPage page half ∧ u = .sealPage page half')

/-- OPERATION_COMPLETION of an ACTIVE program or erase of Port A or Port M, or of an orphan, an orphan job
step too (R38, R39, R81 to R83, R94, R131): the array takes the result; the entry leaves the queue, its
buffer is freed and its quantum and suspend stop; a non-orphan gets its record, DONE just when every bit
holds its value, and an orphan none; a FAILED one logs OP_FAILED; RELEASING slots take the place. Every
byte outside the target is as it was. What a program and an erase leave in the array (R38, R39, R81): a
program whose cells take every bit leaves the AND of old and new in each byte, an erase FFh in each byte
of its range; with some cells wrong, each bit is the old one or the one meant. A byte below the base of
a program, or outside the range of an erase, is as before. The bits left wrong are an operand
(assumption 10). -/
def Obligations.ArrayOperationCompletes : Prop :=
  (∀ (s : State) (stuck : StuckBits) (e : Entry) (base len : Nat),
     s.power = .active → activeEntry s = some e → isArrayKind e.kind = true →
     e.target = .array base len → e.origin ≠ .job ∨ e.orphan = true →
     ∀ array' out gone,
       array' = arrayAfter s e base len stuck →
       (out = if array' = arrayAfter s e base len [] then OpOutcome.done else .failed) →
       gone = releaseBuffer { s with
         array := array', queue := s.queue.eraseP isActive, suspend := .none
         quantum := none } e.buffer →
       exec (.operationCompletion stuck) s = .next (driveIrq (fillFromMailbox
         (let logged := if out = .failed then
             logEvent gone .opFailed (originCode e.origin) e.tag (kindCode e.kind)
               (addressWord base)
           else gone
         if e.orphan then logged
         else pushCompletion logged (if e.origin = .a then .a else .m)
           ⟨e.tag, e.kind, out, e.redirected, e.auto⟩)))
         ∧ (Canonical s → (e.kind = .pageProgram → len = 256) →
           ∀ a, a < base ∨ base + len ≤ a → memRead array' a = memRead s.array a))
    ∧ (∀ m base buf stuck a, m.wf = true → buf.wf = true →
        memRead (memProgram m base buf stuck) a
          = if base ≤ a then
              (memRead m a &&& memRead buf (a - base)) ||| (memRead m a &&& stuckMask stuck (a - base)
                &&& ~~~ memRead buf (a - base))
            else memRead m a)
      ∧ (∀ m base len stuck a, m.wf = true →
        memRead (memErase m base len stuck) a
          = if base ≤ a ∧ a < base + len then
              memRead m a ||| ~~~ stuckMask stuck (a - base)
            else memRead m a)
    ∧ (∀ s e base len stuck,
      (e.kind = .pageProgram → arrayAfter s e base len stuck
          = memProgram s.array base (bufferData s e.buffer) stuck)
        ∧ (e.kind ≠ .pageProgram → arrayAfter s e base len stuck = memErase s.array base len stuck)
        ∧ ∀ (i : Fin 6) b, e.buffer = some i → s.pool[i] = some b → bufferData s e.buffer = b.data)

/-- The completion of a COMMIT (R82, R83, R142). One that wrote its slot rightly makes it VALID and
selected, with the next generation; one that was unchanged leaves the store; both apply the staging image,
clear DIRTY and log COMMIT_DONE or COMMIT_UNCHANGED, and are DONE. One whose slot reads back wrong leaves
the active image, DIRTY, the selection and the generation, its slot TORN, logs COMMIT_FAILED and is FAILED;
the bytes that it leaves there are never those of a VALID slot, so that no later load takes them (R56):
wrong bytes that would be are taken as an erased slot (assumption 10). An applied image with another
watchdog_interval acts on the watchdog by the table of R110, with WATCHDOG_DISABLED from LAPSED. The entry
leaves the queue; a non-orphan gets its record; nothing else changes. Which of the two events of one
completion is first is a free value, and the statement holds for either (assumption 9). The bits left wrong
are an operand (assumption 10). A timer that starts is noted, so that it does not count the tick of its own
instant (R15; assumption 11). -/
def Obligations.CommitCompletes : Prop :=
  ∀ (s : State) (stuck : StuckBits) (e : Entry), s.power = .active → activeEntry s = some e →
    e.kind = .commit → e.origin = .m →
    let reported := fun (b : State) (out : OpOutcome) =>
      let gone := releaseBuffer { b with
        queue := s.queue.eraseP isActive, suspend := .none, quantum := none
        commitRun := none } e.buffer
      exec (.operationCompletion stuck) s = .next (driveIrq (fillFromMailbox
        (if e.orphan then gone
         else pushCompletion gone .m ⟨e.tag, .commit, out, e.redirected, e.auto⟩)))
    let v := s.stagingImage.settings.watchdogInterval
    let applied := fun (b : State) => { b with
      activeImage := s.stagingImage, dirty := false
      watchdog :=
        if v = s.activeImage.settings.watchdogInterval then s.watchdog
        else match s.watchdog.state, decide (v = 0) with
          | .disabled, true | .lapsed, false => s.watchdog
          | .armed, true | .lapsed, true => ⟨.disabled, 0, 0, false⟩
          | .disabled, false | .armed, false => ⟨.armed, v.toNat * 10, v.toNat * 5, false⟩
      started :=
        if v ≠ s.activeImage.settings.watchdogInterval ∧ v ≠ 0 ∧ s.watchdog.state ≠ .lapsed then
          { s.started with watchdog := true } else s.started }
    let disables := v = 0 ∧ s.activeImage.settings.watchdogInterval ≠ 0 ∧ s.watchdog.state = .lapsed
    let logged := fun (b : State) (kind : EventKind) (slot : SlotId) (gen : Word) =>
      (¬ disables → reported (logEvent b kind 2 e.tag (slotCode slot) gen) .done)
      ∧ (disables →
        (Config.commitEventFirst = true → reported (logEvent
          (logEvent b kind 2 e.tag (slotCode slot) gen) .watchdogDisabled 2 0 0 0xFFFFFFFF) .done)
        ∧ (Config.commitEventFirst = false → reported (logEvent
          (logEvent b .watchdogDisabled 2 0 0 0xFFFFFFFF) kind 2 e.tag (slotCode slot) gen) .done))
    (∀ slot, s.commitRun = some (.writing slot) →
      slotWithStuck (slotOf (s.generation + 1) s.stagingImage) stuck
        = slotOf (s.generation + 1) s.stagingImage →
      logged (applied
          (State.setStoreClass (State.setStore
            { s with selected := some slot, generation := s.generation + 1 } slot
            (slotOf (s.generation + 1) s.stagingImage)) slot .valid))
        .commitDone slot (s.generation + 1))
      ∧ (∀ slot, s.commitRun = some .unchanged → s.selected = some slot →
        logged (applied s) .commitUnchanged slot s.generation)
      ∧ (∀ slot, s.commitRun = some (.writing slot) →
        slotWithStuck (slotOf (s.generation + 1) s.stagingImage) stuck
          ≠ slotOf (s.generation + 1) s.stagingImage →
        reported (logEvent
          (State.setStoreClass (s.setStore slot (unfinishedSlot
            (slotWithStuck (slotOf (s.generation + 1) s.stagingImage) stuck))) slot .torn)
          .commitFailed 2 e.tag (slotCode slot) (s.generation + 1)) .failed)
      ∧ (∀ bs : List Byte, (classify bs ≠ .valid → unfinishedSlot bs = bs)
        ∧ (classify bs = .valid → unfinishedSlot bs = List.replicate 213 0xFF)
        ∧ classify (unfinishedSlot bs) ≠ .valid)

/-- The completion of a GUARD_FUSE, a SEAL_LOCK and a SEAL_PROGRAM (R82, R83, R145, R147, R148). With the
bit read back set, the fuse is blown and the base mode SEALED, with GUARD_SEALED, or the page locked,
with SEAL_LOCKED, and the outcome is DONE; otherwise it is FAILED, nothing is logged, and nothing but
the entry's own end changes. A SEAL_PROGRAM gives its half page the result of a program of its buffer,
DONE just when every bit holds its value. The entry leaves the queue, its buffer is freed; a non-orphan
gets its record; nothing else changes. The bits left wrong are an operand (assumption 10). -/
def Obligations.FuseAndSealsComplete : Prop :=
  ∀ (s : State) (stuck : StuckBits) (e : Entry), s.power = .active → activeEntry s = some e →
    e.origin = .m →
    let reported := fun (b : State) (out : OpOutcome) =>
      let gone := releaseBuffer { b with
        queue := s.queue.eraseP isActive, suspend := .none, quantum := none } e.buffer
      exec (.operationCompletion stuck) s = .next (driveIrq (fillFromMailbox
        (if e.orphan then gone
         else pushCompletion gone .m ⟨e.tag, e.kind, out, e.redirected, e.auto⟩)))
    let reads := (stuckMask stuck 0).getLsbD 0 = false
    (e.kind = .guardFuse →
      (reads → reported
        (logEvent { s with fuse := true } .guardSealed 2 e.tag 0 0xFFFFFFFF) .done
        ∧ baseMode { s with fuse := true } = .sealed)
      ∧ (¬ reads → reported s .failed))
      ∧ (∀ page half, e.kind = .sealLock → e.target = .sealPage page half → page < 3 →
        (reads → ∃ locks : BitVec 3, locks.getLsbD page = true
          ∧ (∀ q, q ≠ page → locks.getLsbD q = s.sealLocks.getLsbD q)
          ∧ reported (logEvent { s with sealLocks := locks } .sealLocked 2 e.tag
            (BitVec.ofNat 8 page) 0xFFFFFFFF) .done)
        ∧ (¬ reads → reported s .failed))
      ∧ (∀ page half, e.kind = .sealProgram → e.target = .sealPage page half →
        let found := fun (stuck : StuckBits) =>
          memProgram s.sealStore (page * 512 + half) (bufferData s e.buffer) stuck
        reported { s with sealStore := found stuck }
          (if found stuck = found [] then .done else .failed))

/-- SUSPEND_TAKEN, RUN_QUANTUM_EXPIRY and HOLD_DEADLINE_EXPIRY (R87, R88, R90): a TAKING suspend
makes the ACTIVE erase SUSPENDED and starts the hold deadline of hold_limit times 10 ticks; the
quantum's end takes a PENDING suspend to TAKING; the hold deadline's end sets resume-pending with
SUSPEND_EXPIRED, or does nothing where it is set already. TICK (R15): each running timer counts
down by one, but for one that was started at the same instant, and nothing else changes; outside the
ACTIVE power state no tick is delivered and nothing changes, at the instant of an accepted DORMANT
too, since the tick stands after the ports' steps (R15, R167). That a timer is due when its count is 0,
and the tick's place in its instant, are the model's readings (assumption 11); that a hold_limit of 0, which
only a loaded image can hold, is due at once is its choice (assumption 17).
A timer that starts is noted, so that it does not count the tick of its own instant (R15; assumption 11). -/
def Obligations.SequencerTimersAndTick : Prop :=
  (∀ (s : State), s.power = .active →
     (∀ e, s.suspend = .taking → activeEntry s = some e → isEraseKind e.kind = true →
         exec .suspendTaken s = .next (driveIrq { s with
           queue := updateFirst isActive
             (fun e => { e with state := .suspended, resumePending := false }) s.queue
           suspend := .none, quantum := none
           hold := some (s.activeImage.settings.holdLimit.toNat * 10)
           started := { s.started with hold := true } }))
       ∧ (s.quantum = some 0 →
         exec .runQuantumExpiry s = .next (driveIrq { s with
           quantum := none
           suspend := if s.suspend = .pending then .taking else s.suspend }))
       ∧ (∀ e, s.hold = some 0 → suspendedEntry s = some e → e.resumePending = true →
         exec .holdDeadlineExpiry s = .next (driveIrq { s with hold := none }))
       ∧ (∀ e, s.hold = some 0 → suspendedEntry s = some e → e.resumePending = false →
         exec .holdDeadlineExpiry s = .next (driveIrq (logEvent { s with
             hold := none
             queue := updateFirst isSuspended (fun e => { e with resumePending := true }) s.queue }
           .suspendExpired (originCode e.origin) e.tag (kindCode e.kind)
           (match e.target with
             | .array base _ => BitVec.ofNat 32 base
             | .nothing | .sealPage _ _ => 0xFFFFFFFF)))))
    ∧ (∀ (s : State), s.power = .active →
     let counted := fun (started : Bool) (t : Option Nat) => if started then t else t.map (· - 1)
     exec .tick s = .next (driveIrq { s with
       slot0 := { s.slot0 with deadline := counted s.started.trap0 s.slot0.deadline }
       slot1 := { s.slot1 with deadline := counted s.started.trap1 s.slot1.deadline }
       quantum := counted s.started.quantum s.quantum, hold := counted s.started.hold s.hold
       watchdog := if s.watchdog.state = .armed ∧ s.started.watchdog = false then
         { s.watchdog with left := s.watchdog.left - 1, warnLeft := s.watchdog.warnLeft - 1 }
         else s.watchdog }))
    ∧ (∀ (s : State), s.power ≠ .active → exec .tick s = .next (driveIrq s))

/-! ### Supply, resets and the dormant state -/

/-- POWER_ON and POWER_LOSS (R161, R173): with RESET_N high, power-on empties the queue, mailbox, buffers,
job list and FIFOs, restarts the tag and job id counters and clears the session lock; the configuration is
loaded from the store slots, with its events as the whole of the log, numbered from 0 (R139): the VALID slot
of higher generation, slot 0 where equal, or the factory image with DIRTY where none is VALID, the staging
image a copy (what a default out of its range stands for, which only a loaded image can hold, is the model's
choice, assumption 17); each port takes its current settings from the port defaults of that image (R11); the
watchdog is ARMED with a full countdown where its interval is not 0, and else DISABLED (R106). With RESET_N
low it waits, the outputs released. A loss of power keeps the non-volatile content of a device with nothing
running, and so does power-on. GUARD_N_CHANGE (R136): the pin's level and nothing else; no interrupt cause
follows it. -/
def Obligations.SupplyAndGuardPin : Prop :=
  ((∀ (s : State) (left : Leftover), s.resetN = true →
       ∃ t, exec (.powerOn left) s = .next t ∧ PowerOnColumn s t ∧ t.sessionLock = false
         ∧ t.log = loadEvents t ∧ t.overflow = 0 ∧ t.seqNext = BitVec.ofNat 16 t.log.length
         ∧ (activeEntry s = none → suspendedEntry s = none → SameNonvolatile s t))
     ∧ (∀ (s : State) (left : Leftover), s.resetN = false →
       ∃ t, exec (.powerOn left) s = .next t ∧ t.power = .waiting ∧ t.irqA = false
         ∧ t.irqM = false)
     ∧ (∀ (s : State) (left : Leftover), s.power ≠ .off → activeEntry s = none →
       suspendedEntry s = none →
       ∃ t, exec (.powerLoss left) s = .next t ∧ t.power = .off ∧ SameNonvolatile s t))
    ∧ (∀ (s : State) (b : Bool),
     exec (.guardNChange b) s = .next (driveIrq { s with guardN := b })
       ∧ ∀ p, irqLow { s with guardN := b } p = irqLow s p)

/-- RESET_N (R162, R163): at its fall the device is in reset, its transactions abandoned, its
outputs released, the ACTIVE and the SUSPENDED entry recorded in that order, each with its origin, tag
and kind and the address of its event: the base of a program or erase, the generation that a COMMIT was
writing, and else none. At its rise every volatile item takes its value of section 10.4 as at
power-on; the configuration is loaded (R139), as SupplyAndGuardPin says of power-on: slot states, selected
slot, generation, both images and DIRTY, and from the active image the ports' settings and the watchdog. The
session lock and all non-volatile content are kept. What a default out of its range stands for is the model's
choice (assumption 17). The log then holds the load's events, STORE_SLOT_TORN
for each TORN slot before STORE_DEFAULTED, and after them one RESET_ABORTED event for each record, the
sequence numbers going on from 0 over all of them. One that has waited since power-on does the same, but
with the load's events alone and its session lock clear. -/
def Obligations.ResetN : Prop :=
  (∀ (s : State) (left : Leftover), s.power = .active ∨ s.power = .dormant →
      ∃ t, exec (.resetNAssert left) s = .next t ∧ t.power = .inReset ∧ t.resetN = false
        ∧ t.irqA = false ∧ t.irqM = false ∧ t.sessionLock = s.sessionLock
        ∧ (∀ p tx, (t.port p).sel ≠ .opened tx)
        ∧ t.aborted = ((activeEntry s).toList ++ (suspendedEntry s).toList).map fun e =>
          { origin := e.origin, tag := e.tag, kind := e.kind
            address := match e.kind, s.commitRun, e.target with
              | .commit, some (.writing _), _ => s.generation + 1
              | _, _, .array base _ => BitVec.ofNat 32 base
              | _, _, .nothing | _, _, .sealPage _ _ => 0xFFFFFFFF })
    ∧ (∀ s : State, s.power = .inReset →
      ∃ t, exec .resetNRelease s = .next t ∧ PowerOnColumn s t
        ∧ t.sessionLock = s.sessionLock ∧ SameNonvolatile s t
        ∧ (s.aborted.length ≤ 2 → t.overflow = 0 ∧ t.seqNext = BitVec.ofNat 16 t.log.length
          ∧ t.log = loadEvents t ++ s.aborted.mapIdx fun n r =>
            { seq := BitVec.ofNat 16 ((loadEvents t).length + n), kind := .resetAborted
              origin := originCode r.origin, tag := r.tag, detail := kindCode r.kind
              address := r.address }))
    ∧ (∀ s : State, s.power = .waiting →
      ∃ t, exec .resetNRelease s = .next t ∧ PowerOnColumn s t ∧ t.sessionLock = false
        ∧ SameNonvolatile s t ∧ t.log = loadEvents t ∧ t.overflow = 0
        ∧ t.seqNext = BitVec.ofNat 16 t.log.length)

/-- What RESET_N, a loss of power and a power-on leave of the operations they cut short (R143, R164). Each
bit of the array keeps its value, or in the page of an ACTIVE program takes the programmed one, or in
the range of an ACTIVE or SUSPENDED erase becomes 1; likewise in the page half of an ACTIVE SEAL_PROGRAM.
A lock bit becomes set only under an ACTIVE SEAL_LOCK of its page, the fuse blown only under an ACTIVE
GUARD_FUSE, and neither is undone. A store slot keeps its bytes but for the one that an ACTIVE COMMIT was
writing, which holds the new slot whole, or bytes that do not classify as VALID. What is left within
these bounds is an operand (assumption 10). -/
def Obligations.CutShortOperationsLeave : Prop :=
  ∀ (i : Instr) (s t : State) (left : Leftover),
    i = .resetNAssert left ∨ i = .powerLoss left ∨ i = .powerOn left → operating s = true →
    Canonical s → SequencerSound s →
    (∀ e base len, activeEntry s = some e → e.kind = .pageProgram → e.target = .array base len →
      len = 256) →
    exec i s = .next t →
    (∀ a k,
      (memRead t.array a).getLsbD k = (memRead s.array a).getLsbD k
        ∨ (∃ e base, activeEntry s = some e ∧ e.kind = .pageProgram ∧ e.target = .array base 256
          ∧ base ≤ a ∧ a < base + 256
          ∧ (memRead t.array a).getLsbD k
            = (memRead s.array a &&& memRead (bufferData s e.buffer) (a - base)).getLsbD k)
        ∨ (∃ e base len, (activeEntry s = some e ∨ suspendedEntry s = some e)
          ∧ isEraseKind e.kind = true ∧ e.target = .array base len ∧ base ≤ a ∧ a < base + len
          ∧ (memRead t.array a).getLsbD k = (0xFF#8).getLsbD k))
      ∧ (∀ a k,
        (memRead t.sealStore a).getLsbD k = (memRead s.sealStore a).getLsbD k
          ∨ (∃ e page half, activeEntry s = some e ∧ e.kind = .sealProgram
            ∧ e.target = .sealPage page half ∧ page * 512 + half ≤ a
            ∧ a < page * 512 + half + 256
            ∧ (memRead t.sealStore a).getLsbD k
              = (memRead s.sealStore a
                &&& memRead (bufferData s e.buffer) (a - (page * 512 + half))).getLsbD k))
      ∧ (∀ q, t.sealLocks.getLsbD q = s.sealLocks.getLsbD q
        ∨ t.sealLocks.getLsbD q = true ∧ ∃ e half, activeEntry s = some e ∧ e.kind = .sealLock
          ∧ e.target = .sealPage q half)
      ∧ (t.fuse = s.fuse
        ∨ t.fuse = true ∧ ∃ e, activeEntry s = some e ∧ e.kind = .guardFuse)
      ∧ (∀ slot, t.store slot = s.store slot
        ∨ (s.commitRun = some (.writing slot)
          ∧ (∃ e, activeEntry s = some e ∧ e.kind = .commit)
          ∧ (t.store slot = slotOf (s.generation + 1) s.stagingImage
            ∨ classify (t.store slot) ≠ .valid)))

/-- RESET_PORT (R14, R165) with the reset-arm ARMED at its start: the port's write-arm latch, tags,
FIFO, COMPLETION_LOST, read flags, refusal, continuation, reset-arm and inbound latch take their reset
values, and its current settings the port defaults of the active image (R11); its WAITING entries
leave, their buffers freed, its begun ones become orphans where they stand; Port A's slots are emptied,
their buffers freed; Port M's job list and engine are cleared, and its RELEASING slots take what free
positions the queue then has, slot 0 first, a slot that takes one becoming EMPTY and any other staying as
it is; no completion record, and a PORT_RESET event
with the number of new orphans. With the reset-arm DISARMED it is refused SEQUENCE. What a default out of its
range stands for, which only a loaded image can hold, is the model's choice (assumption 17). A row of an
unselected port stands for its whole transaction: the model's choice (assumption 5). -/
def Obligations.SoftReset : Prop :=
  ∀ (s : State) (p : Port) (f : Frame) (tx : Tx), Delivered s p .resetPort tx →
    torn .resetPort f = false →
    (tx.resetArmed = false →
        exec (.resetPort p f) s = .next (driveIrq (refuse (ended s p) p .sequence)))
      ∧ (tx.resetArmed = true → ∃ t, exec (.resetPort p f) s = .next t
        ∧ (t.port p).wel = false ∧ (t.port p).tagNext = 1 ∧ (t.port p).lastTag = 0
        ∧ (t.port p).fifo = [] ∧ (t.port p).completionLost = false ∧ (t.port p).flags = noFlags
        ∧ (t.port p).lastRefusal = .none ∧ (t.port p).refusalNew = false
        ∧ (t.port p).contArmed = false ∧ (t.port p).resetArmed = false
        ∧ (t.port p).latch = [] ∧ (t.port p).received = 0 ∧ HasDefaults t p
        ∧ (t.port p).sel = .high
        ∧ outstanding t p = 0 ∧ t.array = s.array ∧ t.activeImage = s.activeImage
        ∧ t.watchdog = s.watchdog ∧ t.sessionLock = s.sessionLock
        ∧ t.suspend = s.suspend ∧ t.quantum = s.quantum ∧ t.hold = s.hold
        ∧ (p = .a → t.portM = s.portM ∧ t.slot0 = emptySlot ∧ t.slot1 = emptySlot
          ∧ t.pool = poolWithout s ((s.queue.filter fun e => ownedLive .a e && isWaiting e)
            ++ [slotEntry s.slot0, slotEntry s.slot1])
          ∧ t.jobs = s.jobs ∧ t.engine = s.engine
          ∧ t.queue = (s.queue.filter fun e => !(ownedLive .a e && isWaiting e)).map
            (fun e => if ownedLive .a e then { e with orphan := true } else e)
          ∧ t.log = (logEvent s .portReset 1 0 (BitVec.ofNat 8 (s.queue.countP fun e =>
              ownedLive .a e && !isWaiting e)) 0xFFFFFFFF).log)
        ∧ (p = .m → t.portA = s.portA ∧ t.jobs = [] ∧ t.engine = .idle
          ∧ t.jobAttn = false ∧ t.jobIdNext = s.jobIdNext
          ∧ t.pool = poolWithout s (s.queue.filter fun e =>
            (ownedLive .m e || ownedLive .job e) && isWaiting e)
          ∧ (let kept := (s.queue.filter fun e =>
                !((ownedLive .m e || ownedLive .job e) && isWaiting e)).map
              (fun e => if ownedLive .m e || ownedLive .job e then { e with orphan := true } else e)
            let enters := fun (q : List Entry) (sl : MailSlot) =>
              sl.state = .releasing ∧ q.length < 8
            let first := if enters kept s.slot0 then kept ++ [slotEntry s.slot0] else kept
            t.queue = (if enters first s.slot1 then first ++ [slotEntry s.slot1] else first)
              ∧ t.slot0 = (if enters kept s.slot0 then emptySlot else s.slot0)
              ∧ t.slot1 = (if enters first s.slot1 then emptySlot else s.slot1))
          ∧ t.log = (logEvent s .portReset 2 0 (BitVec.ofNat 8 (s.queue.countP fun e =>
              (ownedLive .m e || ownedLive .job e) && !isWaiting e)) 0xFFFFFFFF).log))

/-- DORMANT (R166, R167): BUSY while the queue or the mailbox holds anything or the engine works; accepted,
the device is DORMANT, and a Port A transaction under way is abandoned: one that carried a byte with
INTERRUPTED recorded, continuation OFF and reset-arm DISARMED, a null one without; one that began in an
earlier dormant period counts as having carried a byte only if it is a WAKE. WAKE (R168, R169): a whole WAKE
that began while the device was DORMANT makes it ACTIVE, an ARMED watchdog counting afresh with WARN clear
and any other unchanged, the interrupt outputs following their causes (R159), so that a WAKE that clears
WARN can release IRQ_M_N, where R160's table has the outputs unchanged at WAKE: the model's reading
(assumption 24); on an ACTIVE device it has no effect beyond its transaction's end and an empty latch; torn,
it is ignored on a DORMANT device, and refused FRAME_TORN on an ACTIVE one. A transaction that began while
DORMANT and ends after the other port has woken the device is ignored in full (R168), unless it is a whole
WAKE; that a torn WAKE is ignored too, and what counts as carried, are the model's readings (assumptions 21
and 12). A row of an unselected port stands for its whole transaction: the model's choice (assumption 5).
The bytes of Port A's transaction are an operand (assumption 12). A timer that starts is noted, so that it
does not count the tick of its own instant (R15; assumption 11). -/
def Obligations.DormantAndWake : Prop :=
  (∀ (s : State) (f : Frame) (aWire : List Byte), Arrives s .m .dormant f →
     let idle := s.queue = [] ∧ s.slot0.state = .empty ∧ s.slot1.state = .empty
       ∧ (s.engine = .idle ∨ s.engine = .paused ∨ s.engine = .halted)
     (¬ idle → exec (.dormant .m f aWire) s
         = .next (driveIrq (refuse (ended s .m) .m .busy)))
       ∧ (idle → (∀ tx, s.portA.sel ≠ .opened tx) →
         exec (.dormant .m f aWire) s = .next (driveIrq { ended s .m with power := .dormant }))
       ∧ (∀ tx, idle → s.portA.sel = .opened tx →
         tx.readOp ≠ none ∨ tx.wire ≠ [] ∨ aWire ≠ [] →
         tx.dormant = false ∨ aWire.head? = some 0x7B →
         exec (.dormant .m f aWire) s = .next (driveIrq { ended s .m with
           power := .dormant
           portA := { s.portA with
             sel := .ignored, driven := none, lastRefusal := .interrupted, refusalNew := true
             latch := [], received := 0, contArmed := false, resetArmed := false } }))
       ∧ (∀ tx, idle → s.portA.sel = .opened tx →
         (tx.readOp = none ∧ tx.wire = [] ∧ aWire = [])
           ∨ (tx.dormant = true ∧ aWire.head? ≠ some 0x7B) →
         exec (.dormant .m f aWire) s = .next (driveIrq { ended s .m with
           power := .dormant, portA := { s.portA with sel := .ignored, driven := none } })))
    ∧ (∀ (s : State) (p : Port) (f : Frame) (tx : Tx),
     (s.power = .dormant →
       ((s.port p).sel = .high ∧ tx = sampleTx (s.port p) true
         ∨ (s.port p).sel = .opened tx ∧ tx.dormant = true ∧ tx.readOp = none) →
       let ps := { s.port p with
         sel := Sel.high, driven := none, contArmed := false, resetArmed := false, latch := []
         received := 0 }
       (f.part = false → exec (.wake p f) s = .next (driveIrq { s.setPort p ps with
           power := .active
           watchdog := if s.watchdog.state = .armed then
             ⟨.armed, s.activeImage.settings.watchdogInterval.toNat * 10,
               s.activeImage.settings.watchdogInterval.toNat * 5, false⟩ else s.watchdog
           started := if s.watchdog.state = .armed then { s.started with watchdog := true }
             else s.started }))
       ∧ (f.part = true → exec (.wake p f) s = .next (driveIrq (s.setPort p
           { s.port p with sel := .high, driven := none }))))
     ∧ (Delivered s p .wake tx →
       (f.part = false → exec (.wake p f) s = .next (driveIrq ((ended s p).setPort p
           { (ended s p).port p with latch := [], received := 0 })))
       ∧ (f.part = true → exec (.wake p f) s = .next (driveIrq
           (refuseTorn (ended s p) p .wake))))
     ∧ (s.power = .active → (s.port p).sel = .opened tx → tx.dormant = true →
       (∀ i c, requestOf i = some (p, c, f) ∨ readOf i = some (p, c, f)
           ∨ i = .continuationTransaction p f ∨ (∃ code, i = .unknownCommand p code f) →
         exec i s = .next (driveIrq (s.setPort p { s.port p with sel := .high, driven := none })))
       ∧ (f.part = true → tx.readOp = none →
         exec (.wake p f) s = .next (driveIrq (s.setPort p
           { s.port p with sel := .high, driven := none })))
       ∧ (f.part = false → tx.readOp = none →
         exec (.wake p f) s = .next (driveIrq (s.setPort p { s.port p with
           sel := .high, driven := none, contArmed := false, resetArmed := false
           latch := [], received := 0 })))))

/-! ### The configuration store -/

/-- The states of the store slots (R138, R141, R142). A slot all of FFh is BLANK; else VALID when its
generation is not 0 and its last four bytes are the CRC-32 of the 209 before them; else TORN; nothing else
of it counts. The slot states are shown in byte 9 as 0, 1 and 2; each load sets them by classification;
besides loads only the start and the completion of a COMMIT change them; the shipped device has the factory
image, generation 1, in slot 0, and slot 1 BLANK. -/
def Obligations.SlotClassification : Prop :=
  (∀ bs : List Byte, bs.length = 213 →
      classify bs = if bs = List.replicate 213 0xFF then .blank
        else if be32 bs 0 ≠ 0 ∧ be32 bs 209 = crc32 0xFFFFFFFF (bs.take 209) then .valid
        else .torn)
    ∧ (∀ s : State, ((statusByte9 s).extractLsb' 3 2).toNat
          = (match s.class0 with | .blank => 0 | .valid => 1 | .torn => 2)
        ∧ ((statusByte9 s).extractLsb' 5 2).toNat
          = (match s.class1 with | .blank => 0 | .valid => 1 | .torn => 2))
    ∧ (∀ s : State, (loadConfig s).class0 = classify s.store0
        ∧ (loadConfig s).class1 = classify s.store1)
    ∧ (∀ (i : Instr) (s t : State), exec i s = .next t →
        (∀ e q, i = .entryStart → startOldest (suspendedEntry s) [] s.queue = some (e, q) →
          e.kind ≠ .commit) →
        (∀ stuck e, i = .operationCompletion stuck → activeEntry s = some e → e.kind ≠ .commit) →
        (∀ left, i ≠ .powerOn left) → i ≠ .resetNRelease → t.class0 = s.class0 ∧ t.class1 = s.class1)
    ∧ (State.reset.store0 = slotOf 1 factoryImage
        ∧ classify State.reset.store0 = .valid ∧ classify State.reset.store1 = .blank)

/-- Every image with a generation other than 0 makes a VALID slot from which a load takes the same
image and generation back (R138, R139, R141): no byte of an image is lost in the store. The places of the
fields (sections 4.1, 4.2, 8.3): the generation in bytes 0 to 3 of a slot, the image in bytes 4 to 208, the
CRC over them in the last four; in an image the 13 settings bytes and then 12 bytes for each entry. Every 205
bytes are those of one image. What a commit
has stored outlives the supply (R139, R141, R142): after a loss of power and power-on the image in the
slot it wrote is the active image, with its generation, whatever the other slot holds of an older
generation. -/
def Obligations.StoredImageSurvives : Prop :=
  (∀ (gen : Word) (im : Image), gen ≠ 0 →
     (slotOf gen im).length = 213 ∧ classify (slotOf gen im) = .valid
       ∧ slotGeneration (slotOf gen im) = gen ∧ imageOf (slotImageBytes (slotOf gen im)) = im)
    ∧ (∀ (gen : Word) (im : Image) (i : Fin 16),
     let bs := slotOf gen im
     let bytes := imageToBytes im
     let t := im.settings
     let e := im.entries[i]
     let k := 13 + 12 * i.val
     bs.length = 213 ∧ be32 bs 0 = gen ∧ (bs.drop 4).take 205 = bytes
       ∧ be32 bs 209 = crc32 0xFFFFFFFF (bs.take 209)
       ∧ bytes.length = 205
       ∧ bytes.take 13 = [t.aLanes, t.mLanes, t.aWait, t.mWait, t.aWrap, t.mWrap, t.aIrqMask,
         t.mIrqMask, t.filler, t.trapTimeout, t.watchdogInterval, t.holdLimit, t.guardMode]
       ∧ byteAt bytes k = e.flags ∧ be16 bytes (k + 1) = e.physBase ∧ be16 bytes (k + 3) = e.length
       ∧ be16 bytes (k + 5) = e.viewBase ∧ byteAt bytes (k + 7) = e.aRights
       ∧ byteAt bytes (k + 8) = e.mRights ∧ byteAt bytes (k + 9) = e.trapPolicy
       ∧ byteAt bytes (k + 10) = e.defaultAction ∧ byteAt bytes (k + 11) = e.aliasIndex)
    ∧ (∀ bs : List Byte, bs.length = 205 → imageToBytes (imageOf bs) = bs)
    ∧ (∀ bs : List Byte, bs.length = 213 →
     slotGeneration bs = be32 bs 0 ∧ slotImageBytes bs = (bs.drop 4).take 205)
    ∧ (∀ (s : State) (slot other : SlotId) (gen : Word) (im : Image) (l1 l2 : Leftover),
     s.resetN = true → s.power = .active → activeEntry s = none → suspendedEntry s = none →
     other ≠ slot → gen ≠ 0 → s.store slot = slotOf gen im →
     (classify (s.store other) = .valid → slotGeneration (s.store other) < gen) →
     ∃ t u, exec (.powerLoss l1) s = .next t ∧ exec (.powerOn l2) t = .next u
       ∧ u.activeImage = im ∧ u.stagingImage = im ∧ u.generation = gen
       ∧ u.selected = some slot ∧ u.dirty = false)

/-- Validation (R67, R68): it reports the failing valid entry of lowest index with its first fault, and
passes just when no valid entry has a fault; an unused entry never fails. The seven faults of a valid entry
in the order of their codes, each as its condition of R67 says. An alias of 16 to 254 names no entry and is
a fault, the model's choice (assumption 20). In a table that passes validation (R56, R58, R59) no two valid
entries cover one physical block, nor one logical block by their views, so that translation and lookup name
the one covering entry. The translation of a logical address (R58): the valid entry with a view that covers
its block, and the physical address, (phys_base + b − view_base) × 10000h + o; none where no view covers it.
The partition of a physical address (R59): the valid entry whose physical range covers its block. Of several
covering entries, which a valid table has not, the lowest index is the model's choice (assumption 20). A
swap keeps a table valid (R70): after a SWAP_VIEWS of a swap pair a table that passes validation passes it
too, and a second swap of the pair restores it. -/
def Obligations.ValidationReport : Prop :=
  (∀ (im : Image),
     (tableFault im = none ↔
         ∀ i : Fin 16, entryValid im.entries[i] = true → entryFault im i = 0)
       ∧ ∀ (i : Fin 16) (code : Nat), tableFault im = some (i, code) →
         entryValid im.entries[i] = true ∧ entryFault im i = code ∧ 1 ≤ code ∧ code ≤ 7
           ∧ (∀ j : Fin 16, j < i → entryValid im.entries[j] = true → entryFault im j = 0)
           ∧ validationDetail im = BitVec.ofNat 8 (16 * i.val + code))
    ∧ (∀ (im : Image) (i : Fin 16),
     let e := im.entries[i]
     let valid := fun (q : PartEntry) => q.flags.getLsbD 0 = true
     let swappable := fun (q : PartEntry) => q.flags.getLsbD 1 = true
     let view := fun (q : PartEntry) => q.viewBase ≠ 0xFFFF
     let share := fun (b l b' l' : Half) => ∃ n, b.toNat ≤ n ∧ n < b.toNat + l.toNat
       ∧ b'.toNat ≤ n ∧ n < b'.toNat + l'.toNat
     let pastArray := 512 < e.physBase.toNat + e.length.toNat
     let overlap := ∃ j : Fin 16, j < i ∧ valid im.entries[j]
       ∧ share e.physBase e.length im.entries[j].physBase im.entries[j].length
     let viewPast := view e ∧ 512 < e.viewBase.toNat + e.length.toNat
     let viewOverlap := view e ∧ ∃ j : Fin 16, j < i ∧ valid im.entries[j] ∧ view im.entries[j]
       ∧ share e.viewBase e.length im.entries[j].viewBase im.entries[j].length
     let rightsMismatch := e.aRights = 0 ∧ view e ∨ e.aRights ≠ 0 ∧ ¬ view e
     let aliased := (e.aliasIndex ≠ 0xFF ∨ swappable e)
       ∧ (e.aliasIndex = 0xFF ∨ e.aliasIndex.toNat = i.val
         ∨ ∀ j : Fin 16, j.val = e.aliasIndex.toNat →
           let q := im.entries[j]
           ¬ valid q ∨ q.aliasIndex.toNat ≠ i.val ∨ q.length ≠ e.length
             ∨ ¬ (swappable e ∧ swappable q) ∨ ¬ (view e ∧ view q))
     let trapsUnwritable := e.trapPolicy ≠ 0 ∧ e.aRights ≠ 2
     (pastArray → entryFault im i = 1)
       ∧ (¬ pastArray → overlap → entryFault im i = 2)
       ∧ (¬ pastArray → ¬ overlap → viewPast → entryFault im i = 3)
       ∧ (¬ pastArray → ¬ overlap → ¬ viewPast → viewOverlap → entryFault im i = 4)
       ∧ (¬ pastArray → ¬ overlap → ¬ viewPast → ¬ viewOverlap → rightsMismatch →
         entryFault im i = 5)
       ∧ (¬ pastArray → ¬ overlap → ¬ viewPast → ¬ viewOverlap → ¬ rightsMismatch → aliased →
         entryFault im i = 6)
       ∧ (¬ pastArray → ¬ overlap → ¬ viewPast → ¬ viewOverlap → ¬ rightsMismatch → ¬ aliased →
         (trapsUnwritable → entryFault im i = 7) ∧ (¬ trapsUnwritable → entryFault im i = 0)))
    ∧ (∀ (im : Image) (i j : Fin 16) (b : Nat), tableFault im = none → i ≠ j →
     ¬ (physCovers im.entries[i] b = true ∧ physCovers im.entries[j] b = true)
       ∧ ¬ (viewCovers im.entries[i] b = true ∧ viewCovers im.entries[j] b = true))
    ∧ (∀ (im : Image) (a : Nat),
     let b := a / 0x10000
     let inView := fun (j : Fin 16) =>
       let e := im.entries[j]
       e.flags.getLsbD 0 = true ∧ e.viewBase ≠ 0xFFFF ∧ e.viewBase.toNat ≤ b
         ∧ b < e.viewBase.toNat + e.length.toNat
     let inRange := fun (j : Fin 16) =>
       let e := im.entries[j]
       e.flags.getLsbD 0 = true ∧ e.physBase.toNat ≤ b ∧ b < e.physBase.toNat + e.length.toNat
     (∀ j phys, translate im a = some (j, phys) ↔
         inView j ∧ (∀ i : Fin 16, i < j → ¬ inView i)
           ∧ phys = (im.entries[j].physBase.toNat + b - im.entries[j].viewBase.toNat) * 0x10000
             + a % 0x10000)
       ∧ (translate im a = none ↔ ∀ j, ¬ inView j)
       ∧ (∀ j, partitionOf im a = some j ↔ inRange j ∧ ∀ i : Fin 16, i < j → ¬ inRange i)
       ∧ (partitionOf im a = none ↔ ∀ j, ¬ inRange j))
    ∧ (∀ (im : Image) (i j : Fin 16), tableFault im = none → swapPair im i j = true →
     tableFault { im with entries := swapViews im.entries i j } = none
       ∧ swapPair { im with entries := swapViews im.entries i j } i j = true
       ∧ swapViews (swapViews im.entries i j) i j = im.entries)

/-- The active image passes validation after every step (R56), from every sound state in which it does,
the staging image of a queued COMMIT does, and the image of each VALID store slot does; and these stay
so, whatever bits a COMMIT that fails or is cut short leaves wrong: only a slot that a commit wrote in full
is VALID (R56, R142, R143). That wrong bytes which would make a VALID slot are taken as an erased one is
assumption 10. -/
def Obligations.ActiveImageStaysValid : Prop :=
  ∀ s t : State, SequencerSound s → StoreSound s → ImagesValid s → step s = .next t → ImagesValid t
end

