-- ==== Sys2Proof/Laws/State.lean ====
section
/-! SUPPORT. One lemma per field and update: what each named update of the state leaves of each field. -/

namespace Sys2Proof.Machine

/-! `State.setPort` -/

@[simp] theorem State.setPort_power (s : State) (p : Port) (ps : PortState) : (s.setPort p ps).power = s.power := by cases p <;> rfl
@[simp] theorem State.setPort_resetN (s : State) (p : Port) (ps : PortState) : (s.setPort p ps).resetN = s.resetN := by cases p <;> rfl
@[simp] theorem State.setPort_guardN (s : State) (p : Port) (ps : PortState) : (s.setPort p ps).guardN = s.guardN := by cases p <;> rfl
@[simp] theorem State.setPort_array (s : State) (p : Port) (ps : PortState) : (s.setPort p ps).array = s.array := by cases p <;> rfl
@[simp] theorem State.setPort_pool (s : State) (p : Port) (ps : PortState) : (s.setPort p ps).pool = s.pool := by cases p <;> rfl
@[simp] theorem State.setPort_queue (s : State) (p : Port) (ps : PortState) : (s.setPort p ps).queue = s.queue := by cases p <;> rfl
@[simp] theorem State.setPort_suspend (s : State) (p : Port) (ps : PortState) : (s.setPort p ps).suspend = s.suspend := by cases p <;> rfl
@[simp] theorem State.setPort_quantum (s : State) (p : Port) (ps : PortState) : (s.setPort p ps).quantum = s.quantum := by cases p <;> rfl
@[simp] theorem State.setPort_hold (s : State) (p : Port) (ps : PortState) : (s.setPort p ps).hold = s.hold := by cases p <;> rfl
@[simp] theorem State.setPort_slot0 (s : State) (p : Port) (ps : PortState) : (s.setPort p ps).slot0 = s.slot0 := by cases p <;> rfl
@[simp] theorem State.setPort_slot1 (s : State) (p : Port) (ps : PortState) : (s.setPort p ps).slot1 = s.slot1 := by cases p <;> rfl
@[simp] theorem State.setPort_watchdog (s : State) (p : Port) (ps : PortState) : (s.setPort p ps).watchdog = s.watchdog := by cases p <;> rfl
@[simp] theorem State.setPort_started (s : State) (p : Port) (ps : PortState) : (s.setPort p ps).started = s.started := by cases p <;> rfl
@[simp] theorem State.setPort_activeImage (s : State) (p : Port) (ps : PortState) : (s.setPort p ps).activeImage = s.activeImage := by cases p <;> rfl
@[simp] theorem State.setPort_stagingImage (s : State) (p : Port) (ps : PortState) : (s.setPort p ps).stagingImage = s.stagingImage := by cases p <;> rfl
@[simp] theorem State.setPort_dirty (s : State) (p : Port) (ps : PortState) : (s.setPort p ps).dirty = s.dirty := by cases p <;> rfl
@[simp] theorem State.setPort_validation (s : State) (p : Port) (ps : PortState) : (s.setPort p ps).validation = s.validation := by cases p <;> rfl
@[simp] theorem State.setPort_store0 (s : State) (p : Port) (ps : PortState) : (s.setPort p ps).store0 = s.store0 := by cases p <;> rfl
@[simp] theorem State.setPort_store1 (s : State) (p : Port) (ps : PortState) : (s.setPort p ps).store1 = s.store1 := by cases p <;> rfl
@[simp] theorem State.setPort_class0 (s : State) (p : Port) (ps : PortState) : (s.setPort p ps).class0 = s.class0 := by cases p <;> rfl
@[simp] theorem State.setPort_class1 (s : State) (p : Port) (ps : PortState) : (s.setPort p ps).class1 = s.class1 := by cases p <;> rfl
@[simp] theorem State.setPort_selected (s : State) (p : Port) (ps : PortState) : (s.setPort p ps).selected = s.selected := by cases p <;> rfl
@[simp] theorem State.setPort_generation (s : State) (p : Port) (ps : PortState) : (s.setPort p ps).generation = s.generation := by cases p <;> rfl
@[simp] theorem State.setPort_commitRun (s : State) (p : Port) (ps : PortState) : (s.setPort p ps).commitRun = s.commitRun := by cases p <;> rfl
@[simp] theorem State.setPort_fuse (s : State) (p : Port) (ps : PortState) : (s.setPort p ps).fuse = s.fuse := by cases p <;> rfl
@[simp] theorem State.setPort_sessionLock (s : State) (p : Port) (ps : PortState) : (s.setPort p ps).sessionLock = s.sessionLock := by cases p <;> rfl
@[simp] theorem State.setPort_sealStore (s : State) (p : Port) (ps : PortState) : (s.setPort p ps).sealStore = s.sealStore := by cases p <;> rfl
@[simp] theorem State.setPort_sealLocks (s : State) (p : Port) (ps : PortState) : (s.setPort p ps).sealLocks = s.sealLocks := by cases p <;> rfl
@[simp] theorem State.setPort_jobs (s : State) (p : Port) (ps : PortState) : (s.setPort p ps).jobs = s.jobs := by cases p <;> rfl
@[simp] theorem State.setPort_engine (s : State) (p : Port) (ps : PortState) : (s.setPort p ps).engine = s.engine := by cases p <;> rfl
@[simp] theorem State.setPort_current (s : State) (p : Port) (ps : PortState) : (s.setPort p ps).current = s.current := by cases p <;> rfl
@[simp] theorem State.setPort_cursor (s : State) (p : Port) (ps : PortState) : (s.setPort p ps).cursor = s.cursor := by cases p <;> rfl
@[simp] theorem State.setPort_crc (s : State) (p : Port) (ps : PortState) : (s.setPort p ps).crc = s.crc := by cases p <;> rfl
@[simp] theorem State.setPort_jobIdNext (s : State) (p : Port) (ps : PortState) : (s.setPort p ps).jobIdNext = s.jobIdNext := by cases p <;> rfl
@[simp] theorem State.setPort_jobAttn (s : State) (p : Port) (ps : PortState) : (s.setPort p ps).jobAttn = s.jobAttn := by cases p <;> rfl
@[simp] theorem State.setPort_log (s : State) (p : Port) (ps : PortState) : (s.setPort p ps).log = s.log := by cases p <;> rfl
@[simp] theorem State.setPort_seqNext (s : State) (p : Port) (ps : PortState) : (s.setPort p ps).seqNext = s.seqNext := by cases p <;> rfl
@[simp] theorem State.setPort_overflow (s : State) (p : Port) (ps : PortState) : (s.setPort p ps).overflow = s.overflow := by cases p <;> rfl
@[simp] theorem State.setPort_aborted (s : State) (p : Port) (ps : PortState) : (s.setPort p ps).aborted = s.aborted := by cases p <;> rfl
@[simp] theorem State.setPort_irqA (s : State) (p : Port) (ps : PortState) : (s.setPort p ps).irqA = s.irqA := by cases p <;> rfl
@[simp] theorem State.setPort_irqM (s : State) (p : Port) (ps : PortState) : (s.setPort p ps).irqM = s.irqM := by cases p <;> rfl
@[simp] theorem State.setPort_pending (s : State) (p : Port) (ps : PortState) : (s.setPort p ps).pending = s.pending := by cases p <;> rfl
@[simp] theorem State.setPort_arriving (s : State) (p : Port) (ps : PortState) : (s.setPort p ps).arriving = s.arriving := by cases p <;> rfl
@[simp] theorem State.setPort_instantLeft (s : State) (p : Port) (ps : PortState) : (s.setPort p ps).instantLeft = s.instantLeft := by cases p <;> rfl

/-! `State.setSlot` -/

@[simp] theorem State.setSlot_power (s : State) (i : SlotId) (sl : MailSlot) : (s.setSlot i sl).power = s.power := by cases i <;> rfl
@[simp] theorem State.setSlot_resetN (s : State) (i : SlotId) (sl : MailSlot) : (s.setSlot i sl).resetN = s.resetN := by cases i <;> rfl
@[simp] theorem State.setSlot_guardN (s : State) (i : SlotId) (sl : MailSlot) : (s.setSlot i sl).guardN = s.guardN := by cases i <;> rfl
@[simp] theorem State.setSlot_portA (s : State) (i : SlotId) (sl : MailSlot) : (s.setSlot i sl).portA = s.portA := by cases i <;> rfl
@[simp] theorem State.setSlot_portM (s : State) (i : SlotId) (sl : MailSlot) : (s.setSlot i sl).portM = s.portM := by cases i <;> rfl
@[simp] theorem State.setSlot_array (s : State) (i : SlotId) (sl : MailSlot) : (s.setSlot i sl).array = s.array := by cases i <;> rfl
@[simp] theorem State.setSlot_pool (s : State) (i : SlotId) (sl : MailSlot) : (s.setSlot i sl).pool = s.pool := by cases i <;> rfl
@[simp] theorem State.setSlot_queue (s : State) (i : SlotId) (sl : MailSlot) : (s.setSlot i sl).queue = s.queue := by cases i <;> rfl
@[simp] theorem State.setSlot_suspend (s : State) (i : SlotId) (sl : MailSlot) : (s.setSlot i sl).suspend = s.suspend := by cases i <;> rfl
@[simp] theorem State.setSlot_quantum (s : State) (i : SlotId) (sl : MailSlot) : (s.setSlot i sl).quantum = s.quantum := by cases i <;> rfl
@[simp] theorem State.setSlot_hold (s : State) (i : SlotId) (sl : MailSlot) : (s.setSlot i sl).hold = s.hold := by cases i <;> rfl
@[simp] theorem State.setSlot_watchdog (s : State) (i : SlotId) (sl : MailSlot) : (s.setSlot i sl).watchdog = s.watchdog := by cases i <;> rfl
@[simp] theorem State.setSlot_started (s : State) (i : SlotId) (sl : MailSlot) : (s.setSlot i sl).started = s.started := by cases i <;> rfl
@[simp] theorem State.setSlot_activeImage (s : State) (i : SlotId) (sl : MailSlot) : (s.setSlot i sl).activeImage = s.activeImage := by cases i <;> rfl
@[simp] theorem State.setSlot_stagingImage (s : State) (i : SlotId) (sl : MailSlot) : (s.setSlot i sl).stagingImage = s.stagingImage := by cases i <;> rfl
@[simp] theorem State.setSlot_dirty (s : State) (i : SlotId) (sl : MailSlot) : (s.setSlot i sl).dirty = s.dirty := by cases i <;> rfl
@[simp] theorem State.setSlot_validation (s : State) (i : SlotId) (sl : MailSlot) : (s.setSlot i sl).validation = s.validation := by cases i <;> rfl
@[simp] theorem State.setSlot_store0 (s : State) (i : SlotId) (sl : MailSlot) : (s.setSlot i sl).store0 = s.store0 := by cases i <;> rfl
@[simp] theorem State.setSlot_store1 (s : State) (i : SlotId) (sl : MailSlot) : (s.setSlot i sl).store1 = s.store1 := by cases i <;> rfl
@[simp] theorem State.setSlot_class0 (s : State) (i : SlotId) (sl : MailSlot) : (s.setSlot i sl).class0 = s.class0 := by cases i <;> rfl
@[simp] theorem State.setSlot_class1 (s : State) (i : SlotId) (sl : MailSlot) : (s.setSlot i sl).class1 = s.class1 := by cases i <;> rfl
@[simp] theorem State.setSlot_selected (s : State) (i : SlotId) (sl : MailSlot) : (s.setSlot i sl).selected = s.selected := by cases i <;> rfl
@[simp] theorem State.setSlot_generation (s : State) (i : SlotId) (sl : MailSlot) : (s.setSlot i sl).generation = s.generation := by cases i <;> rfl
@[simp] theorem State.setSlot_commitRun (s : State) (i : SlotId) (sl : MailSlot) : (s.setSlot i sl).commitRun = s.commitRun := by cases i <;> rfl
@[simp] theorem State.setSlot_fuse (s : State) (i : SlotId) (sl : MailSlot) : (s.setSlot i sl).fuse = s.fuse := by cases i <;> rfl
@[simp] theorem State.setSlot_sessionLock (s : State) (i : SlotId) (sl : MailSlot) : (s.setSlot i sl).sessionLock = s.sessionLock := by cases i <;> rfl
@[simp] theorem State.setSlot_sealStore (s : State) (i : SlotId) (sl : MailSlot) : (s.setSlot i sl).sealStore = s.sealStore := by cases i <;> rfl
@[simp] theorem State.setSlot_sealLocks (s : State) (i : SlotId) (sl : MailSlot) : (s.setSlot i sl).sealLocks = s.sealLocks := by cases i <;> rfl
@[simp] theorem State.setSlot_jobs (s : State) (i : SlotId) (sl : MailSlot) : (s.setSlot i sl).jobs = s.jobs := by cases i <;> rfl
@[simp] theorem State.setSlot_engine (s : State) (i : SlotId) (sl : MailSlot) : (s.setSlot i sl).engine = s.engine := by cases i <;> rfl
@[simp] theorem State.setSlot_current (s : State) (i : SlotId) (sl : MailSlot) : (s.setSlot i sl).current = s.current := by cases i <;> rfl
@[simp] theorem State.setSlot_cursor (s : State) (i : SlotId) (sl : MailSlot) : (s.setSlot i sl).cursor = s.cursor := by cases i <;> rfl
@[simp] theorem State.setSlot_crc (s : State) (i : SlotId) (sl : MailSlot) : (s.setSlot i sl).crc = s.crc := by cases i <;> rfl
@[simp] theorem State.setSlot_jobIdNext (s : State) (i : SlotId) (sl : MailSlot) : (s.setSlot i sl).jobIdNext = s.jobIdNext := by cases i <;> rfl
@[simp] theorem State.setSlot_jobAttn (s : State) (i : SlotId) (sl : MailSlot) : (s.setSlot i sl).jobAttn = s.jobAttn := by cases i <;> rfl
@[simp] theorem State.setSlot_log (s : State) (i : SlotId) (sl : MailSlot) : (s.setSlot i sl).log = s.log := by cases i <;> rfl
@[simp] theorem State.setSlot_seqNext (s : State) (i : SlotId) (sl : MailSlot) : (s.setSlot i sl).seqNext = s.seqNext := by cases i <;> rfl
@[simp] theorem State.setSlot_overflow (s : State) (i : SlotId) (sl : MailSlot) : (s.setSlot i sl).overflow = s.overflow := by cases i <;> rfl
@[simp] theorem State.setSlot_aborted (s : State) (i : SlotId) (sl : MailSlot) : (s.setSlot i sl).aborted = s.aborted := by cases i <;> rfl
@[simp] theorem State.setSlot_irqA (s : State) (i : SlotId) (sl : MailSlot) : (s.setSlot i sl).irqA = s.irqA := by cases i <;> rfl
@[simp] theorem State.setSlot_irqM (s : State) (i : SlotId) (sl : MailSlot) : (s.setSlot i sl).irqM = s.irqM := by cases i <;> rfl
@[simp] theorem State.setSlot_pending (s : State) (i : SlotId) (sl : MailSlot) : (s.setSlot i sl).pending = s.pending := by cases i <;> rfl
@[simp] theorem State.setSlot_arriving (s : State) (i : SlotId) (sl : MailSlot) : (s.setSlot i sl).arriving = s.arriving := by cases i <;> rfl
@[simp] theorem State.setSlot_instantLeft (s : State) (i : SlotId) (sl : MailSlot) : (s.setSlot i sl).instantLeft = s.instantLeft := by cases i <;> rfl

/-! `State.setStore` -/

@[simp] theorem State.setStore_power (s : State) (i : SlotId) (bs : List Byte) : (s.setStore i bs).power = s.power := by cases i <;> rfl
@[simp] theorem State.setStore_resetN (s : State) (i : SlotId) (bs : List Byte) : (s.setStore i bs).resetN = s.resetN := by cases i <;> rfl
@[simp] theorem State.setStore_guardN (s : State) (i : SlotId) (bs : List Byte) : (s.setStore i bs).guardN = s.guardN := by cases i <;> rfl
@[simp] theorem State.setStore_portA (s : State) (i : SlotId) (bs : List Byte) : (s.setStore i bs).portA = s.portA := by cases i <;> rfl
@[simp] theorem State.setStore_portM (s : State) (i : SlotId) (bs : List Byte) : (s.setStore i bs).portM = s.portM := by cases i <;> rfl
@[simp] theorem State.setStore_array (s : State) (i : SlotId) (bs : List Byte) : (s.setStore i bs).array = s.array := by cases i <;> rfl
@[simp] theorem State.setStore_pool (s : State) (i : SlotId) (bs : List Byte) : (s.setStore i bs).pool = s.pool := by cases i <;> rfl
@[simp] theorem State.setStore_queue (s : State) (i : SlotId) (bs : List Byte) : (s.setStore i bs).queue = s.queue := by cases i <;> rfl
@[simp] theorem State.setStore_suspend (s : State) (i : SlotId) (bs : List Byte) : (s.setStore i bs).suspend = s.suspend := by cases i <;> rfl
@[simp] theorem State.setStore_quantum (s : State) (i : SlotId) (bs : List Byte) : (s.setStore i bs).quantum = s.quantum := by cases i <;> rfl
@[simp] theorem State.setStore_hold (s : State) (i : SlotId) (bs : List Byte) : (s.setStore i bs).hold = s.hold := by cases i <;> rfl
@[simp] theorem State.setStore_slot0 (s : State) (i : SlotId) (bs : List Byte) : (s.setStore i bs).slot0 = s.slot0 := by cases i <;> rfl
@[simp] theorem State.setStore_slot1 (s : State) (i : SlotId) (bs : List Byte) : (s.setStore i bs).slot1 = s.slot1 := by cases i <;> rfl
@[simp] theorem State.setStore_watchdog (s : State) (i : SlotId) (bs : List Byte) : (s.setStore i bs).watchdog = s.watchdog := by cases i <;> rfl
@[simp] theorem State.setStore_started (s : State) (i : SlotId) (bs : List Byte) : (s.setStore i bs).started = s.started := by cases i <;> rfl
@[simp] theorem State.setStore_activeImage (s : State) (i : SlotId) (bs : List Byte) : (s.setStore i bs).activeImage = s.activeImage := by cases i <;> rfl
@[simp] theorem State.setStore_stagingImage (s : State) (i : SlotId) (bs : List Byte) : (s.setStore i bs).stagingImage = s.stagingImage := by cases i <;> rfl
@[simp] theorem State.setStore_dirty (s : State) (i : SlotId) (bs : List Byte) : (s.setStore i bs).dirty = s.dirty := by cases i <;> rfl
@[simp] theorem State.setStore_validation (s : State) (i : SlotId) (bs : List Byte) : (s.setStore i bs).validation = s.validation := by cases i <;> rfl
@[simp] theorem State.setStore_class0 (s : State) (i : SlotId) (bs : List Byte) : (s.setStore i bs).class0 = s.class0 := by cases i <;> rfl
@[simp] theorem State.setStore_class1 (s : State) (i : SlotId) (bs : List Byte) : (s.setStore i bs).class1 = s.class1 := by cases i <;> rfl
@[simp] theorem State.setStore_selected (s : State) (i : SlotId) (bs : List Byte) : (s.setStore i bs).selected = s.selected := by cases i <;> rfl
@[simp] theorem State.setStore_generation (s : State) (i : SlotId) (bs : List Byte) : (s.setStore i bs).generation = s.generation := by cases i <;> rfl
@[simp] theorem State.setStore_commitRun (s : State) (i : SlotId) (bs : List Byte) : (s.setStore i bs).commitRun = s.commitRun := by cases i <;> rfl
@[simp] theorem State.setStore_fuse (s : State) (i : SlotId) (bs : List Byte) : (s.setStore i bs).fuse = s.fuse := by cases i <;> rfl
@[simp] theorem State.setStore_sessionLock (s : State) (i : SlotId) (bs : List Byte) : (s.setStore i bs).sessionLock = s.sessionLock := by cases i <;> rfl
@[simp] theorem State.setStore_sealStore (s : State) (i : SlotId) (bs : List Byte) : (s.setStore i bs).sealStore = s.sealStore := by cases i <;> rfl
@[simp] theorem State.setStore_sealLocks (s : State) (i : SlotId) (bs : List Byte) : (s.setStore i bs).sealLocks = s.sealLocks := by cases i <;> rfl
@[simp] theorem State.setStore_jobs (s : State) (i : SlotId) (bs : List Byte) : (s.setStore i bs).jobs = s.jobs := by cases i <;> rfl
@[simp] theorem State.setStore_engine (s : State) (i : SlotId) (bs : List Byte) : (s.setStore i bs).engine = s.engine := by cases i <;> rfl
@[simp] theorem State.setStore_current (s : State) (i : SlotId) (bs : List Byte) : (s.setStore i bs).current = s.current := by cases i <;> rfl
@[simp] theorem State.setStore_cursor (s : State) (i : SlotId) (bs : List Byte) : (s.setStore i bs).cursor = s.cursor := by cases i <;> rfl
@[simp] theorem State.setStore_crc (s : State) (i : SlotId) (bs : List Byte) : (s.setStore i bs).crc = s.crc := by cases i <;> rfl
@[simp] theorem State.setStore_jobIdNext (s : State) (i : SlotId) (bs : List Byte) : (s.setStore i bs).jobIdNext = s.jobIdNext := by cases i <;> rfl
@[simp] theorem State.setStore_jobAttn (s : State) (i : SlotId) (bs : List Byte) : (s.setStore i bs).jobAttn = s.jobAttn := by cases i <;> rfl
@[simp] theorem State.setStore_log (s : State) (i : SlotId) (bs : List Byte) : (s.setStore i bs).log = s.log := by cases i <;> rfl
@[simp] theorem State.setStore_seqNext (s : State) (i : SlotId) (bs : List Byte) : (s.setStore i bs).seqNext = s.seqNext := by cases i <;> rfl
@[simp] theorem State.setStore_overflow (s : State) (i : SlotId) (bs : List Byte) : (s.setStore i bs).overflow = s.overflow := by cases i <;> rfl
@[simp] theorem State.setStore_aborted (s : State) (i : SlotId) (bs : List Byte) : (s.setStore i bs).aborted = s.aborted := by cases i <;> rfl
@[simp] theorem State.setStore_irqA (s : State) (i : SlotId) (bs : List Byte) : (s.setStore i bs).irqA = s.irqA := by cases i <;> rfl
@[simp] theorem State.setStore_irqM (s : State) (i : SlotId) (bs : List Byte) : (s.setStore i bs).irqM = s.irqM := by cases i <;> rfl
@[simp] theorem State.setStore_pending (s : State) (i : SlotId) (bs : List Byte) : (s.setStore i bs).pending = s.pending := by cases i <;> rfl
@[simp] theorem State.setStore_arriving (s : State) (i : SlotId) (bs : List Byte) : (s.setStore i bs).arriving = s.arriving := by cases i <;> rfl
@[simp] theorem State.setStore_instantLeft (s : State) (i : SlotId) (bs : List Byte) : (s.setStore i bs).instantLeft = s.instantLeft := by cases i <;> rfl

/-! `State.setStoreClass` -/

@[simp] theorem State.setStoreClass_power (s : State) (i : SlotId) (c : SlotClass) : (s.setStoreClass i c).power = s.power := by cases i <;> rfl
@[simp] theorem State.setStoreClass_resetN (s : State) (i : SlotId) (c : SlotClass) : (s.setStoreClass i c).resetN = s.resetN := by cases i <;> rfl
@[simp] theorem State.setStoreClass_guardN (s : State) (i : SlotId) (c : SlotClass) : (s.setStoreClass i c).guardN = s.guardN := by cases i <;> rfl
@[simp] theorem State.setStoreClass_portA (s : State) (i : SlotId) (c : SlotClass) : (s.setStoreClass i c).portA = s.portA := by cases i <;> rfl
@[simp] theorem State.setStoreClass_portM (s : State) (i : SlotId) (c : SlotClass) : (s.setStoreClass i c).portM = s.portM := by cases i <;> rfl
@[simp] theorem State.setStoreClass_array (s : State) (i : SlotId) (c : SlotClass) : (s.setStoreClass i c).array = s.array := by cases i <;> rfl
@[simp] theorem State.setStoreClass_pool (s : State) (i : SlotId) (c : SlotClass) : (s.setStoreClass i c).pool = s.pool := by cases i <;> rfl
@[simp] theorem State.setStoreClass_queue (s : State) (i : SlotId) (c : SlotClass) : (s.setStoreClass i c).queue = s.queue := by cases i <;> rfl
@[simp] theorem State.setStoreClass_suspend (s : State) (i : SlotId) (c : SlotClass) : (s.setStoreClass i c).suspend = s.suspend := by cases i <;> rfl
@[simp] theorem State.setStoreClass_quantum (s : State) (i : SlotId) (c : SlotClass) : (s.setStoreClass i c).quantum = s.quantum := by cases i <;> rfl
@[simp] theorem State.setStoreClass_hold (s : State) (i : SlotId) (c : SlotClass) : (s.setStoreClass i c).hold = s.hold := by cases i <;> rfl
@[simp] theorem State.setStoreClass_slot0 (s : State) (i : SlotId) (c : SlotClass) : (s.setStoreClass i c).slot0 = s.slot0 := by cases i <;> rfl
@[simp] theorem State.setStoreClass_slot1 (s : State) (i : SlotId) (c : SlotClass) : (s.setStoreClass i c).slot1 = s.slot1 := by cases i <;> rfl
@[simp] theorem State.setStoreClass_watchdog (s : State) (i : SlotId) (c : SlotClass) : (s.setStoreClass i c).watchdog = s.watchdog := by cases i <;> rfl
@[simp] theorem State.setStoreClass_started (s : State) (i : SlotId) (c : SlotClass) : (s.setStoreClass i c).started = s.started := by cases i <;> rfl
@[simp] theorem State.setStoreClass_activeImage (s : State) (i : SlotId) (c : SlotClass) : (s.setStoreClass i c).activeImage = s.activeImage := by cases i <;> rfl
@[simp] theorem State.setStoreClass_stagingImage (s : State) (i : SlotId) (c : SlotClass) : (s.setStoreClass i c).stagingImage = s.stagingImage := by cases i <;> rfl
@[simp] theorem State.setStoreClass_dirty (s : State) (i : SlotId) (c : SlotClass) : (s.setStoreClass i c).dirty = s.dirty := by cases i <;> rfl
@[simp] theorem State.setStoreClass_validation (s : State) (i : SlotId) (c : SlotClass) : (s.setStoreClass i c).validation = s.validation := by cases i <;> rfl
@[simp] theorem State.setStoreClass_store0 (s : State) (i : SlotId) (c : SlotClass) : (s.setStoreClass i c).store0 = s.store0 := by cases i <;> rfl
@[simp] theorem State.setStoreClass_store1 (s : State) (i : SlotId) (c : SlotClass) : (s.setStoreClass i c).store1 = s.store1 := by cases i <;> rfl
@[simp] theorem State.setStoreClass_selected (s : State) (i : SlotId) (c : SlotClass) : (s.setStoreClass i c).selected = s.selected := by cases i <;> rfl
@[simp] theorem State.setStoreClass_generation (s : State) (i : SlotId) (c : SlotClass) : (s.setStoreClass i c).generation = s.generation := by cases i <;> rfl
@[simp] theorem State.setStoreClass_commitRun (s : State) (i : SlotId) (c : SlotClass) : (s.setStoreClass i c).commitRun = s.commitRun := by cases i <;> rfl
@[simp] theorem State.setStoreClass_fuse (s : State) (i : SlotId) (c : SlotClass) : (s.setStoreClass i c).fuse = s.fuse := by cases i <;> rfl
@[simp] theorem State.setStoreClass_sessionLock (s : State) (i : SlotId) (c : SlotClass) : (s.setStoreClass i c).sessionLock = s.sessionLock := by cases i <;> rfl
@[simp] theorem State.setStoreClass_sealStore (s : State) (i : SlotId) (c : SlotClass) : (s.setStoreClass i c).sealStore = s.sealStore := by cases i <;> rfl
@[simp] theorem State.setStoreClass_sealLocks (s : State) (i : SlotId) (c : SlotClass) : (s.setStoreClass i c).sealLocks = s.sealLocks := by cases i <;> rfl
@[simp] theorem State.setStoreClass_jobs (s : State) (i : SlotId) (c : SlotClass) : (s.setStoreClass i c).jobs = s.jobs := by cases i <;> rfl
@[simp] theorem State.setStoreClass_engine (s : State) (i : SlotId) (c : SlotClass) : (s.setStoreClass i c).engine = s.engine := by cases i <;> rfl
@[simp] theorem State.setStoreClass_current (s : State) (i : SlotId) (c : SlotClass) : (s.setStoreClass i c).current = s.current := by cases i <;> rfl
@[simp] theorem State.setStoreClass_cursor (s : State) (i : SlotId) (c : SlotClass) : (s.setStoreClass i c).cursor = s.cursor := by cases i <;> rfl
@[simp] theorem State.setStoreClass_crc (s : State) (i : SlotId) (c : SlotClass) : (s.setStoreClass i c).crc = s.crc := by cases i <;> rfl
@[simp] theorem State.setStoreClass_jobIdNext (s : State) (i : SlotId) (c : SlotClass) : (s.setStoreClass i c).jobIdNext = s.jobIdNext := by cases i <;> rfl
@[simp] theorem State.setStoreClass_jobAttn (s : State) (i : SlotId) (c : SlotClass) : (s.setStoreClass i c).jobAttn = s.jobAttn := by cases i <;> rfl
@[simp] theorem State.setStoreClass_log (s : State) (i : SlotId) (c : SlotClass) : (s.setStoreClass i c).log = s.log := by cases i <;> rfl
@[simp] theorem State.setStoreClass_seqNext (s : State) (i : SlotId) (c : SlotClass) : (s.setStoreClass i c).seqNext = s.seqNext := by cases i <;> rfl
@[simp] theorem State.setStoreClass_overflow (s : State) (i : SlotId) (c : SlotClass) : (s.setStoreClass i c).overflow = s.overflow := by cases i <;> rfl
@[simp] theorem State.setStoreClass_aborted (s : State) (i : SlotId) (c : SlotClass) : (s.setStoreClass i c).aborted = s.aborted := by cases i <;> rfl
@[simp] theorem State.setStoreClass_irqA (s : State) (i : SlotId) (c : SlotClass) : (s.setStoreClass i c).irqA = s.irqA := by cases i <;> rfl
@[simp] theorem State.setStoreClass_irqM (s : State) (i : SlotId) (c : SlotClass) : (s.setStoreClass i c).irqM = s.irqM := by cases i <;> rfl
@[simp] theorem State.setStoreClass_pending (s : State) (i : SlotId) (c : SlotClass) : (s.setStoreClass i c).pending = s.pending := by cases i <;> rfl
@[simp] theorem State.setStoreClass_arriving (s : State) (i : SlotId) (c : SlotClass) : (s.setStoreClass i c).arriving = s.arriving := by cases i <;> rfl
@[simp] theorem State.setStoreClass_instantLeft (s : State) (i : SlotId) (c : SlotClass) : (s.setStoreClass i c).instantLeft = s.instantLeft := by cases i <;> rfl

/-! `enqueue` -/

@[simp] theorem enqueue_power (s : State) (e : Entry) : (enqueue s e).power = s.power := rfl
@[simp] theorem enqueue_resetN (s : State) (e : Entry) : (enqueue s e).resetN = s.resetN := rfl
@[simp] theorem enqueue_guardN (s : State) (e : Entry) : (enqueue s e).guardN = s.guardN := rfl
@[simp] theorem enqueue_portA (s : State) (e : Entry) : (enqueue s e).portA = s.portA := rfl
@[simp] theorem enqueue_portM (s : State) (e : Entry) : (enqueue s e).portM = s.portM := rfl
@[simp] theorem enqueue_array (s : State) (e : Entry) : (enqueue s e).array = s.array := rfl
@[simp] theorem enqueue_pool (s : State) (e : Entry) : (enqueue s e).pool = s.pool := rfl
@[simp] theorem enqueue_suspend (s : State) (e : Entry) : (enqueue s e).suspend = s.suspend := rfl
@[simp] theorem enqueue_quantum (s : State) (e : Entry) : (enqueue s e).quantum = s.quantum := rfl
@[simp] theorem enqueue_hold (s : State) (e : Entry) : (enqueue s e).hold = s.hold := rfl
@[simp] theorem enqueue_slot0 (s : State) (e : Entry) : (enqueue s e).slot0 = s.slot0 := rfl
@[simp] theorem enqueue_slot1 (s : State) (e : Entry) : (enqueue s e).slot1 = s.slot1 := rfl
@[simp] theorem enqueue_watchdog (s : State) (e : Entry) : (enqueue s e).watchdog = s.watchdog := rfl
@[simp] theorem enqueue_started (s : State) (e : Entry) : (enqueue s e).started = s.started := rfl
@[simp] theorem enqueue_activeImage (s : State) (e : Entry) : (enqueue s e).activeImage = s.activeImage := rfl
@[simp] theorem enqueue_stagingImage (s : State) (e : Entry) : (enqueue s e).stagingImage = s.stagingImage := rfl
@[simp] theorem enqueue_dirty (s : State) (e : Entry) : (enqueue s e).dirty = s.dirty := rfl
@[simp] theorem enqueue_validation (s : State) (e : Entry) : (enqueue s e).validation = s.validation := rfl
@[simp] theorem enqueue_store0 (s : State) (e : Entry) : (enqueue s e).store0 = s.store0 := rfl
@[simp] theorem enqueue_store1 (s : State) (e : Entry) : (enqueue s e).store1 = s.store1 := rfl
@[simp] theorem enqueue_class0 (s : State) (e : Entry) : (enqueue s e).class0 = s.class0 := rfl
@[simp] theorem enqueue_class1 (s : State) (e : Entry) : (enqueue s e).class1 = s.class1 := rfl
@[simp] theorem enqueue_selected (s : State) (e : Entry) : (enqueue s e).selected = s.selected := rfl
@[simp] theorem enqueue_generation (s : State) (e : Entry) : (enqueue s e).generation = s.generation := rfl
@[simp] theorem enqueue_commitRun (s : State) (e : Entry) : (enqueue s e).commitRun = s.commitRun := rfl
@[simp] theorem enqueue_fuse (s : State) (e : Entry) : (enqueue s e).fuse = s.fuse := rfl
@[simp] theorem enqueue_sessionLock (s : State) (e : Entry) : (enqueue s e).sessionLock = s.sessionLock := rfl
@[simp] theorem enqueue_sealStore (s : State) (e : Entry) : (enqueue s e).sealStore = s.sealStore := rfl
@[simp] theorem enqueue_sealLocks (s : State) (e : Entry) : (enqueue s e).sealLocks = s.sealLocks := rfl
@[simp] theorem enqueue_jobs (s : State) (e : Entry) : (enqueue s e).jobs = s.jobs := rfl
@[simp] theorem enqueue_engine (s : State) (e : Entry) : (enqueue s e).engine = s.engine := rfl
@[simp] theorem enqueue_current (s : State) (e : Entry) : (enqueue s e).current = s.current := rfl
@[simp] theorem enqueue_cursor (s : State) (e : Entry) : (enqueue s e).cursor = s.cursor := rfl
@[simp] theorem enqueue_crc (s : State) (e : Entry) : (enqueue s e).crc = s.crc := rfl
@[simp] theorem enqueue_jobIdNext (s : State) (e : Entry) : (enqueue s e).jobIdNext = s.jobIdNext := rfl
@[simp] theorem enqueue_jobAttn (s : State) (e : Entry) : (enqueue s e).jobAttn = s.jobAttn := rfl
@[simp] theorem enqueue_log (s : State) (e : Entry) : (enqueue s e).log = s.log := rfl
@[simp] theorem enqueue_seqNext (s : State) (e : Entry) : (enqueue s e).seqNext = s.seqNext := rfl
@[simp] theorem enqueue_overflow (s : State) (e : Entry) : (enqueue s e).overflow = s.overflow := rfl
@[simp] theorem enqueue_aborted (s : State) (e : Entry) : (enqueue s e).aborted = s.aborted := rfl
@[simp] theorem enqueue_irqA (s : State) (e : Entry) : (enqueue s e).irqA = s.irqA := rfl
@[simp] theorem enqueue_irqM (s : State) (e : Entry) : (enqueue s e).irqM = s.irqM := rfl
@[simp] theorem enqueue_pending (s : State) (e : Entry) : (enqueue s e).pending = s.pending := rfl
@[simp] theorem enqueue_arriving (s : State) (e : Entry) : (enqueue s e).arriving = s.arriving := rfl
@[simp] theorem enqueue_instantLeft (s : State) (e : Entry) : (enqueue s e).instantLeft = s.instantLeft := rfl

/-! `driveIrq` -/

@[simp] theorem driveIrq_power (s : State)  : (driveIrq s).power = s.power := rfl
@[simp] theorem driveIrq_resetN (s : State)  : (driveIrq s).resetN = s.resetN := rfl
@[simp] theorem driveIrq_guardN (s : State)  : (driveIrq s).guardN = s.guardN := rfl
@[simp] theorem driveIrq_portA (s : State)  : (driveIrq s).portA = s.portA := rfl
@[simp] theorem driveIrq_portM (s : State)  : (driveIrq s).portM = s.portM := rfl
@[simp] theorem driveIrq_array (s : State)  : (driveIrq s).array = s.array := rfl
@[simp] theorem driveIrq_pool (s : State)  : (driveIrq s).pool = s.pool := rfl
@[simp] theorem driveIrq_queue (s : State)  : (driveIrq s).queue = s.queue := rfl
@[simp] theorem driveIrq_suspend (s : State)  : (driveIrq s).suspend = s.suspend := rfl
@[simp] theorem driveIrq_quantum (s : State)  : (driveIrq s).quantum = s.quantum := rfl
@[simp] theorem driveIrq_hold (s : State)  : (driveIrq s).hold = s.hold := rfl
@[simp] theorem driveIrq_slot0 (s : State)  : (driveIrq s).slot0 = s.slot0 := rfl
@[simp] theorem driveIrq_slot1 (s : State)  : (driveIrq s).slot1 = s.slot1 := rfl
@[simp] theorem driveIrq_watchdog (s : State)  : (driveIrq s).watchdog = s.watchdog := rfl
@[simp] theorem driveIrq_started (s : State)  : (driveIrq s).started = if instantEnds s then noneStarted else s.started := rfl
@[simp] theorem driveIrq_activeImage (s : State)  : (driveIrq s).activeImage = s.activeImage := rfl
@[simp] theorem driveIrq_stagingImage (s : State)  : (driveIrq s).stagingImage = s.stagingImage := rfl
@[simp] theorem driveIrq_dirty (s : State)  : (driveIrq s).dirty = s.dirty := rfl
@[simp] theorem driveIrq_validation (s : State)  : (driveIrq s).validation = s.validation := rfl
@[simp] theorem driveIrq_store0 (s : State)  : (driveIrq s).store0 = s.store0 := rfl
@[simp] theorem driveIrq_store1 (s : State)  : (driveIrq s).store1 = s.store1 := rfl
@[simp] theorem driveIrq_class0 (s : State)  : (driveIrq s).class0 = s.class0 := rfl
@[simp] theorem driveIrq_class1 (s : State)  : (driveIrq s).class1 = s.class1 := rfl
@[simp] theorem driveIrq_selected (s : State)  : (driveIrq s).selected = s.selected := rfl
@[simp] theorem driveIrq_generation (s : State)  : (driveIrq s).generation = s.generation := rfl
@[simp] theorem driveIrq_commitRun (s : State)  : (driveIrq s).commitRun = s.commitRun := rfl
@[simp] theorem driveIrq_fuse (s : State)  : (driveIrq s).fuse = s.fuse := rfl
@[simp] theorem driveIrq_sessionLock (s : State)  : (driveIrq s).sessionLock = s.sessionLock := rfl
@[simp] theorem driveIrq_sealStore (s : State)  : (driveIrq s).sealStore = s.sealStore := rfl
@[simp] theorem driveIrq_sealLocks (s : State)  : (driveIrq s).sealLocks = s.sealLocks := rfl
@[simp] theorem driveIrq_jobs (s : State)  : (driveIrq s).jobs = s.jobs := rfl
@[simp] theorem driveIrq_engine (s : State)  : (driveIrq s).engine = s.engine := rfl
@[simp] theorem driveIrq_current (s : State)  : (driveIrq s).current = s.current := rfl
@[simp] theorem driveIrq_cursor (s : State)  : (driveIrq s).cursor = s.cursor := rfl
@[simp] theorem driveIrq_crc (s : State)  : (driveIrq s).crc = s.crc := rfl
@[simp] theorem driveIrq_jobIdNext (s : State)  : (driveIrq s).jobIdNext = s.jobIdNext := rfl
@[simp] theorem driveIrq_jobAttn (s : State)  : (driveIrq s).jobAttn = s.jobAttn := rfl
@[simp] theorem driveIrq_log (s : State)  : (driveIrq s).log = s.log := rfl
@[simp] theorem driveIrq_seqNext (s : State)  : (driveIrq s).seqNext = s.seqNext := rfl
@[simp] theorem driveIrq_overflow (s : State)  : (driveIrq s).overflow = s.overflow := rfl
@[simp] theorem driveIrq_aborted (s : State)  : (driveIrq s).aborted = s.aborted := rfl
@[simp] theorem driveIrq_pending (s : State)  : (driveIrq s).pending = s.pending := rfl
@[simp] theorem driveIrq_arriving (s : State)  : (driveIrq s).arriving = s.arriving := rfl
@[simp] theorem driveIrq_instantLeft (s : State)  : (driveIrq s).instantLeft = s.instantLeft - 1 := rfl

/-! `logEvent` -/

@[simp] theorem logEvent_power (s : State) (k : EventKind) (o t d : Byte) (a : Word) : (logEvent s k o t d a).power = s.power := by unfold logEvent; split <;> rfl
@[simp] theorem logEvent_resetN (s : State) (k : EventKind) (o t d : Byte) (a : Word) : (logEvent s k o t d a).resetN = s.resetN := by unfold logEvent; split <;> rfl
@[simp] theorem logEvent_guardN (s : State) (k : EventKind) (o t d : Byte) (a : Word) : (logEvent s k o t d a).guardN = s.guardN := by unfold logEvent; split <;> rfl
@[simp] theorem logEvent_portA (s : State) (k : EventKind) (o t d : Byte) (a : Word) : (logEvent s k o t d a).portA = s.portA := by unfold logEvent; split <;> rfl
@[simp] theorem logEvent_portM (s : State) (k : EventKind) (o t d : Byte) (a : Word) : (logEvent s k o t d a).portM = s.portM := by unfold logEvent; split <;> rfl
@[simp] theorem logEvent_array (s : State) (k : EventKind) (o t d : Byte) (a : Word) : (logEvent s k o t d a).array = s.array := by unfold logEvent; split <;> rfl
@[simp] theorem logEvent_pool (s : State) (k : EventKind) (o t d : Byte) (a : Word) : (logEvent s k o t d a).pool = s.pool := by unfold logEvent; split <;> rfl
@[simp] theorem logEvent_queue (s : State) (k : EventKind) (o t d : Byte) (a : Word) : (logEvent s k o t d a).queue = s.queue := by unfold logEvent; split <;> rfl
@[simp] theorem logEvent_suspend (s : State) (k : EventKind) (o t d : Byte) (a : Word) : (logEvent s k o t d a).suspend = s.suspend := by unfold logEvent; split <;> rfl
@[simp] theorem logEvent_quantum (s : State) (k : EventKind) (o t d : Byte) (a : Word) : (logEvent s k o t d a).quantum = s.quantum := by unfold logEvent; split <;> rfl
@[simp] theorem logEvent_hold (s : State) (k : EventKind) (o t d : Byte) (a : Word) : (logEvent s k o t d a).hold = s.hold := by unfold logEvent; split <;> rfl
@[simp] theorem logEvent_slot0 (s : State) (k : EventKind) (o t d : Byte) (a : Word) : (logEvent s k o t d a).slot0 = s.slot0 := by unfold logEvent; split <;> rfl
@[simp] theorem logEvent_slot1 (s : State) (k : EventKind) (o t d : Byte) (a : Word) : (logEvent s k o t d a).slot1 = s.slot1 := by unfold logEvent; split <;> rfl
@[simp] theorem logEvent_watchdog (s : State) (k : EventKind) (o t d : Byte) (a : Word) : (logEvent s k o t d a).watchdog = s.watchdog := by unfold logEvent; split <;> rfl
@[simp] theorem logEvent_started (s : State) (k : EventKind) (o t d : Byte) (a : Word) : (logEvent s k o t d a).started = s.started := by unfold logEvent; split <;> rfl
@[simp] theorem logEvent_activeImage (s : State) (k : EventKind) (o t d : Byte) (a : Word) : (logEvent s k o t d a).activeImage = s.activeImage := by unfold logEvent; split <;> rfl
@[simp] theorem logEvent_stagingImage (s : State) (k : EventKind) (o t d : Byte) (a : Word) : (logEvent s k o t d a).stagingImage = s.stagingImage := by unfold logEvent; split <;> rfl
@[simp] theorem logEvent_dirty (s : State) (k : EventKind) (o t d : Byte) (a : Word) : (logEvent s k o t d a).dirty = s.dirty := by unfold logEvent; split <;> rfl
@[simp] theorem logEvent_validation (s : State) (k : EventKind) (o t d : Byte) (a : Word) : (logEvent s k o t d a).validation = s.validation := by unfold logEvent; split <;> rfl
@[simp] theorem logEvent_store0 (s : State) (k : EventKind) (o t d : Byte) (a : Word) : (logEvent s k o t d a).store0 = s.store0 := by unfold logEvent; split <;> rfl
@[simp] theorem logEvent_store1 (s : State) (k : EventKind) (o t d : Byte) (a : Word) : (logEvent s k o t d a).store1 = s.store1 := by unfold logEvent; split <;> rfl
@[simp] theorem logEvent_class0 (s : State) (k : EventKind) (o t d : Byte) (a : Word) : (logEvent s k o t d a).class0 = s.class0 := by unfold logEvent; split <;> rfl
@[simp] theorem logEvent_class1 (s : State) (k : EventKind) (o t d : Byte) (a : Word) : (logEvent s k o t d a).class1 = s.class1 := by unfold logEvent; split <;> rfl
@[simp] theorem logEvent_selected (s : State) (k : EventKind) (o t d : Byte) (a : Word) : (logEvent s k o t d a).selected = s.selected := by unfold logEvent; split <;> rfl
@[simp] theorem logEvent_generation (s : State) (k : EventKind) (o t d : Byte) (a : Word) : (logEvent s k o t d a).generation = s.generation := by unfold logEvent; split <;> rfl
@[simp] theorem logEvent_commitRun (s : State) (k : EventKind) (o t d : Byte) (a : Word) : (logEvent s k o t d a).commitRun = s.commitRun := by unfold logEvent; split <;> rfl
@[simp] theorem logEvent_fuse (s : State) (k : EventKind) (o t d : Byte) (a : Word) : (logEvent s k o t d a).fuse = s.fuse := by unfold logEvent; split <;> rfl
@[simp] theorem logEvent_sessionLock (s : State) (k : EventKind) (o t d : Byte) (a : Word) : (logEvent s k o t d a).sessionLock = s.sessionLock := by unfold logEvent; split <;> rfl
@[simp] theorem logEvent_sealStore (s : State) (k : EventKind) (o t d : Byte) (a : Word) : (logEvent s k o t d a).sealStore = s.sealStore := by unfold logEvent; split <;> rfl
@[simp] theorem logEvent_sealLocks (s : State) (k : EventKind) (o t d : Byte) (a : Word) : (logEvent s k o t d a).sealLocks = s.sealLocks := by unfold logEvent; split <;> rfl
@[simp] theorem logEvent_jobs (s : State) (k : EventKind) (o t d : Byte) (a : Word) : (logEvent s k o t d a).jobs = s.jobs := by unfold logEvent; split <;> rfl
@[simp] theorem logEvent_engine (s : State) (k : EventKind) (o t d : Byte) (a : Word) : (logEvent s k o t d a).engine = s.engine := by unfold logEvent; split <;> rfl
@[simp] theorem logEvent_current (s : State) (k : EventKind) (o t d : Byte) (a : Word) : (logEvent s k o t d a).current = s.current := by unfold logEvent; split <;> rfl
@[simp] theorem logEvent_cursor (s : State) (k : EventKind) (o t d : Byte) (a : Word) : (logEvent s k o t d a).cursor = s.cursor := by unfold logEvent; split <;> rfl
@[simp] theorem logEvent_crc (s : State) (k : EventKind) (o t d : Byte) (a : Word) : (logEvent s k o t d a).crc = s.crc := by unfold logEvent; split <;> rfl
@[simp] theorem logEvent_jobIdNext (s : State) (k : EventKind) (o t d : Byte) (a : Word) : (logEvent s k o t d a).jobIdNext = s.jobIdNext := by unfold logEvent; split <;> rfl
@[simp] theorem logEvent_jobAttn (s : State) (k : EventKind) (o t d : Byte) (a : Word) : (logEvent s k o t d a).jobAttn = s.jobAttn := by unfold logEvent; split <;> rfl
@[simp] theorem logEvent_aborted (s : State) (k : EventKind) (o t d : Byte) (a : Word) : (logEvent s k o t d a).aborted = s.aborted := by unfold logEvent; split <;> rfl
@[simp] theorem logEvent_irqA (s : State) (k : EventKind) (o t d : Byte) (a : Word) : (logEvent s k o t d a).irqA = s.irqA := by unfold logEvent; split <;> rfl
@[simp] theorem logEvent_irqM (s : State) (k : EventKind) (o t d : Byte) (a : Word) : (logEvent s k o t d a).irqM = s.irqM := by unfold logEvent; split <;> rfl
@[simp] theorem logEvent_pending (s : State) (k : EventKind) (o t d : Byte) (a : Word) : (logEvent s k o t d a).pending = s.pending := by unfold logEvent; split <;> rfl
@[simp] theorem logEvent_arriving (s : State) (k : EventKind) (o t d : Byte) (a : Word) : (logEvent s k o t d a).arriving = s.arriving := by unfold logEvent; split <;> rfl
@[simp] theorem logEvent_instantLeft (s : State) (k : EventKind) (o t d : Byte) (a : Word) : (logEvent s k o t d a).instantLeft = s.instantLeft := by unfold logEvent; split <;> rfl

/-! `releaseBuffer` -/

@[simp] theorem releaseBuffer_power (s : State) (b : Option (Fin 6)) : (releaseBuffer s b).power = s.power := by cases b <;> rfl
@[simp] theorem releaseBuffer_resetN (s : State) (b : Option (Fin 6)) : (releaseBuffer s b).resetN = s.resetN := by cases b <;> rfl
@[simp] theorem releaseBuffer_guardN (s : State) (b : Option (Fin 6)) : (releaseBuffer s b).guardN = s.guardN := by cases b <;> rfl
@[simp] theorem releaseBuffer_portA (s : State) (b : Option (Fin 6)) : (releaseBuffer s b).portA = s.portA := by cases b <;> rfl
@[simp] theorem releaseBuffer_portM (s : State) (b : Option (Fin 6)) : (releaseBuffer s b).portM = s.portM := by cases b <;> rfl
@[simp] theorem releaseBuffer_array (s : State) (b : Option (Fin 6)) : (releaseBuffer s b).array = s.array := by cases b <;> rfl
@[simp] theorem releaseBuffer_queue (s : State) (b : Option (Fin 6)) : (releaseBuffer s b).queue = s.queue := by cases b <;> rfl
@[simp] theorem releaseBuffer_suspend (s : State) (b : Option (Fin 6)) : (releaseBuffer s b).suspend = s.suspend := by cases b <;> rfl
@[simp] theorem releaseBuffer_quantum (s : State) (b : Option (Fin 6)) : (releaseBuffer s b).quantum = s.quantum := by cases b <;> rfl
@[simp] theorem releaseBuffer_hold (s : State) (b : Option (Fin 6)) : (releaseBuffer s b).hold = s.hold := by cases b <;> rfl
@[simp] theorem releaseBuffer_slot0 (s : State) (b : Option (Fin 6)) : (releaseBuffer s b).slot0 = s.slot0 := by cases b <;> rfl
@[simp] theorem releaseBuffer_slot1 (s : State) (b : Option (Fin 6)) : (releaseBuffer s b).slot1 = s.slot1 := by cases b <;> rfl
@[simp] theorem releaseBuffer_watchdog (s : State) (b : Option (Fin 6)) : (releaseBuffer s b).watchdog = s.watchdog := by cases b <;> rfl
@[simp] theorem releaseBuffer_started (s : State) (b : Option (Fin 6)) : (releaseBuffer s b).started = s.started := by cases b <;> rfl
@[simp] theorem releaseBuffer_activeImage (s : State) (b : Option (Fin 6)) : (releaseBuffer s b).activeImage = s.activeImage := by cases b <;> rfl
@[simp] theorem releaseBuffer_stagingImage (s : State) (b : Option (Fin 6)) : (releaseBuffer s b).stagingImage = s.stagingImage := by cases b <;> rfl
@[simp] theorem releaseBuffer_dirty (s : State) (b : Option (Fin 6)) : (releaseBuffer s b).dirty = s.dirty := by cases b <;> rfl
@[simp] theorem releaseBuffer_validation (s : State) (b : Option (Fin 6)) : (releaseBuffer s b).validation = s.validation := by cases b <;> rfl
@[simp] theorem releaseBuffer_store0 (s : State) (b : Option (Fin 6)) : (releaseBuffer s b).store0 = s.store0 := by cases b <;> rfl
@[simp] theorem releaseBuffer_store1 (s : State) (b : Option (Fin 6)) : (releaseBuffer s b).store1 = s.store1 := by cases b <;> rfl
@[simp] theorem releaseBuffer_class0 (s : State) (b : Option (Fin 6)) : (releaseBuffer s b).class0 = s.class0 := by cases b <;> rfl
@[simp] theorem releaseBuffer_class1 (s : State) (b : Option (Fin 6)) : (releaseBuffer s b).class1 = s.class1 := by cases b <;> rfl
@[simp] theorem releaseBuffer_selected (s : State) (b : Option (Fin 6)) : (releaseBuffer s b).selected = s.selected := by cases b <;> rfl
@[simp] theorem releaseBuffer_generation (s : State) (b : Option (Fin 6)) : (releaseBuffer s b).generation = s.generation := by cases b <;> rfl
@[simp] theorem releaseBuffer_commitRun (s : State) (b : Option (Fin 6)) : (releaseBuffer s b).commitRun = s.commitRun := by cases b <;> rfl
@[simp] theorem releaseBuffer_fuse (s : State) (b : Option (Fin 6)) : (releaseBuffer s b).fuse = s.fuse := by cases b <;> rfl
@[simp] theorem releaseBuffer_sessionLock (s : State) (b : Option (Fin 6)) : (releaseBuffer s b).sessionLock = s.sessionLock := by cases b <;> rfl
@[simp] theorem releaseBuffer_sealStore (s : State) (b : Option (Fin 6)) : (releaseBuffer s b).sealStore = s.sealStore := by cases b <;> rfl
@[simp] theorem releaseBuffer_sealLocks (s : State) (b : Option (Fin 6)) : (releaseBuffer s b).sealLocks = s.sealLocks := by cases b <;> rfl
@[simp] theorem releaseBuffer_jobs (s : State) (b : Option (Fin 6)) : (releaseBuffer s b).jobs = s.jobs := by cases b <;> rfl
@[simp] theorem releaseBuffer_engine (s : State) (b : Option (Fin 6)) : (releaseBuffer s b).engine = s.engine := by cases b <;> rfl
@[simp] theorem releaseBuffer_current (s : State) (b : Option (Fin 6)) : (releaseBuffer s b).current = s.current := by cases b <;> rfl
@[simp] theorem releaseBuffer_cursor (s : State) (b : Option (Fin 6)) : (releaseBuffer s b).cursor = s.cursor := by cases b <;> rfl
@[simp] theorem releaseBuffer_crc (s : State) (b : Option (Fin 6)) : (releaseBuffer s b).crc = s.crc := by cases b <;> rfl
@[simp] theorem releaseBuffer_jobIdNext (s : State) (b : Option (Fin 6)) : (releaseBuffer s b).jobIdNext = s.jobIdNext := by cases b <;> rfl
@[simp] theorem releaseBuffer_jobAttn (s : State) (b : Option (Fin 6)) : (releaseBuffer s b).jobAttn = s.jobAttn := by cases b <;> rfl
@[simp] theorem releaseBuffer_log (s : State) (b : Option (Fin 6)) : (releaseBuffer s b).log = s.log := by cases b <;> rfl
@[simp] theorem releaseBuffer_seqNext (s : State) (b : Option (Fin 6)) : (releaseBuffer s b).seqNext = s.seqNext := by cases b <;> rfl
@[simp] theorem releaseBuffer_overflow (s : State) (b : Option (Fin 6)) : (releaseBuffer s b).overflow = s.overflow := by cases b <;> rfl
@[simp] theorem releaseBuffer_aborted (s : State) (b : Option (Fin 6)) : (releaseBuffer s b).aborted = s.aborted := by cases b <;> rfl
@[simp] theorem releaseBuffer_irqA (s : State) (b : Option (Fin 6)) : (releaseBuffer s b).irqA = s.irqA := by cases b <;> rfl
@[simp] theorem releaseBuffer_irqM (s : State) (b : Option (Fin 6)) : (releaseBuffer s b).irqM = s.irqM := by cases b <;> rfl
@[simp] theorem releaseBuffer_pending (s : State) (b : Option (Fin 6)) : (releaseBuffer s b).pending = s.pending := by cases b <;> rfl
@[simp] theorem releaseBuffer_arriving (s : State) (b : Option (Fin 6)) : (releaseBuffer s b).arriving = s.arriving := by cases b <;> rfl
@[simp] theorem releaseBuffer_instantLeft (s : State) (b : Option (Fin 6)) : (releaseBuffer s b).instantLeft = s.instantLeft := by cases b <;> rfl

/-! `takeFree` -/

@[simp] theorem takeFree_power (s : State) (o : Origin) (d : Memory) : (takeFree s o d).power = s.power := by unfold takeFree; split <;> rfl
@[simp] theorem takeFree_resetN (s : State) (o : Origin) (d : Memory) : (takeFree s o d).resetN = s.resetN := by unfold takeFree; split <;> rfl
@[simp] theorem takeFree_guardN (s : State) (o : Origin) (d : Memory) : (takeFree s o d).guardN = s.guardN := by unfold takeFree; split <;> rfl
@[simp] theorem takeFree_portA (s : State) (o : Origin) (d : Memory) : (takeFree s o d).portA = s.portA := by unfold takeFree; split <;> rfl
@[simp] theorem takeFree_portM (s : State) (o : Origin) (d : Memory) : (takeFree s o d).portM = s.portM := by unfold takeFree; split <;> rfl
@[simp] theorem takeFree_array (s : State) (o : Origin) (d : Memory) : (takeFree s o d).array = s.array := by unfold takeFree; split <;> rfl
@[simp] theorem takeFree_queue (s : State) (o : Origin) (d : Memory) : (takeFree s o d).queue = s.queue := by unfold takeFree; split <;> rfl
@[simp] theorem takeFree_suspend (s : State) (o : Origin) (d : Memory) : (takeFree s o d).suspend = s.suspend := by unfold takeFree; split <;> rfl
@[simp] theorem takeFree_quantum (s : State) (o : Origin) (d : Memory) : (takeFree s o d).quantum = s.quantum := by unfold takeFree; split <;> rfl
@[simp] theorem takeFree_hold (s : State) (o : Origin) (d : Memory) : (takeFree s o d).hold = s.hold := by unfold takeFree; split <;> rfl
@[simp] theorem takeFree_slot0 (s : State) (o : Origin) (d : Memory) : (takeFree s o d).slot0 = s.slot0 := by unfold takeFree; split <;> rfl
@[simp] theorem takeFree_slot1 (s : State) (o : Origin) (d : Memory) : (takeFree s o d).slot1 = s.slot1 := by unfold takeFree; split <;> rfl
@[simp] theorem takeFree_watchdog (s : State) (o : Origin) (d : Memory) : (takeFree s o d).watchdog = s.watchdog := by unfold takeFree; split <;> rfl
@[simp] theorem takeFree_started (s : State) (o : Origin) (d : Memory) : (takeFree s o d).started = s.started := by unfold takeFree; split <;> rfl
@[simp] theorem takeFree_activeImage (s : State) (o : Origin) (d : Memory) : (takeFree s o d).activeImage = s.activeImage := by unfold takeFree; split <;> rfl
@[simp] theorem takeFree_stagingImage (s : State) (o : Origin) (d : Memory) : (takeFree s o d).stagingImage = s.stagingImage := by unfold takeFree; split <;> rfl
@[simp] theorem takeFree_dirty (s : State) (o : Origin) (d : Memory) : (takeFree s o d).dirty = s.dirty := by unfold takeFree; split <;> rfl
@[simp] theorem takeFree_validation (s : State) (o : Origin) (d : Memory) : (takeFree s o d).validation = s.validation := by unfold takeFree; split <;> rfl
@[simp] theorem takeFree_store0 (s : State) (o : Origin) (d : Memory) : (takeFree s o d).store0 = s.store0 := by unfold takeFree; split <;> rfl
@[simp] theorem takeFree_store1 (s : State) (o : Origin) (d : Memory) : (takeFree s o d).store1 = s.store1 := by unfold takeFree; split <;> rfl
@[simp] theorem takeFree_class0 (s : State) (o : Origin) (d : Memory) : (takeFree s o d).class0 = s.class0 := by unfold takeFree; split <;> rfl
@[simp] theorem takeFree_class1 (s : State) (o : Origin) (d : Memory) : (takeFree s o d).class1 = s.class1 := by unfold takeFree; split <;> rfl
@[simp] theorem takeFree_selected (s : State) (o : Origin) (d : Memory) : (takeFree s o d).selected = s.selected := by unfold takeFree; split <;> rfl
@[simp] theorem takeFree_generation (s : State) (o : Origin) (d : Memory) : (takeFree s o d).generation = s.generation := by unfold takeFree; split <;> rfl
@[simp] theorem takeFree_commitRun (s : State) (o : Origin) (d : Memory) : (takeFree s o d).commitRun = s.commitRun := by unfold takeFree; split <;> rfl
@[simp] theorem takeFree_fuse (s : State) (o : Origin) (d : Memory) : (takeFree s o d).fuse = s.fuse := by unfold takeFree; split <;> rfl
@[simp] theorem takeFree_sessionLock (s : State) (o : Origin) (d : Memory) : (takeFree s o d).sessionLock = s.sessionLock := by unfold takeFree; split <;> rfl
@[simp] theorem takeFree_sealStore (s : State) (o : Origin) (d : Memory) : (takeFree s o d).sealStore = s.sealStore := by unfold takeFree; split <;> rfl
@[simp] theorem takeFree_sealLocks (s : State) (o : Origin) (d : Memory) : (takeFree s o d).sealLocks = s.sealLocks := by unfold takeFree; split <;> rfl
@[simp] theorem takeFree_jobs (s : State) (o : Origin) (d : Memory) : (takeFree s o d).jobs = s.jobs := by unfold takeFree; split <;> rfl
@[simp] theorem takeFree_engine (s : State) (o : Origin) (d : Memory) : (takeFree s o d).engine = s.engine := by unfold takeFree; split <;> rfl
@[simp] theorem takeFree_current (s : State) (o : Origin) (d : Memory) : (takeFree s o d).current = s.current := by unfold takeFree; split <;> rfl
@[simp] theorem takeFree_cursor (s : State) (o : Origin) (d : Memory) : (takeFree s o d).cursor = s.cursor := by unfold takeFree; split <;> rfl
@[simp] theorem takeFree_crc (s : State) (o : Origin) (d : Memory) : (takeFree s o d).crc = s.crc := by unfold takeFree; split <;> rfl
@[simp] theorem takeFree_jobIdNext (s : State) (o : Origin) (d : Memory) : (takeFree s o d).jobIdNext = s.jobIdNext := by unfold takeFree; split <;> rfl
@[simp] theorem takeFree_jobAttn (s : State) (o : Origin) (d : Memory) : (takeFree s o d).jobAttn = s.jobAttn := by unfold takeFree; split <;> rfl
@[simp] theorem takeFree_log (s : State) (o : Origin) (d : Memory) : (takeFree s o d).log = s.log := by unfold takeFree; split <;> rfl
@[simp] theorem takeFree_seqNext (s : State) (o : Origin) (d : Memory) : (takeFree s o d).seqNext = s.seqNext := by unfold takeFree; split <;> rfl
@[simp] theorem takeFree_overflow (s : State) (o : Origin) (d : Memory) : (takeFree s o d).overflow = s.overflow := by unfold takeFree; split <;> rfl
@[simp] theorem takeFree_aborted (s : State) (o : Origin) (d : Memory) : (takeFree s o d).aborted = s.aborted := by unfold takeFree; split <;> rfl
@[simp] theorem takeFree_irqA (s : State) (o : Origin) (d : Memory) : (takeFree s o d).irqA = s.irqA := by unfold takeFree; split <;> rfl
@[simp] theorem takeFree_irqM (s : State) (o : Origin) (d : Memory) : (takeFree s o d).irqM = s.irqM := by unfold takeFree; split <;> rfl
@[simp] theorem takeFree_pending (s : State) (o : Origin) (d : Memory) : (takeFree s o d).pending = s.pending := by unfold takeFree; split <;> rfl
@[simp] theorem takeFree_arriving (s : State) (o : Origin) (d : Memory) : (takeFree s o d).arriving = s.arriving := by unfold takeFree; split <;> rfl
@[simp] theorem takeFree_instantLeft (s : State) (o : Origin) (d : Memory) : (takeFree s o d).instantLeft = s.instantLeft := by unfold takeFree; split <;> rfl

/-! `pushCompletion` -/

@[simp] theorem pushCompletion_power (s : State) (p : Port) (r : Completion) : (pushCompletion s p r).power = s.power := by cases p <;> unfold pushCompletion <;> dsimp only <;> split <;> rfl
@[simp] theorem pushCompletion_resetN (s : State) (p : Port) (r : Completion) : (pushCompletion s p r).resetN = s.resetN := by cases p <;> unfold pushCompletion <;> dsimp only <;> split <;> rfl
@[simp] theorem pushCompletion_guardN (s : State) (p : Port) (r : Completion) : (pushCompletion s p r).guardN = s.guardN := by cases p <;> unfold pushCompletion <;> dsimp only <;> split <;> rfl
@[simp] theorem pushCompletion_array (s : State) (p : Port) (r : Completion) : (pushCompletion s p r).array = s.array := by cases p <;> unfold pushCompletion <;> dsimp only <;> split <;> rfl
@[simp] theorem pushCompletion_pool (s : State) (p : Port) (r : Completion) : (pushCompletion s p r).pool = s.pool := by cases p <;> unfold pushCompletion <;> dsimp only <;> split <;> rfl
@[simp] theorem pushCompletion_queue (s : State) (p : Port) (r : Completion) : (pushCompletion s p r).queue = s.queue := by cases p <;> unfold pushCompletion <;> dsimp only <;> split <;> rfl
@[simp] theorem pushCompletion_suspend (s : State) (p : Port) (r : Completion) : (pushCompletion s p r).suspend = s.suspend := by cases p <;> unfold pushCompletion <;> dsimp only <;> split <;> rfl
@[simp] theorem pushCompletion_quantum (s : State) (p : Port) (r : Completion) : (pushCompletion s p r).quantum = s.quantum := by cases p <;> unfold pushCompletion <;> dsimp only <;> split <;> rfl
@[simp] theorem pushCompletion_hold (s : State) (p : Port) (r : Completion) : (pushCompletion s p r).hold = s.hold := by cases p <;> unfold pushCompletion <;> dsimp only <;> split <;> rfl
@[simp] theorem pushCompletion_slot0 (s : State) (p : Port) (r : Completion) : (pushCompletion s p r).slot0 = s.slot0 := by cases p <;> unfold pushCompletion <;> dsimp only <;> split <;> rfl
@[simp] theorem pushCompletion_slot1 (s : State) (p : Port) (r : Completion) : (pushCompletion s p r).slot1 = s.slot1 := by cases p <;> unfold pushCompletion <;> dsimp only <;> split <;> rfl
@[simp] theorem pushCompletion_watchdog (s : State) (p : Port) (r : Completion) : (pushCompletion s p r).watchdog = s.watchdog := by cases p <;> unfold pushCompletion <;> dsimp only <;> split <;> rfl
@[simp] theorem pushCompletion_started (s : State) (p : Port) (r : Completion) : (pushCompletion s p r).started = s.started := by cases p <;> unfold pushCompletion <;> dsimp only <;> split <;> rfl
@[simp] theorem pushCompletion_activeImage (s : State) (p : Port) (r : Completion) : (pushCompletion s p r).activeImage = s.activeImage := by cases p <;> unfold pushCompletion <;> dsimp only <;> split <;> rfl
@[simp] theorem pushCompletion_stagingImage (s : State) (p : Port) (r : Completion) : (pushCompletion s p r).stagingImage = s.stagingImage := by cases p <;> unfold pushCompletion <;> dsimp only <;> split <;> rfl
@[simp] theorem pushCompletion_dirty (s : State) (p : Port) (r : Completion) : (pushCompletion s p r).dirty = s.dirty := by cases p <;> unfold pushCompletion <;> dsimp only <;> split <;> rfl
@[simp] theorem pushCompletion_validation (s : State) (p : Port) (r : Completion) : (pushCompletion s p r).validation = s.validation := by cases p <;> unfold pushCompletion <;> dsimp only <;> split <;> rfl
@[simp] theorem pushCompletion_store0 (s : State) (p : Port) (r : Completion) : (pushCompletion s p r).store0 = s.store0 := by cases p <;> unfold pushCompletion <;> dsimp only <;> split <;> rfl
@[simp] theorem pushCompletion_store1 (s : State) (p : Port) (r : Completion) : (pushCompletion s p r).store1 = s.store1 := by cases p <;> unfold pushCompletion <;> dsimp only <;> split <;> rfl
@[simp] theorem pushCompletion_class0 (s : State) (p : Port) (r : Completion) : (pushCompletion s p r).class0 = s.class0 := by cases p <;> unfold pushCompletion <;> dsimp only <;> split <;> rfl
@[simp] theorem pushCompletion_class1 (s : State) (p : Port) (r : Completion) : (pushCompletion s p r).class1 = s.class1 := by cases p <;> unfold pushCompletion <;> dsimp only <;> split <;> rfl
@[simp] theorem pushCompletion_selected (s : State) (p : Port) (r : Completion) : (pushCompletion s p r).selected = s.selected := by cases p <;> unfold pushCompletion <;> dsimp only <;> split <;> rfl
@[simp] theorem pushCompletion_generation (s : State) (p : Port) (r : Completion) : (pushCompletion s p r).generation = s.generation := by cases p <;> unfold pushCompletion <;> dsimp only <;> split <;> rfl
@[simp] theorem pushCompletion_commitRun (s : State) (p : Port) (r : Completion) : (pushCompletion s p r).commitRun = s.commitRun := by cases p <;> unfold pushCompletion <;> dsimp only <;> split <;> rfl
@[simp] theorem pushCompletion_fuse (s : State) (p : Port) (r : Completion) : (pushCompletion s p r).fuse = s.fuse := by cases p <;> unfold pushCompletion <;> dsimp only <;> split <;> rfl
@[simp] theorem pushCompletion_sessionLock (s : State) (p : Port) (r : Completion) : (pushCompletion s p r).sessionLock = s.sessionLock := by cases p <;> unfold pushCompletion <;> dsimp only <;> split <;> rfl
@[simp] theorem pushCompletion_sealStore (s : State) (p : Port) (r : Completion) : (pushCompletion s p r).sealStore = s.sealStore := by cases p <;> unfold pushCompletion <;> dsimp only <;> split <;> rfl
@[simp] theorem pushCompletion_sealLocks (s : State) (p : Port) (r : Completion) : (pushCompletion s p r).sealLocks = s.sealLocks := by cases p <;> unfold pushCompletion <;> dsimp only <;> split <;> rfl
@[simp] theorem pushCompletion_jobs (s : State) (p : Port) (r : Completion) : (pushCompletion s p r).jobs = s.jobs := by cases p <;> unfold pushCompletion <;> dsimp only <;> split <;> rfl
@[simp] theorem pushCompletion_engine (s : State) (p : Port) (r : Completion) : (pushCompletion s p r).engine = s.engine := by cases p <;> unfold pushCompletion <;> dsimp only <;> split <;> rfl
@[simp] theorem pushCompletion_current (s : State) (p : Port) (r : Completion) : (pushCompletion s p r).current = s.current := by cases p <;> unfold pushCompletion <;> dsimp only <;> split <;> rfl
@[simp] theorem pushCompletion_cursor (s : State) (p : Port) (r : Completion) : (pushCompletion s p r).cursor = s.cursor := by cases p <;> unfold pushCompletion <;> dsimp only <;> split <;> rfl
@[simp] theorem pushCompletion_crc (s : State) (p : Port) (r : Completion) : (pushCompletion s p r).crc = s.crc := by cases p <;> unfold pushCompletion <;> dsimp only <;> split <;> rfl
@[simp] theorem pushCompletion_jobIdNext (s : State) (p : Port) (r : Completion) : (pushCompletion s p r).jobIdNext = s.jobIdNext := by cases p <;> unfold pushCompletion <;> dsimp only <;> split <;> rfl
@[simp] theorem pushCompletion_jobAttn (s : State) (p : Port) (r : Completion) : (pushCompletion s p r).jobAttn = s.jobAttn := by cases p <;> unfold pushCompletion <;> dsimp only <;> split <;> rfl
@[simp] theorem pushCompletion_log (s : State) (p : Port) (r : Completion) : (pushCompletion s p r).log = s.log := by cases p <;> unfold pushCompletion <;> dsimp only <;> split <;> rfl
@[simp] theorem pushCompletion_seqNext (s : State) (p : Port) (r : Completion) : (pushCompletion s p r).seqNext = s.seqNext := by cases p <;> unfold pushCompletion <;> dsimp only <;> split <;> rfl
@[simp] theorem pushCompletion_overflow (s : State) (p : Port) (r : Completion) : (pushCompletion s p r).overflow = s.overflow := by cases p <;> unfold pushCompletion <;> dsimp only <;> split <;> rfl
@[simp] theorem pushCompletion_aborted (s : State) (p : Port) (r : Completion) : (pushCompletion s p r).aborted = s.aborted := by cases p <;> unfold pushCompletion <;> dsimp only <;> split <;> rfl
@[simp] theorem pushCompletion_irqA (s : State) (p : Port) (r : Completion) : (pushCompletion s p r).irqA = s.irqA := by cases p <;> unfold pushCompletion <;> dsimp only <;> split <;> rfl
@[simp] theorem pushCompletion_irqM (s : State) (p : Port) (r : Completion) : (pushCompletion s p r).irqM = s.irqM := by cases p <;> unfold pushCompletion <;> dsimp only <;> split <;> rfl
@[simp] theorem pushCompletion_pending (s : State) (p : Port) (r : Completion) : (pushCompletion s p r).pending = s.pending := by cases p <;> unfold pushCompletion <;> dsimp only <;> split <;> rfl
@[simp] theorem pushCompletion_arriving (s : State) (p : Port) (r : Completion) : (pushCompletion s p r).arriving = s.arriving := by cases p <;> unfold pushCompletion <;> dsimp only <;> split <;> rfl
@[simp] theorem pushCompletion_instantLeft (s : State) (p : Port) (r : Completion) : (pushCompletion s p r).instantLeft = s.instantLeft := by cases p <;> unfold pushCompletion <;> dsimp only <;> split <;> rfl

end Sys2Proof.Machine
end

