-- ==== Sys2Proof/Laws/Ops.lean ====
section
/-! SUPPORT. One lemma for each shared operation: what it can do, and what it leaves. -/

namespace Sys2Proof.Machine

/-! ### Ports and slots -/

@[simp] theorem port_a (s : State) : s.port .a = s.portA := rfl
@[simp] theorem port_m (s : State) : s.port .m = s.portM := rfl

@[simp] theorem port_setPort_same (s : State) (p : Port) (ps : PortState) :
    (s.setPort p ps).port p = ps := by cases p <;> rfl

@[simp] theorem port_setPort_other (s : State) (p : Port) (ps : PortState) :
    (s.setPort p ps).port (otherPort p) = s.port (otherPort p) := by cases p <;> rfl

theorem port_setPort_ne (s : State) {p q : Port} (ps : PortState) (h : q ≠ p) :
    (s.setPort p ps).port q = s.port q := by cases p <;> cases q <;> first | rfl | exact absurd rfl h

@[simp] theorem setPort_setPort (s : State) (p : Port) (ps qs : PortState) :
    (s.setPort p ps).setPort p qs = s.setPort p qs := by cases p <;> rfl

@[simp] theorem setPort_port_self (s : State) (p : Port) : s.setPort p (s.port p) = s := by
  cases p <;> rfl

@[simp] theorem slot_setPort (s : State) (p : Port) (ps : PortState) (i : SlotId) :
    (s.setPort p ps).slot i = s.slot i := by cases p <;> rfl

@[simp] theorem port_setSlot (s : State) (p : Port) (i : SlotId) (sl : MailSlot) :
    (s.setSlot i sl).port p = s.port p := by cases p <;> cases i <;> rfl

@[simp] theorem slot_setSlot_same (s : State) (i : SlotId) (sl : MailSlot) :
    (s.setSlot i sl).slot i = sl := by cases i <;> rfl

theorem slot_setSlot_ne (s : State) {i j : SlotId} (sl : MailSlot) (h : j ≠ i) :
    (s.setSlot i sl).slot j = s.slot j := by cases i <;> cases j <;> first | rfl | exact absurd rfl h

@[simp] theorem portA_setSlot (s : State) (i : SlotId) (sl : MailSlot) :
    (s.setSlot i sl).portA = s.portA := by cases i <;> rfl

/-! ### Events and records -/

@[simp] theorem port_logEvent (s : State) (k : EventKind) (o t d : Byte) (a : Word) (p : Port) :
    (logEvent s k o t d a).port p = s.port p := by cases p <;> simp [State.port]

@[simp] theorem slot_logEvent (s : State) (k : EventKind) (o t d : Byte) (a : Word) (i : SlotId) :
    (logEvent s k o t d a).slot i = s.slot i := by cases i <;> simp [State.slot]

@[simp] theorem port_releaseBuffer (s : State) (b : Option (Fin 6)) (p : Port) :
    (releaseBuffer s b).port p = s.port p := by cases p <;> simp [State.port]

@[simp] theorem slot_releaseBuffer (s : State) (b : Option (Fin 6)) (i : SlotId) :
    (releaseBuffer s b).slot i = s.slot i := by cases i <;> simp [State.slot]

@[simp] theorem slot_pushCompletion (s : State) (p : Port) (r : Completion) (i : SlotId) :
    (pushCompletion s p r).slot i = s.slot i := by cases i <;> simp [State.slot]

@[simp] theorem port_driveIrq (s : State) (p : Port) : (driveIrq s).port p = s.port p := by
  cases p <;> rfl

@[simp] theorem slot_driveIrq (s : State) (i : SlotId) : (driveIrq s).slot i = s.slot i := by
  cases i <;> rfl

@[simp] theorem irqLow_driveIrq (s : State) (p : Port) : irqLow (driveIrq s) p = irqLow s p := by
  cases p <;> rfl

@[simp] theorem operating_driveIrq (s : State) : operating (driveIrq s) = operating s := rfl

/-- At the end of an instant the outputs stand at the level of their causes (R159). -/
theorem outputsRight_driveIrq {s : State} (h : instantEnds s = true) : OutputsRight (driveIrq s) := by
  simp [OutputsRight, driveIrq, h]
  exact ⟨rfl, rfl⟩

/-- Within an instant the outputs keep their level (R159). -/
theorem driveIrq_within {s : State} (h : instantEnds s = false) :
    (driveIrq s).irqA = s.irqA ∧ (driveIrq s).irqM = s.irqM := by
  simp [driveIrq, h]

/-! ### The inbound latch -/

/-- The discard of a port's latch is a change of that port's own state (R7). -/
@[simp] theorem port_discardLatch (s : State) (p : Port) :
    (discardLatch s p).port p = { s.port p with latch := [], received := 0 } := by
  simp [discardLatch]

/-- A refusal has already discarded the latch (R7, R10). -/
@[simp] theorem discardLatch_refuse (s : State) (p : Port) (code : RefusalCode) :
    discardLatch (refuse s p code) p = refuse s p code := by
  simp [discardLatch, refuse]

/-- What a record placed in a port's FIFO does to that port (R154). -/
theorem port_pushCompletion_same (s : State) (p : Port) (r : Completion) :
    ∃ sel fifo lost, (pushCompletion s p r).port p
        = { s.port p with sel := sel, fifo := fifo, completionLost := lost }
      ∧ (sel = (s.port p).sel ∨ sel = noteLoss (s.port p).sel)
      ∧ fifo.length ≤ max (s.port p).fifo.length Config.fifoDepth := by
  unfold pushCompletion
  dsimp only
  split
  · rename_i h
    refine ⟨(s.port p).sel, (s.port p).fifo ++ [r], (s.port p).completionLost, ?_, .inl rfl, ?_⟩
    · simp
    · simp only [List.length_append, List.length_singleton]; omega
  · refine ⟨noteLoss (s.port p).sel, (s.port p).fifo.drop 1 ++ [r], true, ?_, .inr rfl, ?_⟩
    · simp
    · simp [Config.fifoDepth] at *; omega

/-- A record placed in a port's FIFO leaves the other port (R83). -/
theorem port_pushCompletion_ne (s : State) {p q : Port} (r : Completion) (h : q ≠ p) :
    (pushCompletion s p r).port q = s.port q := by
  unfold pushCompletion
  dsimp only
  split <;> exact port_setPort_ne s _ h

/-- A noted loss leaves the transaction as it is for the port's framing (R4). -/
theorem noteLoss_cases (sel : Sel) :
    (∀ tx, sel ≠ .opened tx) ∧ noteLoss sel = sel
      ∨ ∃ tx d, sel = .opened tx
        ∧ noteLoss sel = .opened { tx with lostSince := true, delivery := d } := by
  cases sel with
  | high => exact .inl ⟨by simp, rfl⟩
  | ignored => exact .inl ⟨by simp, rfl⟩
  | opened tx => exact .inr ⟨tx, _, rfl, rfl⟩

/-! ### Transactions -/

/-- Bytes taken in one by one stand after those taken in before, and bring the port to some state of R4;
nothing else of the transaction changes (R2, R4). -/
theorem foldl_receiveByte (p : Port) (bs : List Byte) (tx : Tx) : ∃ phase,
    bs.foldl (receiveByte p) tx = { tx with wire := tx.wire ++ bs, phase := phase } := by
  induction bs generalizing tx with
  | nil => exact ⟨tx.phase, by simp⟩
  | cons b bs ih =>
    obtain ⟨phase, h⟩ := ih (receiveByte p tx b)
    exact ⟨phase, by simpa [receiveByte] using h⟩

/-- What taking in the bytes of a transaction can do (R2, R4). -/
theorem receiveWire_eq (p : Port) (tx : Tx) (wire : List Byte) : ∃ phase,
    receiveWire p tx wire
      = { tx with wire := tx.wire ++ wire.drop tx.wire.length, phase := phase } :=
  foldl_receiveByte p _ tx

/-- What taking in bytes can do to a port: its transaction, and continuation OFF (R13). -/
@[simp] theorem port_receiveBytes (s : State) (p : Port) (tx : Tx) (wire : List Byte) :
    (receiveBytes s p tx wire).port p = { s.port p with
      sel := .opened (receiveWire p tx wire)
      contArmed := (s.port p).contArmed && !leavesContinuation (receiveWire p tx wire) } := by
  simp [receiveBytes]

/-- The begin of a transaction leaves a state that is not selected anew as it was (R2). -/
theorem beginTransaction_of_opened {s : State} {p : Port} {tx : Tx}
    (h : (s.port p).sel = .opened tx) : beginTransaction s p = s := by
  simp [beginTransaction, h]

theorem beginTransaction_of_ignored {s : State} {p : Port}
    (h : (s.port p).sel = .ignored) : beginTransaction s p = s := by
  simp [beginTransaction, h]

/-- A live transaction ends: the row's own effect where it fits, nothing where it does not (R10). -/
theorem endTransaction_of_live {s : State} {p : Port} {tx : Tx} (h : Live s p tx)
    (fits : Tx → Bool) (act : Tx → State → State) :
    endTransaction s p fits act
      = if fits tx then finish (act tx (ended s p)) else finish s := by
  obtain ⟨hp, ⟨hs, rfl⟩ | ⟨hs, hd⟩⟩ := h
  · simp [endTransaction, beginTransaction, ended, hs, hp, sampleTx]
  · simp [endTransaction, beginTransaction_of_opened hs, ended, hs, hp, hd]

/-- A request that is delivered in a live transaction (R8, R9, R10). -/
theorem requestEnd_of_delivered {s : State} {p : Port} {c : Command} {tx : Tx}
    (h : Delivered s p c tx) (f : Frame) (decide : Tx → State → State) :
    requestEnd s p c f decide = finish
      (if recognises p c = false then refuse (ended s p) p .unknownCommand
       else if torn c f = true then refuseTorn (ended s p) p c
       else decide tx (ended s p)) := by
  rw [requestEnd, endTransaction_of_live h.1, if_pos h.2]
  cases recognises p c <;> simp

/-- A whole request reaches its decision (R10). -/
theorem requestEnd_of_arrives {s : State} {p : Port} {c : Command} {f : Frame}
    (h : Arrives s p c f) (decide : State → State) :
    requestEnd s p c f (fun _ => decide) = finish (decide (ended s p)) := by
  obtain ⟨tx, hd, hr, ht⟩ := h
  simp [requestEnd_of_delivered hd, hr, ht]

/-- A read that is delivered in a live transaction (R8, R9, R10). -/
theorem readEnd_of_delivered {s : State} {p : Port} {c : Command} {tx : Tx}
    (h : Delivered s p c tx) (f : Frame) (act : Tx → List Byte → State → State) :
    readEnd s p c f act = finish
      (if recognises p c = false then refuse (ended s p) p .unknownCommand
       else if frameComplete c (readFrame tx 1 f) = true then
         act tx (readFrame tx 1 f) (ended s p)
       else ended s p) := by
  rw [readEnd, endTransaction_of_live h.1, if_pos h.2]
  cases recognises p c <;> simp

/-- What the end of a live transaction leaves before its own effect (R12, R14). -/
theorem ended_of_live {s : State} {p : Port} {tx : Tx} (h : Live s p tx) :
    ∃ latch received, ended s p = s.setPort p { s.port p with
        sel := .high, driven := none, contArmed := false, resetArmed := false
        latch := latch, received := received } := by
  obtain ⟨hp, ⟨hs, rfl⟩ | ⟨hs, hd⟩⟩ := h
  · exact ⟨[], 0, by simp [ended, closeTransaction, beginTransaction, hs, hp]⟩
  · exact ⟨_, _, by simp [ended, closeTransaction, beginTransaction_of_opened hs]; rfl⟩

/-- Every way in which a transaction's end can come out (R2, R10, R168): nothing, the selection alone, or
the row's effect on the ended state. -/
theorem endTransaction_cases (s : State) (p : Port) (fits : Tx → Bool)
    (act : Tx → State → State) :
    endTransaction s p fits act = finish s
      ∨ endTransaction s p fits act = finish (beginTransaction s p)
      ∨ endTransaction s p fits act = finish (deselect (beginTransaction s p) p)
      ∨ ∃ tx, Live s p tx ∧ fits tx = true
        ∧ endTransaction s p fits act = finish (act tx (ended s p)) := by
  unfold endTransaction
  dsimp only
  cases hb : ((beginTransaction s p).port p).sel with
  | high => exact .inr (.inl rfl)
  | ignored => exact .inr (.inr (.inl rfl))
  | opened tx =>
    dsimp only
    split
    · exact .inr (.inr (.inl rfl))
    · rename_i hc
      split
      · rename_i hf
        refine .inr (.inr (.inr ⟨tx, ?_, hf, rfl⟩))
        simp only [Bool.or_eq_true, not_or, bne_iff_ne, ne_eq, Bool.not_eq_true, not_not] at hc
        cases hs : (s.port p).sel with
        | high =>
          have hb' := hb
          unfold beginTransaction at hb' hc
          simp only [hs] at hb' hc
          cases hp : s.power with
          | active =>
            simp only [hp, port_setPort_same, Sel.opened.injEq] at hb'
            exact ⟨hp, .inl ⟨hs, hb'.symm⟩⟩
          | dormant => simp [hp, State.setPort_power] at hc
          | off => simp [hp] at hb'
          | waiting => simp [hp] at hb'
          | inReset => simp [hp] at hb'
        | ignored => rw [beginTransaction_of_ignored hs] at hb; simp [hs] at hb
        | opened tx' =>
          rw [beginTransaction_of_opened hs] at hb hc
          rw [hs] at hb
          cases hb
          exact ⟨hc.2, .inr ⟨hs, hc.1⟩⟩
      · exact .inl rfl

/-! The tick and the timers started at its instant (R15) -/

@[simp] theorem tickTimer_started (t : Option Nat) : tickTimer true t = t := rfl
@[simp] theorem tickTimer_running (t : Option Nat) : tickTimer false t = t.map (· - 1) := rfl
@[simp] theorem tickWatchdog_started (w : Watchdog) : tickWatchdog true w = w := by simp [tickWatchdog]

/-- All that a start of the countdown changes (R106). -/
theorem startWatchdog_eq (s : State) : startWatchdog s =
    { s with watchdog := armedWatchdog s, started := { s.started with watchdog := true } } := rfl

/-- All that a tick changes in an ACTIVE device, and that it changes nothing in any other (R15, R167). -/
theorem execTick_frame (s : State) : ∃ slot0 slot1 quantum hold watchdog,
    execTick s = finish { s with slot0, slot1, quantum, hold, watchdog }
      ∧ (s.power ≠ .active → execTick s = finish s) := by
  unfold execTick
  split
  · exact ⟨_, _, _, _, _, rfl, fun h => absurd ‹_› h⟩
  · exact ⟨s.slot0, s.slot1, s.quantum, s.hold, s.watchdog, rfl, fun _ => rfl⟩

end Sys2Proof.Machine
end

