-- ==== Sys2Proof/Laws/Dispatch.lean ====
section
/-! SUPPORT. What the dispatch does with whole groups of commands. -/

namespace Sys2Proof.Machine

/-- Every request goes through `requestEnd` (R10). -/
theorem exec_request {i : Instr} {p : Port} {c : Command} {f : Frame}
    (h : requestOf i = some (p, c, f)) :
    ∃ act : Tx → State → State, ∀ s, exec i s = requestEnd s p c f act := by
  cases i <;> simp only [requestOf, Option.some.injEq, Prod.mk.injEq, reduceCtorEq] at h <;>
    obtain ⟨rfl, rfl, rfl⟩ := h <;> simp only [exec,
    execArmWrite, execDisarmWrite, execPageProgram, execSectorErase, execBlockErase, execSuspend,
    execResume, execCancel, execSetLanes, execSetWait, execSetWrap, execSetIrqMask, execResetArm,
    execResetPort, execDormant, execTableWriteEntry, execTableClearEntry, execStageFromActive,
    execCommit, execSwapViews, execSettingsWriteStaged, execSettingsWriteLive, execLockSession,
    execMailboxRelease, execMailboxRedirect, execMailboxDeny, execMailboxDataWrite,
    execHeartbeat, execJobLoad, execJobStart, execJobPause, execJobAbort, execJobClear,
    execSealProgram, execSealLock, execGuardFuse] <;>
    exact ⟨_, fun _ => rfl⟩

/-- Every read with a command byte goes through `readEnd` (R10). -/
theorem exec_read {i : Instr} {p : Port} {c : Command} {f : Frame}
    (h : readOf i = some (p, c, f)) :
    ∃ act : Tx → List Byte → State → State, ∀ s, exec i s = readEnd s p c f act := by
  cases i <;> simp only [readOf, Option.some.injEq, Prod.mk.injEq, reduceCtorEq] at h <;>
    obtain ⟨rfl, rfl, rfl⟩ := h <;> simp only [exec,
    execRead, execWrapRead, execStreamRead, execReadSeal, execReadPortStatus,
    execReadCompletions, execIdentify, execTableRead, execSettingsRead, execMailboxRead,
    execMailboxDataRead, execJobRead, execEventRead, execEventPeek] <;>
    exact ⟨_, fun _ => rfl⟩

end Sys2Proof.Machine
end

