-- ==== Sys2Proof/Laws/Image.lean ====
section
/-! SUPPORT. The CRC-32 and the byte order of the configuration image. -/

namespace Sys2Proof.Machine

/-- `withValue` hands the word on as it is. -/
@[simp] theorem withValue_eq {α : Type} (w : Word) (k : Word → α) : withValue w k = k w := by
  unfold withValue
  split
  · rename_i h
    rw [show w = 0#32 from BitVec.eq_of_toNat_eq h]
  · rename_i n h
    rw [show n + 1 = w.toNat from h.symm]; simp

@[simp] theorem crcRun_nil (r : Word) : crcRun r [] = r := rfl

@[simp] theorem crcRun_cons (r : Word) (b : Byte) (bs : List Byte) :
    crcRun r (b :: bs) = crcRun (crcByte r b) bs := by
  simp [crcRun]

/-- A word written most significant byte first reads back (00_scope section 4.5). -/
theorem be32_bytes32 (w : Word) (bs : List Byte) : be32 (bytes32 w ++ bs) 0 = w := by
  simp only [be32, be16, byteAt, bytes32, List.cons_append, List.nil_append,
    List.getD_eq_getElem?_getD, List.getElem?_cons_zero, List.getElem?_cons_succ, Option.getD_some,
    Nat.zero_add]
  ext i hi
  simp only [BitVec.getElem_append, BitVec.getElem_extractLsb']
  repeat' split
  all_goals
    rw [← BitVec.getLsbD_eq_getElem]
    congr 1
    omega

/-- A half word written most significant byte first reads back. -/
theorem be16_bytes16 (h : Half) (bs : List Byte) : be16 (bytes16 h ++ bs) 0 = h := by
  simp only [be16, byteAt, bytes16, List.cons_append, List.nil_append,
    List.getD_eq_getElem?_getD, List.getElem?_cons_zero, List.getElem?_cons_succ, Option.getD_some,
    Nat.zero_add]
  ext i hi
  simp only [BitVec.getElem_append, BitVec.getElem_extractLsb']
  split <;> rw [← BitVec.getLsbD_eq_getElem] <;> congr 1 <;> omega

@[simp] theorem bytes32_length (w : Word) : (bytes32 w).length = 4 := rfl
@[simp] theorem bytes16_length (h : Half) : (bytes16 h).length = 2 := rfl
@[simp] theorem entryBytes_length (e : PartEntry) : (entryBytes e).length = 12 := rfl
@[simp] theorem settingsBytes_length (t : Settings) : (settingsBytes t).length = 13 := rfl

/-- A settings record reads back from its bytes (R132). -/
@[simp] theorem settingsOf_settingsBytes (t : Settings) : settingsOf (settingsBytes t) = t := rfl

@[simp] theorem classify_blankSlot : classify blankSlot = .blank := by decide +kernel

/-- What a commit leaves in a slot that it did not complete is never VALID (R56, R142, R143). -/
theorem unfinishedSlot_not_valid (bs : List Byte) : classify (unfinishedSlot bs) ≠ .valid := by
  unfold unfinishedSlot
  split
  · simp
  · assumption

/-- Bytes that are not those of a VALID slot stay as they are. -/
@[simp] theorem unfinishedSlot_of_not_valid {bs : List Byte} (h : classify bs ≠ .valid) :
    unfinishedSlot bs = bs := if_neg h

/-- The slot keeps its 213 bytes (chapter 8.3). -/
theorem unfinishedSlot_length {bs : List Byte} (h : bs.length = Config.slotBytes) :
    (unfinishedSlot bs).length = Config.slotBytes := by
  unfold unfinishedSlot
  split
  · exact List.length_replicate
  · exact h

/-- The rejected and the accepted write of one byte: an offset past 12 writes nothing (R134). -/
theorem settingsPut_past (t : Settings) {off : Nat} (v : Byte) (h : 12 < off) :
    settingsPut t off v = t := by
  unfold settingsPut
  split <;> first | omega | rfl

end Sys2Proof.Machine
end

