-- ==== Sys2Proof/Laws/Instants.lean ====
section
/-! SUPPORT. The Request Serializer: every event has its place, none is lost or added in the request
order, and what a step without a waiting command does. -/

namespace Sys2Proof.Machine

theorem portPlace_lt (p : Port) (consumption : Bool) : portPlace p consumption < 18 := by
  cases p <;> cases consumption <;> decide

/-- The places of the request order are 0 to 17 (R17). -/
theorem instantPlace_lt (i : Instr) : instantPlace i < 18 := by
  cases i <;> first | exact portPlace_lt _ _ | (rename_i slot; cases slot <;> decide) | exact of_decide_eq_true rfl

/-- An event waits in its instant just when it was given (R17). -/
@[simp] theorem mem_inRequestOrder {events : List Instr} {i : Instr} :
    i ∈ inRequestOrder events ↔ i ∈ events := by
  simp [inRequestOrder, instantPlace_lt]

/-- A step with a command waiting is that command's (R17). -/
@[simp] theorem step_of_pending {s : State} {c : Instr} {rest : List Instr} (h : s.pending = c :: rest) :
    step s = exec c { s with pending := rest } := by simp [step, h]

/-- A step with no command waiting begins the next instant, or idles (R17). -/
@[simp] theorem step_of_idle {s : State} (h : s.pending = []) : step s = .next (nextInstant s) := by
  simp [step, h]

/-- The beginning of an instant changes nothing but what waits (R17). -/
theorem nextInstant_eq (s : State) : ∃ waiting coming n,
    nextInstant s = { s with pending := waiting, arriving := coming, instantLeft := n } := by
  unfold nextInstant beginInstant
  split
  · exact ⟨_, _, _, rfl⟩
  · split
    · exact ⟨_, s.arriving, _, rfl⟩
    · exact ⟨s.pending, s.arriving, s.instantLeft, rfl⟩

end Sys2Proof.Machine
end

