-- ==== Sys2Proof/Laws/Memory.lean ====
section
/-! SUPPORT. The addressed stores: every operation keeps the canonical form, and what a byte reads after it. -/

namespace Sys2Proof.Machine

/-! ### The canonical form -/

theorem memWfFrom_cons (lo : Nat) (c : Host.Cell) (m : Memory) :
    memWfFrom lo (c :: m) = true ↔ lo ≤ c.1 ∧ c.2 ≠ erasedByte ∧ memWfFrom (c.1 + 1) m = true := by
  simp [memWfFrom, and_assoc]

/-- A lower bound can be lowered. -/
theorem memWfFrom_mono {lo lo' : Nat} (hl : lo' ≤ lo) {m : Memory} (h : memWfFrom lo m = true) :
    memWfFrom lo' m = true := by
  cases m with
  | nil => rfl
  | cons c m =>
    rw [memWfFrom_cons] at h ⊢
    exact ⟨hl.trans h.1, h.2⟩

/-- An address below the lower bound is not listed. -/
theorem lookup_below {m : Memory} {lo a : Nat} (h : memWfFrom lo m = true) (ha : a < lo) :
    m.lookup a = none := by
  induction m generalizing lo with
  | nil => rfl
  | cons c m ih =>
    obtain ⟨h1, -, h3⟩ := (memWfFrom_cons lo c m).mp h
    have hne : (a == c.1) = false := by simp; omega
    obtain ⟨k, v⟩ := c
    rw [List.lookup_cons, hne]
    exact ih h3 (by simp only at h1 ⊢; omega)

theorem memRead_below {m : Memory} {lo a : Nat} (h : memWfFrom lo m = true) (ha : a < lo) :
    memRead m a = erasedByte := by
  simp [memRead, lookup_below h ha]

theorem memRead_nil (a : Nat) : memRead [] a = erasedByte := rfl

theorem memRead_cons (c : Host.Cell) (m : Memory) (a : Nat) :
    memRead (c :: m) a = if a = c.1 then c.2 else memRead m a := by
  obtain ⟨k, v⟩ := c
  unfold memRead
  rw [List.lookup_cons]
  by_cases h : a = k
  · simp [h]
  · rw [beq_eq_false_iff_ne.mpr h, if_neg h]

/-- A write keeps the canonical form. -/
theorem memWfFrom_memWrite {m : Memory} {lo a : Nat} (b : Byte) (h : memWfFrom lo m = true)
    (ha : lo ≤ a) : memWfFrom lo (memWrite m a b) = true := by
  induction m generalizing lo with
  | nil =>
    unfold memWrite
    split
    · rfl
    · simp [memWfFrom, *]
  | cons c m ih =>
    obtain ⟨h1, h2, h3⟩ := (memWfFrom_cons lo c m).mp h
    unfold memWrite
    split
    · split
      · exact h
      · rw [memWfFrom_cons]
        exact ⟨ha, ‹_›, (memWfFrom_cons _ c m).mpr ⟨by simp only; omega, h2, h3⟩⟩
    · split
      · split
        · exact memWfFrom_mono (by omega) h3
        · rw [memWfFrom_cons]
          refine ⟨ha, ‹_›, ?_⟩
          simpa [‹a = c.1›] using h3
      · rw [memWfFrom_cons]
        exact ⟨h1, h2, ih h3 (by omega)⟩

theorem memWrite_wf {m : Memory} (a : Nat) (b : Byte) (h : m.wf = true) :
    Memory.wf (memWrite m a b) = true :=
  memWfFrom_memWrite b h (Nat.zero_le a)

/-- A read after a write: the value at the address written, as before everywhere else. -/
theorem memRead_memWrite {m : Memory} {lo : Nat} (h : memWfFrom lo m = true) (a a' : Nat)
    (b : Byte) : memRead (memWrite m a b) a' = if a' = a then b else memRead m a' := by
  induction m generalizing lo with
  | nil =>
    unfold memWrite
    split
    · rename_i hb; subst hb; split <;> rfl
    · rw [memRead_cons]
  | cons c m ih =>
    obtain ⟨h1, h2, h3⟩ := (memWfFrom_cons lo c m).mp h
    unfold memWrite
    split
    · rename_i hlt
      split
      · rename_i hb
        subst hb
        split
        · rename_i he
          subst he
          rw [memRead_cons, if_neg (by omega)]
          exact memRead_below h3 (by omega)
        · rfl
      · rw [memRead_cons]
    · split
      · rename_i hnlt he
        split
        · rename_i hb
          subst hb
          by_cases hc : a' = a
          · rw [if_pos hc]
            exact memRead_below h3 (by omega)
          · rw [if_neg hc, memRead_cons, if_neg (by omega)]
        · rw [memRead_cons, memRead_cons]
          by_cases hc : a' = a
          · simp [hc]
          · rw [if_neg hc, if_neg hc, if_neg (by omega)]
      · rw [memRead_cons, memRead_cons, ih h3]
        by_cases hc : a' = c.1
        · simp only [hc, if_true]; rw [if_neg (by omega)]
        · simp [hc]

theorem memRead_memWrite_same {m : Memory} (h : m.wf = true) (a : Nat) (b : Byte) :
    memRead (memWrite m a b) a = b := by
  rw [memRead_memWrite h, if_pos rfl]

theorem memRead_memWrite_other {m : Memory} (h : m.wf = true) {a a' : Nat} (b : Byte)
    (hn : a' ≠ a) : memRead (memWrite m a b) a' = memRead m a' := by
  rw [memRead_memWrite h, if_neg hn]

/-! ### The operations on whole stores -/

/-- Any run of writes keeps the canonical form. -/
theorem foldl_memWrite_wf (l : List Host.Cell) (f : Memory → Host.Cell → Nat)
    (g : Memory → Host.Cell → Byte) {m : Memory} (h : m.wf = true) :
    Memory.wf (l.foldl (fun m c => memWrite m (f m c) (g m c)) m) = true := by
  induction l generalizing m with
  | nil => exact h
  | cons c l ih => exact ih (memWrite_wf _ _ h)

/-- A program keeps the canonical form (R38). -/
theorem memProgram_wf {m : Memory} (base : Nat) (buf : Memory) (stuck : StuckBits)
    (h : m.wf = true) : Memory.wf (memProgram m base buf stuck) = true :=
  foldl_memWrite_wf buf _ _ h

/-- A buffer filled from a latch is canonical (R37). -/
theorem latchCopy_wf (l : Latch) {buf : Memory} (h : buf.wf = true) :
    Memory.wf (latchCopy l buf) = true :=
  foldl_memWrite_wf l _ _ h

/-- A filter that keeps addresses in order, moved down by `d`, keeps the canonical form. -/
theorem memWfFrom_filterMap (f : Host.Cell → Option Host.Cell) (d : Nat)
    (hf : ∀ c c', f c = some c' → c.2 ≠ erasedByte →
      c'.1 + d = c.1 ∧ c'.2 ≠ erasedByte) {m : Memory} {lo lo' : Nat}
    (h : memWfFrom lo m = true) (hl : lo' + d ≤ lo ∨ lo' = 0) :
    memWfFrom lo' (m.filterMap f) = true := by
  induction m generalizing lo lo' with
  | nil => rfl
  | cons c m ih =>
    obtain ⟨h1, h2, h3⟩ := (memWfFrom_cons lo c m).mp h
    cases hc : f c with
    | none =>
      rw [List.filterMap_cons_none hc]
      exact ih h3 (by omega)
    | some c' =>
      obtain ⟨e1, e2⟩ := hf c c' hc h2
      rw [List.filterMap_cons_some hc, memWfFrom_cons]
      exact ⟨by omega, e2, ih h3 (by omega)⟩

/-- An erase keeps the canonical form (R39). -/
theorem memErase_wf {m : Memory} (base len : Nat) (stuck : StuckBits) (h : m.wf = true) :
    Memory.wf (memErase m base len stuck) = true := by
  refine memWfFrom_filterMap _ 0 ?_ h (.inr rfl)
  intro c c' hc h2
  dsimp only at hc
  split at hc
  · split at hc
    · cases hc
    · cases hc; exact ⟨rfl, ‹_›⟩
  · cases hc; exact ⟨rfl, h2⟩

/-- A page taken out of the array is canonical (R123). -/
theorem memPage_wf {m : Memory} (base : Nat) (h : m.wf = true) :
    Memory.wf (memPage m base) = true := by
  refine memWfFrom_filterMap _ base ?_ h (.inr rfl)
  intro c c' hc h2
  split at hc
  · rename_i hb
    cases hc
    exact ⟨by simp only; omega, h2⟩
  · cases hc

theorem memWfFrom_range (v : Byte) (hv : v ≠ erasedByte) (lo n : Nat) :
    memWfFrom lo ((List.range' lo n).map fun i => (i, v)) = true := by
  induction n generalizing lo with
  | zero => rfl
  | succ n ih =>
    rw [List.range'_succ, List.map_cons, memWfFrom_cons]
    exact ⟨le_refl _, hv, ih (lo + 1)⟩

/-- A buffer filled with one value is canonical (R123). -/
theorem memFill_wf (v : Byte) : Memory.wf (memFill v) = true := by
  unfold memFill
  split
  · rfl
  · rw [List.range_eq_range']
    exact memWfFrom_range v ‹_› 0 _

/-- The stores of the reset state are canonical. -/
theorem reset_memories_wf : State.reset.array.wf = true ∧ State.reset.sealStore.wf = true :=
  ⟨rfl, rfl⟩

end Sys2Proof.Machine
end

