-- ==== Sys2Proof/WellFormed.lean ====
section
/-! DEFINITION. Which commands are well formed: operands that a wire or a cell can show. A meaning is total
all the same; what it does with an ill-formed operand is said in its docstring. -/

namespace Sys2Proof

/-- Offsets of a list of stuck bits stand inside the largest target, a 64 KB block (R74). -/
def stuckInTarget (stuck : StuckBits) : Bool := stuck.all fun c => c.1 < Config.blockBytes

/-- The leftover of a cut-short operation names bits of its targets and the 213 bytes of one slot. -/
def leftoverOk (l : Leftover) : Bool :=
  stuckInTarget l.active && stuckInTarget l.suspended &&
    match l.slot with
    | none => true
    | some bs => bs.length == Config.slotBytes

/-- Well-formedness of a command. -/
def Instr.wf : Instr → Bool
  | .continuationTransaction _ f =>          -- R13: the first byte is 00h or 01h
    match f.bytes with
    | [] => false
    | b :: _ => isAddressLead b
  | .unknownCommand p code _ => (decodeFor p code).isNone   -- R8
  | .dataByteFetch _ wire => !wire.isEmpty                  -- R6: output follows the frame
  | .operationCompletion stuck => stuckInTarget stuck
  | .powerOn left | .resetNAssert left | .powerLoss left => leftoverOk left
  | .read _ _ | .wrapRead _ _ | .streamRead _ _ | .readSeal _ _ | .armWrite _ _ | .disarmWrite _ _
  | .pageProgram _ _ | .sectorErase _ _ | .blockErase _ _ | .suspend _ _ | .resume _ _
  | .cancel _ _ | .readPortStatus _ _ | .readCompletions _ _ | .completionPop _ | .setLanes _ _
  | .setWait _ _ | .setWrap _ _ | .setIrqMask _ _ | .resetArm _ _ | .resetPort _ _
  | .dormant _ _ _ | .wake _ _ | .identify _ _ | .tableRead _ _ | .tableWriteEntry _ _
  | .tableClearEntry _ _ | .stageFromActive _ _ | .commit _ _ | .swapViews _ _
  | .settingsRead _ _ | .settingsWriteStaged _ _ | .settingsWriteLive _ _ | .lockSession _ _
  | .mailboxRead _ _ | .mailboxRelease _ _ | .mailboxRedirect _ _ | .mailboxDeny _ _
  | .mailboxDataRead _ _ | .mailboxDataWrite _ _ | .releasingSlotEntry | .heartbeat _ _
  | .jobLoad _ _ | .jobStart _ _ | .jobPause _ _ | .jobAbort _ _ | .jobRead _ _ | .jobClear _ _
  | .eventRead _ _ | .eventPop | .eventPeek _ _ | .sealProgram _ _ | .sealLock _ _
  | .guardFuse _ _ | .entryStart | .entryRestart | .suspendTaken | .runQuantumExpiry
  | .holdDeadlineExpiry | .trapDeadlineExpiry _ | .watchdogWarningPoint | .watchdogLapse
  | .jobStepIssue | .chunkRead | .resetNRelease | .transactionBegin _ | .ignoredTransactionEnd _
  | .tick | .guardNChange _ => true

end Sys2Proof
end

