-- ==== Sys2Proof/Laws/PerInstr.lean ====
section
/-! SUPPORT. A statement about the syntax of every command, made per constructor. -/

namespace Sys2Proof.Laws

open Sys2Proof Sys2Proof.Machine

/-- A row that ends a request or a read names one port, is well formed with any frame, carries a command of
that class, and the command's code reads back as the command (R5, R8). -/
def WfFrame.Statement (i : Instr) : Prop :=
  (∀ p c f, requestOf i = some (p, c, f) →
      commandClass c = .request ∧ rowPort i = some p ∧ i.wf = true
        ∧ decodeCommand (commandCode c) = some c)
    ∧ (∀ p c f, readOf i = some (p, c, f) →
      commandClass c ≠ .request ∧ rowPort i = some p ∧ i.wf = true
        ∧ decodeCommand (commandCode c) = some c)

/-- A row that ends neither. -/
theorem WfFrame.of_none {i : Instr} (h1 : requestOf i = none) (h2 : readOf i = none) :
    WfFrame.Statement i :=
  ⟨fun p c f h => by simp [h1] at h, fun p c f h => by simp [h2] at h⟩

/-- A row that ends a request. -/
theorem WfFrame.of_request {i : Instr} {p : Port} {c : Command} {f : Frame}
    (h1 : requestOf i = some (p, c, f)) (h2 : readOf i = none) (hc : commandClass c = .request)
    (hp : rowPort i = some p) (hw : i.wf = true)
    (hd : decodeCommand (commandCode c) = some c) : WfFrame.Statement i := by
  refine ⟨fun p' c' f' h => ?_, fun p c f h => by simp [h2] at h⟩
  rw [h1] at h
  cases h
  exact ⟨hc, hp, hw, hd⟩

/-- A row that ends a read. -/
theorem WfFrame.of_read {i : Instr} {p : Port} {c : Command} {f : Frame}
    (h1 : requestOf i = none) (h2 : readOf i = some (p, c, f)) (hc : commandClass c ≠ .request)
    (hp : rowPort i = some p) (hw : i.wf = true)
    (hd : decodeCommand (commandCode c) = some c) : WfFrame.Statement i := by
  refine ⟨fun p c f h => by simp [h1] at h, fun p' c' f' h => ?_⟩
  rw [h2] at h
  cases h
  exact ⟨hc, hp, hw, hd⟩

theorem WfFrame.read (p : Port) (f : Frame) :
    WfFrame.Statement (.read p f) :=
  WfFrame.of_read rfl rfl (by decide) rfl rfl rfl

theorem WfFrame.wrapRead (p : Port) (f : Frame) :
    WfFrame.Statement (.wrapRead p f) :=
  WfFrame.of_read rfl rfl (by decide) rfl rfl rfl

theorem WfFrame.streamRead (p : Port) (f : Frame) :
    WfFrame.Statement (.streamRead p f) :=
  WfFrame.of_read rfl rfl (by decide) rfl rfl rfl

theorem WfFrame.continuationTransaction (p : Port) (f : Frame) :
    WfFrame.Statement (.continuationTransaction p f) :=
  WfFrame.of_none rfl rfl

theorem WfFrame.readSeal (p : Port) (f : Frame) :
    WfFrame.Statement (.readSeal p f) :=
  WfFrame.of_read rfl rfl (by decide) rfl rfl rfl

theorem WfFrame.dataByteFetch (p : Port) (wire : List Byte) :
    WfFrame.Statement (.dataByteFetch p wire) :=
  WfFrame.of_none rfl rfl

theorem WfFrame.unknownCommand (p : Port) (code : Byte) (f : Frame) :
    WfFrame.Statement (.unknownCommand p code f) :=
  WfFrame.of_none rfl rfl

theorem WfFrame.armWrite (p : Port) (f : Frame) :
    WfFrame.Statement (.armWrite p f) :=
  WfFrame.of_request rfl rfl rfl rfl rfl rfl

theorem WfFrame.disarmWrite (p : Port) (f : Frame) :
    WfFrame.Statement (.disarmWrite p f) :=
  WfFrame.of_request rfl rfl rfl rfl rfl rfl

theorem WfFrame.pageProgram (p : Port) (f : Frame) :
    WfFrame.Statement (.pageProgram p f) :=
  WfFrame.of_request rfl rfl rfl rfl rfl rfl

theorem WfFrame.sectorErase (p : Port) (f : Frame) :
    WfFrame.Statement (.sectorErase p f) :=
  WfFrame.of_request rfl rfl rfl rfl rfl rfl

theorem WfFrame.blockErase (p : Port) (f : Frame) :
    WfFrame.Statement (.blockErase p f) :=
  WfFrame.of_request rfl rfl rfl rfl rfl rfl

theorem WfFrame.suspend (p : Port) (f : Frame) :
    WfFrame.Statement (.suspend p f) :=
  WfFrame.of_request rfl rfl rfl rfl rfl rfl

theorem WfFrame.resume (p : Port) (f : Frame) :
    WfFrame.Statement (.resume p f) :=
  WfFrame.of_request rfl rfl rfl rfl rfl rfl

theorem WfFrame.cancel (p : Port) (f : Frame) :
    WfFrame.Statement (.cancel p f) :=
  WfFrame.of_request rfl rfl rfl rfl rfl rfl

theorem WfFrame.readPortStatus (p : Port) (f : Frame) :
    WfFrame.Statement (.readPortStatus p f) :=
  WfFrame.of_read rfl rfl (by decide) rfl rfl rfl

theorem WfFrame.readCompletions (p : Port) (f : Frame) :
    WfFrame.Statement (.readCompletions p f) :=
  WfFrame.of_read rfl rfl (by decide) rfl rfl rfl

theorem WfFrame.completionPop (p : Port) :
    WfFrame.Statement (.completionPop p) :=
  WfFrame.of_none rfl rfl

theorem WfFrame.setLanes (p : Port) (f : Frame) :
    WfFrame.Statement (.setLanes p f) :=
  WfFrame.of_request rfl rfl rfl rfl rfl rfl

theorem WfFrame.setWait (p : Port) (f : Frame) :
    WfFrame.Statement (.setWait p f) :=
  WfFrame.of_request rfl rfl rfl rfl rfl rfl

theorem WfFrame.setWrap (p : Port) (f : Frame) :
    WfFrame.Statement (.setWrap p f) :=
  WfFrame.of_request rfl rfl rfl rfl rfl rfl

theorem WfFrame.setIrqMask (p : Port) (f : Frame) :
    WfFrame.Statement (.setIrqMask p f) :=
  WfFrame.of_request rfl rfl rfl rfl rfl rfl

theorem WfFrame.resetArm (p : Port) (f : Frame) :
    WfFrame.Statement (.resetArm p f) :=
  WfFrame.of_request rfl rfl rfl rfl rfl rfl

theorem WfFrame.resetPort (p : Port) (f : Frame) :
    WfFrame.Statement (.resetPort p f) :=
  WfFrame.of_request rfl rfl rfl rfl rfl rfl

theorem WfFrame.dormant (p : Port) (f : Frame) (aWire : List Byte) :
    WfFrame.Statement (.dormant p f aWire) :=
  WfFrame.of_request rfl rfl rfl rfl rfl rfl

theorem WfFrame.wake (p : Port) (f : Frame) :
    WfFrame.Statement (.wake p f) :=
  WfFrame.of_none rfl rfl

theorem WfFrame.identify (p : Port) (f : Frame) :
    WfFrame.Statement (.identify p f) :=
  WfFrame.of_read rfl rfl (by decide) rfl rfl rfl

theorem WfFrame.tableRead (p : Port) (f : Frame) :
    WfFrame.Statement (.tableRead p f) :=
  WfFrame.of_read rfl rfl (by decide) rfl rfl rfl

theorem WfFrame.tableWriteEntry (p : Port) (f : Frame) :
    WfFrame.Statement (.tableWriteEntry p f) :=
  WfFrame.of_request rfl rfl rfl rfl rfl rfl

theorem WfFrame.tableClearEntry (p : Port) (f : Frame) :
    WfFrame.Statement (.tableClearEntry p f) :=
  WfFrame.of_request rfl rfl rfl rfl rfl rfl

theorem WfFrame.stageFromActive (p : Port) (f : Frame) :
    WfFrame.Statement (.stageFromActive p f) :=
  WfFrame.of_request rfl rfl rfl rfl rfl rfl

theorem WfFrame.commit (p : Port) (f : Frame) :
    WfFrame.Statement (.commit p f) :=
  WfFrame.of_request rfl rfl rfl rfl rfl rfl

theorem WfFrame.swapViews (p : Port) (f : Frame) :
    WfFrame.Statement (.swapViews p f) :=
  WfFrame.of_request rfl rfl rfl rfl rfl rfl

theorem WfFrame.settingsRead (p : Port) (f : Frame) :
    WfFrame.Statement (.settingsRead p f) :=
  WfFrame.of_read rfl rfl (by decide) rfl rfl rfl

theorem WfFrame.settingsWriteStaged (p : Port) (f : Frame) :
    WfFrame.Statement (.settingsWriteStaged p f) :=
  WfFrame.of_request rfl rfl rfl rfl rfl rfl

theorem WfFrame.settingsWriteLive (p : Port) (f : Frame) :
    WfFrame.Statement (.settingsWriteLive p f) :=
  WfFrame.of_request rfl rfl rfl rfl rfl rfl

theorem WfFrame.lockSession (p : Port) (f : Frame) :
    WfFrame.Statement (.lockSession p f) :=
  WfFrame.of_request rfl rfl rfl rfl rfl rfl

theorem WfFrame.mailboxRead (p : Port) (f : Frame) :
    WfFrame.Statement (.mailboxRead p f) :=
  WfFrame.of_read rfl rfl (by decide) rfl rfl rfl

theorem WfFrame.mailboxRelease (p : Port) (f : Frame) :
    WfFrame.Statement (.mailboxRelease p f) :=
  WfFrame.of_request rfl rfl rfl rfl rfl rfl

theorem WfFrame.mailboxRedirect (p : Port) (f : Frame) :
    WfFrame.Statement (.mailboxRedirect p f) :=
  WfFrame.of_request rfl rfl rfl rfl rfl rfl

theorem WfFrame.mailboxDeny (p : Port) (f : Frame) :
    WfFrame.Statement (.mailboxDeny p f) :=
  WfFrame.of_request rfl rfl rfl rfl rfl rfl

theorem WfFrame.mailboxDataRead (p : Port) (f : Frame) :
    WfFrame.Statement (.mailboxDataRead p f) :=
  WfFrame.of_read rfl rfl (by decide) rfl rfl rfl

theorem WfFrame.mailboxDataWrite (p : Port) (f : Frame) :
    WfFrame.Statement (.mailboxDataWrite p f) :=
  WfFrame.of_request rfl rfl rfl rfl rfl rfl

theorem WfFrame.releasingSlotEntry :
    WfFrame.Statement .releasingSlotEntry :=
  WfFrame.of_none rfl rfl

theorem WfFrame.heartbeat (p : Port) (f : Frame) :
    WfFrame.Statement (.heartbeat p f) :=
  WfFrame.of_request rfl rfl rfl rfl rfl rfl

theorem WfFrame.jobLoad (p : Port) (f : Frame) :
    WfFrame.Statement (.jobLoad p f) :=
  WfFrame.of_request rfl rfl rfl rfl rfl rfl

theorem WfFrame.jobStart (p : Port) (f : Frame) :
    WfFrame.Statement (.jobStart p f) :=
  WfFrame.of_request rfl rfl rfl rfl rfl rfl

theorem WfFrame.jobPause (p : Port) (f : Frame) :
    WfFrame.Statement (.jobPause p f) :=
  WfFrame.of_request rfl rfl rfl rfl rfl rfl

theorem WfFrame.jobAbort (p : Port) (f : Frame) :
    WfFrame.Statement (.jobAbort p f) :=
  WfFrame.of_request rfl rfl rfl rfl rfl rfl

theorem WfFrame.jobRead (p : Port) (f : Frame) :
    WfFrame.Statement (.jobRead p f) :=
  WfFrame.of_read rfl rfl (by decide) rfl rfl rfl

theorem WfFrame.jobClear (p : Port) (f : Frame) :
    WfFrame.Statement (.jobClear p f) :=
  WfFrame.of_request rfl rfl rfl rfl rfl rfl

theorem WfFrame.eventRead (p : Port) (f : Frame) :
    WfFrame.Statement (.eventRead p f) :=
  WfFrame.of_read rfl rfl (by decide) rfl rfl rfl

theorem WfFrame.eventPop :
    WfFrame.Statement .eventPop :=
  WfFrame.of_none rfl rfl

theorem WfFrame.eventPeek (p : Port) (f : Frame) :
    WfFrame.Statement (.eventPeek p f) :=
  WfFrame.of_read rfl rfl (by decide) rfl rfl rfl

theorem WfFrame.sealProgram (p : Port) (f : Frame) :
    WfFrame.Statement (.sealProgram p f) :=
  WfFrame.of_request rfl rfl rfl rfl rfl rfl

theorem WfFrame.sealLock (p : Port) (f : Frame) :
    WfFrame.Statement (.sealLock p f) :=
  WfFrame.of_request rfl rfl rfl rfl rfl rfl

theorem WfFrame.guardFuse (p : Port) (f : Frame) :
    WfFrame.Statement (.guardFuse p f) :=
  WfFrame.of_request rfl rfl rfl rfl rfl rfl

theorem WfFrame.entryStart :
    WfFrame.Statement .entryStart :=
  WfFrame.of_none rfl rfl

theorem WfFrame.entryRestart :
    WfFrame.Statement .entryRestart :=
  WfFrame.of_none rfl rfl

theorem WfFrame.operationCompletion (stuck : StuckBits) :
    WfFrame.Statement (.operationCompletion stuck) :=
  WfFrame.of_none rfl rfl

theorem WfFrame.suspendTaken :
    WfFrame.Statement .suspendTaken :=
  WfFrame.of_none rfl rfl

theorem WfFrame.runQuantumExpiry :
    WfFrame.Statement .runQuantumExpiry :=
  WfFrame.of_none rfl rfl

theorem WfFrame.holdDeadlineExpiry :
    WfFrame.Statement .holdDeadlineExpiry :=
  WfFrame.of_none rfl rfl

theorem WfFrame.trapDeadlineExpiry (slot : SlotId) :
    WfFrame.Statement (.trapDeadlineExpiry slot) :=
  WfFrame.of_none rfl rfl

theorem WfFrame.watchdogWarningPoint :
    WfFrame.Statement .watchdogWarningPoint :=
  WfFrame.of_none rfl rfl

theorem WfFrame.watchdogLapse :
    WfFrame.Statement .watchdogLapse :=
  WfFrame.of_none rfl rfl

theorem WfFrame.jobStepIssue :
    WfFrame.Statement .jobStepIssue :=
  WfFrame.of_none rfl rfl

theorem WfFrame.chunkRead :
    WfFrame.Statement .chunkRead :=
  WfFrame.of_none rfl rfl

theorem WfFrame.powerOn (left : Leftover) :
    WfFrame.Statement (.powerOn left) :=
  WfFrame.of_none rfl rfl

theorem WfFrame.resetNAssert (left : Leftover) :
    WfFrame.Statement (.resetNAssert left) :=
  WfFrame.of_none rfl rfl

theorem WfFrame.resetNRelease :
    WfFrame.Statement .resetNRelease :=
  WfFrame.of_none rfl rfl

theorem WfFrame.transactionBegin (p : Port) :
    WfFrame.Statement (.transactionBegin p) :=
  WfFrame.of_none rfl rfl

theorem WfFrame.ignoredTransactionEnd (p : Port) :
    WfFrame.Statement (.ignoredTransactionEnd p) :=
  WfFrame.of_none rfl rfl

theorem WfFrame.tick :
    WfFrame.Statement .tick :=
  WfFrame.of_none rfl rfl

theorem WfFrame.guardNChange (high : Bool) :
    WfFrame.Statement (.guardNChange high) :=
  WfFrame.of_none rfl rfl

theorem WfFrame.powerLoss (left : Leftover) :
    WfFrame.Statement (.powerLoss left) :=
  WfFrame.of_none rfl rfl

end Sys2Proof.Laws
end

