-- ==== Sys2Proof/Laws/Requests.lean ====
section
/-! SUPPORT. What a change of a port's own state leaves of the shared questions, and how a modify
request reaches its decision. -/

namespace Sys2Proof.Machine

section
variable (s : State) (p : Port) (ps : PortState)

@[simp] theorem barrierPending_setPort : barrierPending (s.setPort p ps) = barrierPending s := by
  cases p <;> rfl
@[simp] theorem outstanding_setPort (q : Port) :
    outstanding (s.setPort p ps) q = outstanding s q := by cases p <;> cases q <;> rfl
@[simp] theorem bufferShort_setPort (o : Origin) :
    bufferShort (s.setPort p ps) o = bufferShort s o := by cases p <;> rfl
@[simp] theorem freeBuffer?_setPort : freeBuffer? (s.setPort p ps) = freeBuffer? s := by
  cases p <;> rfl
@[simp] theorem queueFull_setPort : queueFull (s.setPort p ps) = queueFull s := by cases p <;> rfl
@[simp] theorem portMWriteRefusal_setPort (a : Nat) :
    portMWriteRefusal (s.setPort p ps) a = portMWriteRefusal s a := by cases p <;> rfl
@[simp] theorem guardPermits_setPort : guardPermits (s.setPort p ps) = guardPermits s := by
  cases p <;> rfl
@[simp] theorem emptySlotId_setPort : emptySlotId (s.setPort p ps) = emptySlotId s := by
  cases p <;> rfl
@[simp] theorem tagInUse_setPort (q : Port) (t : Byte) :
    tagInUse (s.setPort p ps) q t = tagInUse s q t := by cases p <;> cases q <;> rfl
@[simp] theorem slotNamed_setPort (q : Port) (t : Byte) :
    slotNamed (s.setPort p ps) q t = slotNamed s q t := by cases p <;> cases q <;> rfl
@[simp] theorem activeEntry_setPort : activeEntry (s.setPort p ps) = activeEntry s := by
  cases p <;> rfl
@[simp] theorem suspendedEntry_setPort : suspendedEntry (s.setPort p ps) = suspendedEntry s := by
  cases p <;> rfl
@[simp] theorem sealLocked_setPort (n : Nat) : sealLocked (s.setPort p ps) n = sealLocked s n := by
  cases p <;> rfl
@[simp] theorem trapDeadline_setPort : trapDeadline (s.setPort p ps) = trapDeadline s := by
  cases p <;> rfl
@[simp] theorem stepsOutstanding_setPort :
    stepsOutstanding (s.setPort p ps) = stepsOutstanding s := by cases p <;> rfl
@[simp] theorem currentJob_setPort : currentJob (s.setPort p ps) = currentJob s := by
  cases p <;> rfl
@[simp] theorem nextLoaded_setPort : nextLoaded (s.setPort p ps) = nextLoaded s := by
  cases p <;> rfl

end

/-- The next tag of a port depends on its counter and on the tags in use (R48). -/
theorem tagFor_setPort {s : State} {p : Port} {ps : PortState}
    (h : ps.tagNext = (s.port p).tagNext) : tagFor (s.setPort p ps) p = tagFor s p := by
  simp only [tagFor, port_setPort_same, h]
  congr 1
  funext t
  simp

/-- A request that arrives finds its port's own items as they were, the framing apart. -/
theorem ended_of_arrives {s : State} {p : Port} {c : Command} {f : Frame}
    (h : Arrives s p c f) : ∃ latch received, ended s p = s.setPort p { s.port p with
      sel := .high, driven := none, contArmed := false, resetArmed := false
      latch := latch, received := received } := by
  obtain ⟨tx, h, _⟩ := h
  exact ended_of_live h.1

/-- The end of a transaction leaves the write-arm latch (R34). -/
theorem ended_wel {s : State} {p : Port} {c : Command} {f : Frame} (h : Arrives s p c f) :
    ((ended s p).port p).wel = (s.port p).wel := by
  obtain ⟨l, r, h⟩ := ended_of_arrives h
  simp [h]

/-- The three modify kinds (R40). -/
theorem modifyOf_kind {i : Instr} {p : Port} {k : Kind} {f : Frame}
    (h : modifyOf i = some (p, k, f)) : k = .pageProgram ∨ k = .sectorErase ∨ k = .blockErase := by
  cases i <;> simp only [modifyOf, Option.some.injEq, Prod.mk.injEq, reduceCtorEq] at h <;>
    obtain ⟨rfl, rfl, rfl⟩ := h <;> simp

/-- A modify request with WEL 1 is decided in the state `modifyBase`, and the latch then discarded
(R7, R35, R40). -/
theorem exec_modify {i : Instr} {s : State} {p : Port} {k : Kind} {f : Frame}
    (hi : modifyOf i = some (p, k, f)) (ha : Arrives s p (modifyCommand k) f)
    (hw : (s.port p).wel = true) :
    exec i s = .next (driveIrq (discardLatch (decideModify (modifyBase s p k f) p k f) p)) := by
  have hw' := ended_wel ha
  rw [hw] at hw'
  cases i <;> simp only [modifyOf, Option.some.injEq, Prod.mk.injEq, reduceCtorEq] at hi <;>
    obtain ⟨rfl, rfl, rfl⟩ := hi <;>
    simp only [exec, execPageProgram, execSectorErase, execBlockErase, modifyCommand] at ha ⊢ <;>
    rw [requestEnd_of_arrives ha] <;>
    simp [armedDecision, receiveData, modifyBase, consumed, endedWith, hw', finish]

/-- The state in which a modify request is decided differs from the arrival's in its port alone. -/
theorem modifyBase_of_arrives {s : State} {p : Port} {k : Kind} {f : Frame} {c : Command}
    (h : Arrives s p c f) : ∃ ps, modifyBase s p k f = s.setPort p ps
      ∧ ps.tagNext = (s.port p).tagNext ∧ ps.wel = false ∧ ps.fifo = (s.port p).fifo := by
  obtain ⟨l, r, h⟩ := ended_of_arrives h
  refine ⟨(modifyBase s p k f).port p, ?_, ?_, ?_, ?_⟩ <;> unfold modifyBase <;> split <;>
    simp [consumed, endedWith, receiveData, h]

end Sys2Proof.Machine
end

