-- ==== Sys2Proof/Tests/Scene.lean ====
section
/-! SUPPORT. Small states for the tests: the reset state with one or two items changed. -/

namespace Sys2Proof.Tests

open Sys2Proof Sys2Proof.Machine

/-- The next state of a command; the state itself where the machine stops. -/
def after (i : Instr) (s : State) : State :=
  match exec i s with
  | .next t => t
  | _ => s

/-- A frame of whole bytes. -/
def fr (bs : List Byte) : Frame := { bytes := bs }

/-- A frame with a part byte at its end. -/
def cut (bs : List Byte) : Frame := { bytes := bs, part := true }

/-- The bytes of a memory read as the port has clocked them in when its output begins: eight wait bytes
after them (R6; the factory setting of R132). -/
def waited (bs : List Byte) : List Byte := bs ++ List.replicate 8 0

/-- A data-out byte on IO1, as lane mode ONE drives it (R3). -/
def onIO1 (b : Byte) : Option Signal := some (byteSignal .one .dataOut b)

/-- A port's write-arm latch set (R34). -/
def arm (p : Port) (s : State) : State := s.setPort p { s.port p with wel := true }

/-- A port in a transaction in its COMMAND phase. -/
def begun (p : Port) (s : State) : State :=
  s.setPort p { s.port p with sel := .opened (sampleTx (s.port p) false) }

/-- The transaction of a read with some bytes fetched. -/
def readTx (r : ReadOp) (n : Nat) : Tx :=
  { sampleTx PortState.reset false with readOp := some r, fetched := n, phase := .data }

/-- A port with a read under way. -/
def reading (p : Port) (r : ReadOp) (n : Nat) (s : State) : State :=
  s.setPort p { s.port p with sel := .opened (readTx r n) }

/-- A queue entry of tag 9. -/
def entry (k : Kind) (o : Origin) (t : Target) (st : EntryState) : Entry :=
  { newEntry 9 o k t none false false with state := st }

/-- The reset state with a queue. -/
def queued (q : List Entry) : State := { State.reset with queue := q }

/-- A sector erase of physical sector 0. -/
def erase (o : Origin) (st : EntryState) : Entry := entry .sectorErase o (.array 0 4096) st

/-- Eight WAITING erases of Port M: a full queue. -/
def fullQueue : List Entry := List.replicate 8 (erase .m .waiting)

/-- The reset state with settings of the active image changed. -/
def withSettings (f : Settings → Settings) (s : State) : State :=
  { s with activeImage := { s.activeImage with settings := f s.activeImage.settings } }

/-- The reset state with entry 0 of the active image changed. -/
def withEntry0 (f : PartEntry → PartEntry) (s : State) : State :=
  { s with activeImage := { s.activeImage with
      entries := s.activeImage.entries.set 0 (f s.activeImage.entries[0]) } }

/-- Entry 0 traps every modify request (chapter 6.1). -/
def trapping (s : State) : State := withEntry0 (fun e => { e with trapPolicy := 2 }) s

/-- A HELD erase of physical sector 0, in a slot of tag 9. -/
def heldErase : MailSlot :=
  { emptySlot with state := .held, tag := 9, kind := .sectorErase, release := true }

/-- A HELD program whose buffer is number 0. -/
def heldProgram : MailSlot :=
  { emptySlot with state := .held, tag := 9, kind := .pageProgram, buffer := some 0 }

/-- The reset state with mailbox slot 0 filled. -/
def slotted (sl : MailSlot) (s : State) : State := { s with slot0 := sl }

/-- Buffer 0 owned by an origin, holding 12h at offset 0. -/
def buffered (o : Origin) (s : State) : State :=
  { s with pool := s.pool.set 0 (some { origin := o, data := [(0, 0x12)] }) }

/-- The watchdog in a state with the counts given. -/
def watching (w : WatchState) (left warnLeft : Nat) (s : State) : State :=
  { s with watchdog := { state := w, left := left, warnLeft := warnLeft, warn := false } }

/-- A DIGEST of 600 bytes from address 16. -/
def digestJob : Descriptor := newDescriptor 5 .digest [] 16 0 600

/-- A COPY of one page from 10000h to 20000h. -/
def copyJob : Descriptor := newDescriptor 5 .copy [] 0x10000 0x20000 256

/-- A VERIFY of 600 bytes. -/
def verifyJob : Descriptor := newDescriptor 5 .verify [] 0x10000 0x20000 600

/-- The engine RUNNING with one RUNNING descriptor. -/
def working (d : Descriptor) (s : State) : State :=
  { s with jobs := [{ d with state := .running }], current := some 0, engine := .running }

/-- The engine in a state, with one LOADED descriptor. -/
def engineIn (e : EngineState) (s : State) : State := { s with jobs := [copyJob], engine := e }

/-- A program of Port M ACTIVE with its buffer, and a command waiting. -/
def busy : State :=
  { buffered .m (queued [{ entry .pageProgram .m (.array 256 256) .active with buffer := some 0 }]) with
    array := [(256, 0x3F)], pending := [.operationCompletion []] }

/-- A completion record. -/
def record (t : Byte) : Completion := ⟨t, .sectorErase, .done, false, false⟩

/-- An event record. -/
def someEvent : Event := ⟨7, .frameTorn, 1, 0, 0x30, 0xFFFFFFFF⟩

/-- The device DORMANT. -/
def asleep : State := { State.reset with power := .dormant }

/-! ### How the tests meet the statements' hypotheses -/

/-- What `Arrives` asks, as a check. -/
def arrivesB (s : State) (p : Port) (c : Command) (f : Frame) : Bool :=
  s.power == .active && recognises p c && !torn c f &&
    match (s.port p).sel with
    | .high => true
    | .opened tx => !tx.dormant && txFits c tx
    | .ignored => false

theorem arrives_of {s : State} {p : Port} {c : Command} {f : Frame}
    (h : arrivesB s p c f = true) : Arrives s p c f := by
  unfold arrivesB at h
  cases hs : (s.port p).sel with
  | high =>
    simp only [hs, Bool.and_true, Bool.and_eq_true, beq_iff_eq, Bool.not_eq_true'] at h
    exact ⟨_, ⟨⟨h.1.1, .inl ⟨hs, rfl⟩⟩, rfl⟩, h.1.2, h.2⟩
  | ignored => simp [hs] at h
  | opened tx =>
    simp only [hs, Bool.and_eq_true, beq_iff_eq, Bool.not_eq_true'] at h
    exact ⟨tx, ⟨⟨h.1.1.1, .inr ⟨hs, h.2.1⟩⟩, h.2.2⟩, h.1.1.2, h.1.2⟩

/-- What `Live` asks of a port in no transaction. -/
theorem live_of_high {s : State} {p : Port} (h : s.power = .active) (hs : (s.port p).sel = .high) :
    Live s p (sampleTx (s.port p) false) := ⟨h, .inl ⟨hs, rfl⟩⟩

/-- What `Delivered` asks of a port in no transaction. -/
theorem delivered_of_high {s : State} {p : Port} {c : Command} (h : s.power = .active)
    (hs : (s.port p).sel = .high) : Delivered s p c (sampleTx (s.port p) false) :=
  ⟨live_of_high h hs, rfl⟩

/-- What `Delivered` asks of a port in a transaction. -/
theorem delivered_of_opened {s : State} {p : Port} {c : Command} {tx : Tx} (h : s.power = .active)
    (hs : (s.port p).sel = .opened tx) (hd : tx.dormant = false) (hf : txFits c tx = true) :
    Delivered s p c tx := ⟨⟨h, .inr ⟨hs, hd⟩⟩, hf⟩

/-- What `Canonical` asks, as a check. -/
theorem canonical_of {s : State}
    (h : (s.array.wf && s.sealStore.wf && (List.finRange 6).all fun i =>
      match s.pool[i] with
      | some b => b.data.wf && b.data.all fun c => decide (c.1 < Config.pageBytes)
      | none => true) = true) : Canonical s := by
  simp only [Bool.and_eq_true, List.all_eq_true] at h
  refine ⟨h.1.1, h.1.2, fun i b hb => ?_⟩
  have := h.2 i (List.mem_finRange i)
  simpa [hb] using this

/-- What `BuffersSound` asks, as a check. -/
theorem buffersSound_of {s : State}
    (h : (((List.finRange 6).all fun i =>
        (bufferHolders s).countP (fun h => h.1 == some i) == bit s.pool[i].isSome
          && match s.pool[i] with
            | some b => (bufferHolders s).contains (some i, b.origin)
            | none => true)
      && (s.slot0.state != .empty || s.slot0.buffer == none)
      && (s.slot1.state != .empty || s.slot1.buffer == none)
      && [Origin.a, .m, .job].all fun o => decide (buffersOwned s o ≤ bufferCap o)) = true) :
    BuffersSound s := by
  simp only [Bool.and_eq_true, List.all_eq_true, Bool.or_eq_true, bne_iff_ne, beq_iff_eq,
    decide_eq_true_eq] at h
  refine ⟨fun i => ⟨(h.1.1.1 i (List.mem_finRange i)).1, fun b hb => ?_⟩, fun slot he => ?_,
    fun o => ?_⟩
  · have := (h.1.1.1 i (List.mem_finRange i)).2
    simpa [hb] using this
  · cases slot
    · exact h.1.1.2.resolve_left fun n => n he
    · exact h.1.2.resolve_left fun n => n he
  · exact h.2 o (by cases o <;> simp)

end Sys2Proof.Tests
end

