-- ==== Sys2Proof/Tests/CommandWitnesses.lean ====
section
/-! SUPPORT. For each statement about requests, jobs, the sequencer, resets and the store, a state and
operands that meet its hypotheses together. -/

namespace Sys2Proof.Tests

open Sys2Proof Sys2Proof.Machine

set_option Elab.async false

/-! ### Port settings -/

theorem witness_PortSettings :
    Arrives State.reset .a .setLanes (fr [2]) ∧ (2 : Byte).toNat ≤ 2
      ∧ Arrives State.reset .a .setLanes (fr [3]) ∧ 2 < (3 : Byte).toNat
      ∧ Arrives State.reset .m .setWait (fr [15]) ∧ (15 : Byte).toNat ≤ 15
      ∧ Arrives State.reset .m .setWait (fr [16]) ∧ 15 < (16 : Byte).toNat
      ∧ Arrives State.reset .a .setWrap (fr [3]) ∧ (3 : Byte).toNat ≤ 3
      ∧ Arrives State.reset .a .setWrap (fr [4]) ∧ 3 < (4 : Byte).toNat
      ∧ Arrives State.reset .m .setIrqMask (fr [255]) ∧ Arrives State.reset .a .resetArm (fr []) :=
  ⟨arrives_of (by decide +kernel), by decide, arrives_of (by decide +kernel), by decide,
    arrives_of (by decide +kernel), by decide, arrives_of (by decide +kernel), by decide,
    arrives_of (by decide +kernel), by decide, arrives_of (by decide +kernel), by decide,
    arrives_of (by decide +kernel), arrives_of (by decide +kernel)⟩

/-! ### Modifying the array -/

theorem witness_ArmingAndGuardChecks_arming :
    requestOf (.sealLock .m (fr [0])) = some (.m, .sealLock, fr [0]) ∧ needsArming .sealLock = true
      ∧ Arrives State.reset .m .sealLock (fr [0]) ∧ (State.reset.port .m).wel = false :=
  ⟨rfl, rfl, arrives_of (by decide +kernel), rfl⟩

/-- The frame of a program of one byte at the last byte of page 0. -/
def programFrame : Frame := fr [0, 0, 0, 0xFF, 0xAB]

theorem arrives_program (s : State)
    (h : (arrivesB s .a .pageProgram programFrame && (s.port .a).wel) = true) :
    ModifyArrives s .a .pageProgram programFrame := by
  simp only [Bool.and_eq_true] at h
  exact ⟨arrives_of h.1, h.2, by decide +kernel, fun _ => by decide +kernel⟩

theorem arrives_erase (s : State) (p : Port)
    (h : (arrivesB s p .sectorErase (fr [0, 0, 0, 0]) && (s.port p).wel) = true) :
    ModifyArrives s p .sectorErase (fr [0, 0, 0, 0]) := by
  simp only [Bool.and_eq_true] at h
  exact ⟨arrives_of h.1, h.2, by decide +kernel, nofun⟩

theorem witness_ModifyRequestIsQueued :
    (let s := arm .a State.reset;
      modifyOf (.pageProgram .a programFrame) = some (.a, .pageProgram, programFrame)
        ∧ ModifyArrives s .a .pageProgram programFrame
        ∧ TargetFound s .a (be32 programFrame.bytes 0).toNat 255 (some 0)
        ∧ NotTrapped s .pageProgram (some 0) ∧ RoomFound s .a .pageProgram ∧ s.queue.length < 8)
      ∧ (let s := arm .m (queued (List.replicate 3 (erase .m .waiting)));
      ModifyArrives s .m .sectorErase (fr [0, 0, 0, 0])
        ∧ TargetFound s .m (be32 (fr [0, 0, 0, 0]).bytes 0).toNat 0 none
        ∧ NotTrapped s .sectorErase none ∧ RoomFound s .m .sectorErase ∧ s.queue.length < 8) :=
  ⟨⟨rfl, arrives_program _ (by decide +kernel),
      .inr ⟨rfl, 0, rfl, by decide +kernel, by decide +kernel⟩,
      fun j h => by cases h; decide +kernel,
      ⟨by decide +kernel, by decide +kernel, fun _ => by decide +kernel⟩, by decide +kernel⟩,
    arrives_erase _ _ (by decide +kernel), .inl ⟨rfl, by decide +kernel, rfl, by decide +kernel⟩,
    nofun, ⟨by decide +kernel, by decide +kernel, nofun⟩, by decide +kernel⟩

/-- A position of the latch that two data bytes fall on keeps the later one, and one that none falls on
leaves FFh; the buffer taken is the lowest free one. -/
theorem witness_ModifyRequestIsQueued_buffer :
    let data := 0x11#8 :: List.replicate 256 0x22#8
    let content := bufferFromLatch (endedWith State.reset .a 255 data) .a
    (0 < data.length ∧ (255 + 0) % 256 = 255 ∧ (255 + 256) % 256 = 255)
      ∧ memRead content 255 = 0x22 ∧ memRead content 0 = 0x22
      ∧ memRead (bufferFromLatch (endedWith State.reset .a 255 [0x11]) .a) 254 = 0xFF
      ∧ memRead (bufferFromLatch (endedWith State.reset .a 255 [0x11]) .a) 255 = 0x11
      ∧ freeBuffer? (buffered .a State.reset) = some 1 := by
  decide +kernel

/-- A request that is trapped while the watchdog has not lapsed, with slot 0 EMPTY or slot 1 only. -/
theorem witness_TrappedRequests_held :
    let s := arm .a (trapping State.reset);
    modifyOf (.pageProgram .a programFrame) = some (.a, .pageProgram, programFrame)
      ∧ ModifyArrives s .a .pageProgram programFrame
      ∧ TargetFound s .a (be32 programFrame.bytes 0).toNat 255 (some 0)
      ∧ Trapped s .pageProgram (some 0) 0 ∧ RoomFound s .a .pageProgram
      ∧ s.watchdog.state ≠ .lapsed ∧ (s.slot .s0).state = .empty
      ∧ (let t := slotted heldErase s;
        (t.slot .s1).state = .empty ∧ t.slot0.state ≠ .empty) :=
  ⟨rfl, arrives_program _ (by decide +kernel),
    .inr ⟨rfl, 0, rfl, by decide +kernel, by decide +kernel⟩, ⟨rfl, by decide +kernel⟩,
    ⟨by decide +kernel, by decide +kernel, fun _ => by decide +kernel⟩, by decide +kernel,
    by decide +kernel, by decide +kernel⟩

/-- A request that is trapped while LAPSED: DENY, RELEASE, and RELEASE with a full queue. -/
theorem witness_TrappedRequests_lapsed :
    (let s := arm .a (watching .lapsed 0 0 (trapping State.reset));
      ModifyArrives s .a .pageProgram programFrame
        ∧ TargetFound s .a (be32 programFrame.bytes 0).toNat 255 (some 0)
        ∧ Trapped s .pageProgram (some 0) 0 ∧ RoomFound s .a .pageProgram
        ∧ s.watchdog.state = .lapsed ∧ s.activeImage.entries[(0 : Fin 16)].defaultAction ≠ 1)
      ∧ (let s := arm .a (watching .lapsed 0 0
        (withEntry0 (fun e => { e with trapPolicy := 2, defaultAction := 1 }) (queued fullQueue)));
      ModifyArrives s .a .pageProgram programFrame ∧ Trapped s .pageProgram (some 0) 0
        ∧ RoomFound s .a .pageProgram ∧ s.activeImage.entries[(0 : Fin 16)].defaultAction = 1
        ∧ 8 ≤ s.queue.length ∧ { s with queue := [] }.queue.length < 8) :=
  ⟨⟨arrives_program _ (by decide +kernel),
      .inr ⟨rfl, 0, rfl, by decide +kernel, by decide +kernel⟩, ⟨rfl, by decide +kernel⟩,
      ⟨by decide +kernel, by decide +kernel, fun _ => by decide +kernel⟩, by decide +kernel,
      by decide +kernel⟩,
    arrives_program _ (by decide +kernel), ⟨rfl, by decide +kernel⟩,
    ⟨by decide +kernel, by decide +kernel, fun _ => by decide +kernel⟩, by decide +kernel,
    by decide +kernel, by decide +kernel⟩

/-- The refusals of steps 3 to 6. -/
theorem witness_ModifyRefusals_target :
    (Arrives (arm .a State.reset) .a (modifyCommand .sectorErase) (fr [2, 0, 0, 0])
        ∧ 0x2000000 ≤ (be32 (fr [2, 0, 0, 0]).bytes 0).toNat)
      ∧ (Arrives (arm .a State.reset) .a (modifyCommand .pageProgram) (fr [1, 255, 255, 255])
        ∧ (be32 (fr [1, 255, 255, 255]).bytes 0).toNat < 0x2000000
        ∧ (fr [1, 255, 255, 255]).bytes.length = 4)
      ∧ (let s := arm .a (withEntry0 (fun _ => clearedEntry) State.reset);
        ModifyArrives s .a .sectorErase (fr [0, 0, 0, 0]) ∧ translate s.activeImage 0 = none)
      ∧ (let s := arm .a (withEntry0 (fun e => { e with aRights := 1 }) State.reset);
        ModifyArrives s .a .sectorErase (fr [0, 0, 0, 0])
          ∧ translate s.activeImage 0 = some (0, 0)
          ∧ s.activeImage.entries[(0 : Fin 16)].aRights ≠ 2)
      ∧ (let s := arm .m (withEntry0 (fun e => { e with mRights := 1 }) State.reset);
        ModifyArrives s .m .sectorErase (fr [0, 0, 0, 0])
          ∧ partitionOf s.activeImage 0 = some 0
          ∧ s.activeImage.entries[(0 : Fin 16)].mRights ≠ 2)
      ∧ (let s := arm .m (withEntry0 (fun _ => clearedEntry) { State.reset with sessionLock := true });
        ModifyArrives s .m .sectorErase (fr [0, 0, 0, 0])
          ∧ partitionOf s.activeImage 0 = none ∧ guardPermits s = false) :=
  ⟨⟨arrives_of (by decide +kernel), by decide +kernel⟩,
    ⟨arrives_of (by decide +kernel), by decide +kernel, by decide⟩,
    ⟨arrives_erase _ _ (by decide +kernel), by decide +kernel⟩,
    ⟨arrives_erase _ _ (by decide +kernel), by decide +kernel, by decide +kernel⟩,
    ⟨arrives_erase _ _ (by decide +kernel), by decide +kernel, by decide +kernel⟩,
    arrives_erase _ _ (by decide +kernel), by decide +kernel, by decide +kernel⟩

/-- The refusals of steps 7 to 11. -/
theorem witness_ModifyRefusals_room :
    (let s := arm .a (queued [entry .commit .m .nothing .waiting]);
      ModifyArrives s .a .pageProgram programFrame
        ∧ TargetFound s .a (be32 programFrame.bytes 0).toNat 255 (some 0)
        ∧ barrierPending s = true)
      ∧ (let s := arm .a (queued (List.replicate 4 (erase .a .waiting)));
        ModifyArrives s .a .pageProgram programFrame ∧ barrierPending s = false
          ∧ 4 ≤ outstanding s .a)
      ∧ (let s := arm .a { State.reset with pool := Vector.replicate 6 (some ⟨.a, []⟩) };
        ModifyArrives s .a .pageProgram programFrame ∧ barrierPending s = false
          ∧ outstanding s .a < 4 ∧ bufferShort s (portOrigin .a) = true)
      ∧ (let s := arm .a (trapping { slotted heldErase State.reset with slot1 := heldErase });
        ModifyArrives s .a .pageProgram programFrame ∧ RoomFound s .a .pageProgram
          ∧ Trapped s .pageProgram (some 0) 0 ∧ s.watchdog.state ≠ .lapsed
          ∧ s.slot0.state ≠ .empty ∧ s.slot1.state ≠ .empty)
      ∧ (let s := arm .a (queued fullQueue);
        ModifyArrives s .a .pageProgram programFrame ∧ RoomFound s .a .pageProgram
          ∧ NotTrapped s .pageProgram (some 0) ∧ 8 ≤ s.queue.length) :=
  ⟨⟨arrives_program _ (by decide +kernel),
      .inr ⟨rfl, 0, rfl, by decide +kernel, by decide +kernel⟩, by decide +kernel⟩,
    ⟨arrives_program _ (by decide +kernel), by decide +kernel, by decide +kernel⟩,
    ⟨arrives_program _ (by decide +kernel), by decide +kernel, by decide +kernel,
      by decide +kernel⟩,
    ⟨arrives_program _ (by decide +kernel),
      ⟨by decide +kernel, by decide +kernel, fun _ => by decide +kernel⟩, ⟨rfl, by decide +kernel⟩,
      by decide +kernel, by decide +kernel, by decide +kernel⟩,
    arrives_program _ (by decide +kernel),
    ⟨by decide +kernel, by decide +kernel, fun _ => by decide +kernel⟩,
    fun j h => by cases h; decide +kernel, by decide +kernel⟩

theorem witness_CancelSuspendResume_cancel :
    (Arrives State.reset .a .cancel (fr [0]) ∧ byteAt (fr [0]).bytes 0 = 0)
      ∧ (slotNamed State.reset .a 9 = none ∧ State.reset.queue.find? (namedBy .a 9) = none)
      ∧ (let s := queued [erase .a .active];
        Arrives s .a .cancel (fr [9]) ∧ (9 : Byte) ≠ 0 ∧ slotNamed s .a 9 = none
          ∧ s.queue.find? (namedBy .a 9) = some (erase .a .active)
          ∧ (erase .a .active).state ≠ .waiting)
      ∧ (let s := queued [erase .a .waiting];
        slotNamed s .a 9 = none ∧ s.queue.find? (namedBy .a 9) = some (erase .a .waiting)
          ∧ (erase .a .waiting).state = .waiting)
      ∧ (let s := slotted heldErase State.reset;
        Arrives s .a .cancel (fr [9]) ∧ slotNamed s .a 9 = some .s0) :=
  ⟨⟨arrives_of (by decide +kernel), by decide⟩, by decide +kernel,
    ⟨arrives_of (by decide +kernel), by decide +kernel, by decide +kernel, by decide +kernel,
      by decide +kernel⟩, by decide +kernel, arrives_of (by decide +kernel), by decide +kernel⟩

theorem witness_CancelSuspendResume :
    (let s := queued [erase .a .active];
      Arrives s .a .suspend (fr []) ∧ activeEntry s = some (erase .a .active)
        ∧ isEraseKind (erase .a .active).kind = true ∧ mayCommand .a (erase .a .active) = true
        ∧ suspendedEntry s = none)
      ∧ (Arrives State.reset .a .suspend (fr []) ∧ activeEntry State.reset = none)
      ∧ (let s := queued [erase .m .active];
        Arrives s .a .suspend (fr []) ∧ mayCommand .a (erase .m .active) = false)
      ∧ (let s := queued [erase .a .suspended, erase .a .active];
        Arrives s .a .suspend (fr []) ∧ activeEntry s = some (erase .a .active)
          ∧ suspendedEntry s ≠ none)
      ∧ (let s := queued [erase .m .suspended];
        Arrives s .m .resume (fr []) ∧ suspendedEntry s = some (erase .m .suspended)
          ∧ mayCommand .m (erase .m .suspended) = true
          ∧ mayCommand .a (erase .m .suspended) = false)
      ∧ (Arrives State.reset .m .resume (fr []) ∧ suspendedEntry State.reset = none) :=
  ⟨⟨arrives_of (by decide +kernel), by decide +kernel, by decide, by decide, by decide +kernel⟩,
    ⟨arrives_of (by decide +kernel), by decide +kernel⟩,
    ⟨arrives_of (by decide +kernel), by decide⟩,
    ⟨arrives_of (by decide +kernel), by decide +kernel, by decide +kernel⟩,
    ⟨arrives_of (by decide +kernel), by decide +kernel, by decide, by decide⟩,
    arrives_of (by decide +kernel), by decide +kernel⟩

/-! ### Configuration -/

/-- The frame of TABLE_WRITE_ENTRY with the factory entry at an index. -/
def entryFrame (i : Byte) : Frame := fr (i :: entryBytes factoryEntry)

theorem witness_StagingEdits :
    guardPermits State.reset = true ∧ barrierPending State.reset = false
      ∧ (Arrives State.reset .m .tableWriteEntry (entryFrame 15)
        ∧ (byteAt (entryFrame 15).bytes 0).toNat = (15 : Fin 16).val
        ∧ entryInRange (entryOf ((entryFrame 15).bytes.drop 1)) = true)
      ∧ (Arrives State.reset .m .tableWriteEntry (entryFrame 16)
        ∧ 16 ≤ (byteAt (entryFrame 16).bytes 0).toNat)
      ∧ Arrives State.reset .m .stageFromActive (fr [])
      ∧ (Arrives State.reset .m .settingsWriteStaged (fr [12, 1])
        ∧ settingInRange 12 1 = true ∧ settingInRange 12 2 = false)
      ∧ (Arrives State.reset .m .settingsWriteStaged (fr [13, 0])
        ∧ 12 < (byteAt (fr [13, 0]).bytes 0).toNat) :=
  ⟨by decide +kernel, by decide +kernel,
    ⟨arrives_of (by decide +kernel), by decide, by decide +kernel⟩,
    ⟨arrives_of (by decide +kernel), by decide⟩, arrives_of (by decide +kernel),
    ⟨arrives_of (by decide +kernel), by decide, by decide⟩, arrives_of (by decide +kernel),
    by decide⟩

theorem witness_TableClearEntry :
    let s := begun .m State.reset;
    guardPermits s = true ∧ barrierPending s = false ∧ s.portM.sel ≠ .high
      ∧ Arrives s .m .tableClearEntry (fr [15])
      ∧ (byteAt (fr [15]).bytes 0).toNat = (15 : Fin 16).val
      ∧ Arrives s .m .tableClearEntry (fr [16]) ∧ 16 ≤ (byteAt (fr [16]).bytes 0).toNat
      ∧ ∃ q : Fin 16, q ≠ 15
        ∧ ({ clearedEntry with aliasIndex := 15 } : PartEntry).aliasIndex.toNat = (15 : Fin 16).val :=
  ⟨by decide +kernel, by decide +kernel, by decide +kernel, arrives_of (by decide +kernel),
    by decide, arrives_of (by decide +kernel), by decide, 0, by decide, by decide⟩

theorem witness_ArmingAndGuardChecks_guard :
    (requestOf (.stageFromActive .m (fr [])) = some (.m, .stageFromActive, fr [])
        ∧ Arrives { State.reset with sessionLock := true } .m .stageFromActive (fr [])
        ∧ guardPermits { State.reset with sessionLock := true } = false)
      ∧ (let s := arm .m (queued [entry .guardFuse .m .nothing .active]);
        requestOf (.commit .m (fr [])) = some (.m, .commit, fr [])
          ∧ Arrives s .m .commit (fr []) ∧ s.portM.wel = true ∧ guardPermits s = true
          ∧ barrierPending s = true) :=
  ⟨⟨rfl, arrives_of (by decide +kernel), by decide +kernel⟩, rfl, arrives_of (by decide +kernel),
    rfl, by decide +kernel, by decide +kernel⟩

/-- The base modes: guard_mode 0, 1 and, in a loaded image, 2, and a blown fuse; the pin low and high. -/
theorem witness_ArmingAndGuardChecks_modes :
    let mode := fun (v : Byte) => withSettings (fun t => { t with guardMode := v }) State.reset;
    ((mode 0).fuse = false ∧ (mode 0).activeImage.settings.guardMode = 0)
      ∧ (mode 1).activeImage.settings.guardMode ≠ 0 ∧ baseMode (mode 2) = .pinGuarded
      ∧ { mode 1 with fuse := true }.fuse = true
      ∧ guardPermits { mode 0 with guardN := false } = true
      ∧ guardPermits { mode 1 with guardN := false } = false
      ∧ guardPermits { mode 1 with guardN := true } = true
      ∧ guardPermits { mode 0 with fuse := true, guardN := true } = false := by
  decide +kernel

/-- An image whose entries 0 and 1 are a swap pair. -/
def swapImage : Image :=
  { factoryImage with entries :=
      ((factoryImage.entries.set 0 { factoryEntry with flags := 3, length := 16, aliasIndex := 1 }).set 1
        { factoryEntry with
          flags := 3, length := 16, physBase := 16, viewBase := 16, aliasIndex := 0 }) }

theorem witness_LiveEditsAndSwaps :
    (barrierPending State.reset = false ∧ guardPermits State.reset = true
        ∧ Arrives State.reset .m .settingsWriteLive (fr [8, 0])
        ∧ Arrives State.reset .m .settingsWriteLive (fr [11, 1])
        ∧ Arrives State.reset .m .settingsWriteLive (fr [10, 5])
        ∧ Arrives State.reset .m .settingsWriteLive (fr [7, 0])
        ∧ Arrives State.reset .m .settingsWriteLive (fr [12, 0])
        ∧ Arrives State.reset .m .settingsWriteLive (fr [11, 0]))
      ∧ (let s := { State.reset with activeImage := swapImage };
        s.sessionLock = false ∧ Arrives s .m .swapViews (fr [0, 1])
          ∧ swapPair s.activeImage 0 1 = true)
      ∧ Arrives { State.reset with sessionLock := true } .m .swapViews (fr [0, 1])
      ∧ (let s := queued [entry .commit .m .nothing .active];
        Arrives s .m .swapViews (fr [0, 1]) ∧ barrierPending s = true)
      ∧ (Arrives State.reset .m .swapViews (fr [0, 1])
        ∧ swapPair State.reset.activeImage 0 1 = false)
      ∧ Arrives State.reset .m .swapViews (fr [16, 0]) :=
  ⟨⟨by decide +kernel, by decide +kernel, arrives_of (by decide +kernel),
      arrives_of (by decide +kernel), arrives_of (by decide +kernel), arrives_of (by decide +kernel),
      arrives_of (by decide +kernel), arrives_of (by decide +kernel)⟩,
    ⟨rfl, arrives_of (by decide +kernel), by decide +kernel⟩, arrives_of (by decide +kernel),
    ⟨arrives_of (by decide +kernel), by decide +kernel⟩,
    ⟨arrives_of (by decide +kernel), by decide +kernel⟩, arrives_of (by decide +kernel)⟩

/-- A staging image that validation refuses: entry 0 runs past the array. -/
def badStaging (s : State) : State :=
  { s with stagingImage := { s.stagingImage with
      entries := s.stagingImage.entries.set 0 { factoryEntry with physBase := 1 } } }

theorem witness_BarrierRequests :
    (let s := arm .m State.reset;
      s.portM.wel = true ∧ guardPermits s = true ∧ barrierPending s = false
        ∧ Arrives s .m .commit (fr []) ∧ Arrives s .m .guardFuse (fr [])
        ∧ tableFault s.stagingImage = none ∧ s.generation ≠ 0xFFFFFFFF ∧ s.dirty = false
        ∧ outstanding s .m < 4 ∧ s.queue.length < 8)
      ∧ (let s := arm .m (badStaging State.reset);
        Arrives s .m .commit (fr []) ∧ tableFault s.stagingImage ≠ none)
      ∧ (let s := arm .m { State.reset with generation := 0xFFFFFFFF, dirty := true };
        Arrives s .m .commit (fr []) ∧ tableFault s.stagingImage = none
          ∧ s.generation = 0xFFFFFFFF ∧ s.dirty = true)
      ∧ (let s := arm .m (queued (List.replicate 4 (erase .m .waiting)));
        Arrives s .m .commit (fr []) ∧ 4 ≤ outstanding s .m)
      ∧ (let s := arm .m (queued (List.replicate 8 (erase .job .waiting)));
        Arrives s .m .guardFuse (fr []) ∧ outstanding s .m < 4 ∧ 8 ≤ s.queue.length) :=
  ⟨⟨rfl, by decide +kernel, by decide +kernel, arrives_of (by decide +kernel),
      arrives_of (by decide +kernel), by decide +kernel, by decide, rfl, by decide +kernel,
      by decide⟩,
    ⟨arrives_of (by decide +kernel), by decide +kernel⟩,
    ⟨arrives_of (by decide +kernel), by decide +kernel, by decide, rfl⟩,
    ⟨arrives_of (by decide +kernel), by decide +kernel⟩, arrives_of (by decide +kernel),
    by decide +kernel, by decide⟩

theorem witness_SealRequests :
    (let s := arm .m State.reset;
      s.portM.wel = true ∧ Arrives s .m .sealProgram (fr [2, 0x01, 0xFF, 0x5A])
        ∧ (byteAt (fr [2, 0x01, 0xFF, 0x5A]).bytes 0).toNat ≤ 2
        ∧ (be16 (fr [2, 0x01, 0xFF, 0x5A]).bytes 1).toNat < 512 ∧ sealLocked s 2 = false
        ∧ outstanding s .m < 4 ∧ bufferShort s .m = false ∧ s.queue.length < 8
        ∧ s.sessionLock = false)
      ∧ (let s := arm .m State.reset;
        Arrives s .m .sealProgram (fr [3, 0, 0, 1]) ∧ Arrives s .m .sealProgram (fr [0, 2, 0, 1])
          ∧ 512 ≤ (be16 (fr [0, 2, 0, 1]).bytes 1).toNat
          ∧ Arrives s .m .sealProgram (fr [0, 0, 0])
          ∧ Arrives s .m .sealLock (fr [2]) ∧ Arrives s .m .sealLock (fr [3]))
      ∧ (let s := arm .m { State.reset with sealLocks := 4, sessionLock := true };
        Arrives s .m .sealProgram (fr [2, 0, 0, 1]) ∧ Arrives s .m .sealLock (fr [2])
          ∧ s.sessionLock = true)
      ∧ (let s := arm .m (queued [entry .sealLock .m (.sealPage 1 0) .waiting]);
        Arrives s .m .sealProgram (fr [1, 0, 0, 1]) ∧ Arrives s .m .sealLock (fr [1])
          ∧ sealLocked s 1 = true ∧ s.sessionLock = false) :=
  ⟨⟨rfl, arrives_of (by decide +kernel), by decide, by decide, by decide +kernel, by decide +kernel,
      by decide +kernel, by decide, rfl⟩,
    ⟨arrives_of (by decide +kernel), arrives_of (by decide +kernel), by decide,
      arrives_of (by decide +kernel), arrives_of (by decide +kernel), arrives_of (by decide +kernel)⟩,
    ⟨arrives_of (by decide +kernel), arrives_of (by decide +kernel), rfl⟩,
    arrives_of (by decide +kernel), arrives_of (by decide +kernel), by decide +kernel, rfl⟩

/-- The refusals for want of room. -/
theorem witness_SealRequests_room :
    (let s := arm .m (queued (List.replicate 4 (erase .m .waiting)));
      Arrives s .m .sealProgram (fr [0, 0, 0, 1]) ∧ Arrives s .m .sealLock (fr [0])
        ∧ sealLocked s 0 = false ∧ 4 ≤ outstanding s .m)
      ∧ (let s := arm .m { State.reset with pool := Vector.replicate 6 (some ⟨.a, []⟩) };
        Arrives s .m .sealProgram (fr [0, 0, 0, 1]) ∧ outstanding s .m < 4
          ∧ bufferShort s .m = true)
      ∧ (let s := arm .m (queued (List.replicate 8 (erase .job .waiting)));
        Arrives s .m .sealProgram (fr [0, 0, 0, 1]) ∧ Arrives s .m .sealLock (fr [0])
          ∧ outstanding s .m < 4 ∧ bufferShort s .m = false ∧ 8 ≤ s.queue.length) :=
  ⟨⟨arrives_of (by decide +kernel), arrives_of (by decide +kernel), by decide +kernel,
      by decide +kernel⟩,
    ⟨arrives_of (by decide +kernel), by decide +kernel, by decide +kernel⟩,
    arrives_of (by decide +kernel), arrives_of (by decide +kernel), by decide +kernel,
    by decide +kernel, by decide⟩

/-! ### Mailbox and watchdog -/

theorem witness_MailboxResolutions :
    (let s := slotted heldErase State.reset;
      slotOfField (byteAt (fr [0]).bytes 0) = some .s0 ∧ (s.slot .s0).state = .held
        ∧ Arrives s .m .mailboxRelease (fr [0]) ∧ Arrives s .m .mailboxDeny (fr [0])
        ∧ Arrives s .m .mailboxRedirect (fr [0, 1, 255, 255, 255])
        ∧ 0x1FFFFFF = (be32 (fr [0, 1, 255, 255, 255]).bytes 1).toNat
        ∧ portMWriteRefusal s (0x1FFFFFF - 0x1FFFFFF % granuleBytes (s.slot .s0).kind) = none
        ∧ Arrives s .m .mailboxRedirect (fr [0, 2, 0, 0, 0]))
      ∧ (requestOf (.mailboxDeny .m (fr [2])) = some (.m, .mailboxDeny, fr [2])
        ∧ Arrives State.reset .m .mailboxDeny (fr [2]) ∧ 2 ≤ (byteAt (fr [2]).bytes 0).toNat)
      ∧ (Arrives State.reset .m .mailboxDeny (fr [1])
        ∧ slotOfField (byteAt (fr [1]).bytes 0) = some .s1
        ∧ (State.reset.slot .s1).state ≠ .held)
      ∧ (let s := withEntry0 (fun e => { e with mRights := 1 }) (slotted heldErase State.reset);
        Arrives s .m .mailboxRedirect (fr [0, 0, 0, 0, 0])
          ∧ portMWriteRefusal s (granuleBase (s.slot .s0).kind 0) = some .protected_) :=
  ⟨⟨by decide, by decide, arrives_of (by decide +kernel), arrives_of (by decide +kernel),
      arrives_of (by decide +kernel), by decide, by decide +kernel, arrives_of (by decide +kernel)⟩,
    ⟨rfl, arrives_of (by decide +kernel), by decide⟩,
    ⟨arrives_of (by decide +kernel), by decide, by decide⟩, arrives_of (by decide +kernel),
    by decide +kernel⟩

/-- MAILBOX_DATA_WRITE with data, without, of an erase, and of a slot field of 2. -/
theorem witness_MailboxDataAndReleasingSlots_data :
    (let s := slotted heldProgram (buffered .a State.reset);
      Arrives s .m .mailboxDataWrite (fr [0, 255, 1, 2]) ∧ (s.slot .s0).state = .held
        ∧ (s.slot .s0).kind = .pageProgram ∧ 2 < (fr [0, 255, 1, 2]).bytes.length
        ∧ (s.slot .s0).buffer = some 0 ∧ s.pool[(0 : Fin 6)] = some ⟨.a, [(0, 0x12)]⟩
        ∧ Arrives s .m .mailboxDataWrite (fr [0, 255]) ∧ (fr [0, 255]).bytes.length = 2)
      ∧ (let s := slotted heldErase State.reset;
        Arrives s .m .mailboxDataWrite (fr [0, 0, 1]) ∧ (s.slot .s0).kind ≠ .pageProgram)
      ∧ Arrives State.reset .m .mailboxDataWrite (fr [2, 0, 1])
      ∧ 2 ≤ (byteAt (fr [2, 0, 1]).bytes 0).toNat :=
  ⟨⟨arrives_of (by decide +kernel), rfl, rfl, by decide, rfl, by decide +kernel,
      arrives_of (by decide +kernel), by decide⟩,
    ⟨arrives_of (by decide +kernel), by decide⟩, arrives_of (by decide +kernel), by decide⟩

theorem witness_MailboxDataAndReleasingSlots_latch :
    let buf : Memory := [(0, 0x12), (1, 0x34)];
    buf.wf = true ∧ memRead (latchCopy (latchFill [] 255 [0xAA, 0xBB]) buf) 0 = 0xBB
      ∧ memRead (latchCopy (latchFill [] 255 [0xAA, 0xBB]) buf) 1 = 0x34 := by
  decide +kernel

/-- RELEASING slots alone and together, with one entry free and with more. -/
theorem witness_MailboxDataAndReleasingSlots :
    (let s := slotted { heldErase with state := .releasing } State.reset;
      s.power = .active ∧ s.slot0.state = .releasing ∧ s.slot1.state ≠ .releasing
        ∧ s.queue.length < 8
        ∧ { s with slot1 := s.slot0 }.slot1.state = .releasing ∧ s.queue.length < 7
        ∧ { s with slot1 := s.slot0, slot0 := emptySlot }.slot0.state ≠ .releasing
        ∧ { s with queue := fullQueue.drop 1 }.queue.length = 7)
      ∧ MailboxSound { queued fullQueue with slot0 := { heldErase with state := .releasing } } :=
  ⟨by decide +kernel, fun _ _ => by decide +kernel⟩

theorem witness_DeadlinesAndWatchdog_deadline :
    (let s := slotted { heldErase with deadline := some 0 } State.reset;
      s.power = .active ∧ (s.slot .s0).state = .held ∧ (s.slot .s0).deadline = some 0
        ∧ (s.slot .s0).release = true ∧ s.queue.length < 8)
      ∧ (let s := slotted { heldErase with deadline := some 0 } (queued fullQueue);
        (s.slot .s0).release = true ∧ 8 ≤ s.queue.length)
      ∧ (let s := slotted { heldErase with deadline := some 0, release := false } State.reset;
        (s.slot .s0).state = .held ∧ (s.slot .s0).release = false)
      ∧ (let s := slotted { heldErase with deadline := some 1 } State.reset;
        (s.slot .s0).deadline ≠ some 0 ∧ (s.slot .s1).state ≠ .held) := by
  decide +kernel

theorem witness_DeadlinesAndWatchdog :
    (Arrives State.reset .m .heartbeat (fr []) ∧ State.reset.watchdog.state = .disabled)
      ∧ (Arrives (watching .armed 3 1 State.reset) .m .heartbeat (fr []))
      ∧ (Arrives (watching .lapsed 0 0 State.reset) .m .heartbeat (fr []))
      ∧ (let s := watching .armed 5 0 State.reset;
        s.power = .active ∧ s.watchdog.state = .armed ∧ s.watchdog.warnLeft = 0
          ∧ s.watchdog.left ≠ 0)
      ∧ (let s := watching .armed 0 0 State.reset;
        s.power = .active ∧ s.watchdog.state = .armed ∧ s.watchdog.left = 0) :=
  ⟨⟨arrives_of (by decide +kernel), rfl⟩, arrives_of (by decide +kernel),
    arrives_of (by decide +kernel), by decide +kernel, by decide +kernel⟩

/-! ### Jobs -/

/-- The frame of a DIGEST of a length from address 16. -/
def digestFrame (len : Byte) : Frame := fr [5, 0, 0, 0, 16, 0, 0, 0, 0, 0, 0, 0, len, 0]

/-- Frames that JOB_LOAD takes, one of each kind, and frames that fail one condition of R114 each. -/
theorem witness_JobLoad_kinds :
    (∀ bs ∈ [[1#8, 0, 1, 0, 0, 0, 2, 0, 0, 0, 0, 0x10, 0, 1, 1],
        [2, 0, 0, 0, 0, 0, 0, 1, 0, 0, 0, 1, 0, 1, 2, 0x55],
        [3, 0, 0, 0, 0, 1, 0xFF, 0xF0, 0, 0, 0, 0x10, 0, 0],
        [4, 0, 0, 0, 1, 0, 0, 1, 0, 0, 0, 0, 5, 1, 3, 1],
        [5, 1, 0xFF, 0xFF, 0xFF, 0, 0, 0, 0, 0, 0, 0, 1, 1, 4, 1, 2, 3, 4]],
      (jobOptionsOf bs).isSome = true ∧ (loadedDescriptor 1 bs).isSome = true)
      ∧ ∀ bs ∈ [[1#8, 0, 1, 0, 0, 0, 2, 1, 0, 0, 0, 0x10, 0, 1, 1],
        [1, 0, 1, 0, 0, 0, 1, 0, 0, 0, 0, 1, 0, 0],
        [2, 0, 0, 0, 0, 0, 0, 1, 0, 0, 0, 1, 0, 2, 2, 0x55, 2, 0x66],
        [3, 0, 0, 0, 0, 1, 0xFF, 0xF0, 0, 0, 0, 0x20, 0, 0],
        [4, 0, 0, 0, 1, 0, 0, 1, 0, 0, 0, 0, 5, 1, 3, 2],
        [5, 1, 0xFF, 0xFF, 0xFF, 0, 0, 0, 0, 0, 0, 0, 0, 0],
        [5, 0, 0, 0, 0, 0, 0, 0, 0, 0, 0, 0, 1, 1, 9]],
      (jobOptionsOf bs).isSome = true ∧ loadedDescriptor 1 bs = none := by
  decide +kernel

theorem witness_JobLoad :
    (Arrives State.reset .m .jobLoad (digestFrame 1) ∧ State.reset.engine ≠ .aborting
        ∧ (∃ d, loadedDescriptor State.reset.jobIdNext (digestFrame 1).bytes = some d)
        ∧ State.reset.jobs.length < 8)
      ∧ (Arrives State.reset .m .jobLoad (digestFrame 0)
        ∧ loadedDescriptor State.reset.jobIdNext (digestFrame 0).bytes = none)
      ∧ Arrives { State.reset with engine := .aborting } .m .jobLoad (digestFrame 1)
      ∧ (let s := { State.reset with jobs := List.replicate 8 copyJob };
        Arrives s .m .jobLoad (digestFrame 1) ∧ 8 ≤ s.jobs.length) :=
  ⟨⟨arrives_of (by decide +kernel), by decide,
      Option.isSome_iff_exists.mp (by decide +kernel), by decide⟩,
    ⟨arrives_of (by decide +kernel), by decide +kernel⟩, arrives_of (by decide +kernel),
    arrives_of (by decide +kernel), by decide⟩

theorem witness_JobControlsAndClear :
    (let s := engineIn .halted State.reset;
      Arrives s .m .jobStart (fr []) ∧ nextLoaded s = some 0 ∧ s.jobs[0]? = some copyJob
        ∧ Arrives s .m .jobClear (fr []) ∧ Arrives s .m .jobAbort (fr []) ∧ s.engine ≠ .idle
        ∧ s.engine ≠ .aborting ∧ stepsOutstanding s = 0
        ∧ s.slot0.state ≠ .releasing ∧ s.slot1.state ≠ .releasing)
      ∧ (let s := { engineIn .paused State.reset with current := some 0 };
        Arrives s .m .jobStart (fr []) ∧ s.engine = .paused ∧ currentJob s ≠ none
          ∧ currentJob (engineIn .paused State.reset) = none)
      ∧ (let s := working copyJob State.reset;
        Arrives s .m .jobStart (fr []) ∧ Arrives s .m .jobPause (fr []) ∧ s.engine = .running
          ∧ stepsOutstanding s = 0
          ∧ currentJob s = some { copyJob with state := .running }
          ∧ stepsOutstanding { s with queue := [erase .job .waiting] } ≠ 0
          ∧ Arrives s .m .jobClear (fr []))
      ∧ (Arrives State.reset .m .jobStart (fr []) ∧ nextLoaded State.reset = none
        ∧ Arrives State.reset .m .jobPause (fr []) ∧ Arrives State.reset .m .jobAbort (fr [])
        ∧ State.reset.engine = .idle) :=
  ⟨⟨arrives_of (by decide +kernel), by decide +kernel, by decide +kernel,
      arrives_of (by decide +kernel), arrives_of (by decide +kernel), by decide, by decide,
      by decide +kernel, by decide, by decide⟩,
    ⟨arrives_of (by decide +kernel), rfl, by decide +kernel, by decide +kernel⟩,
    ⟨arrives_of (by decide +kernel), arrives_of (by decide +kernel), rfl, by decide +kernel,
      by decide +kernel, by decide +kernel, arrives_of (by decide +kernel)⟩,
    arrives_of (by decide +kernel), by decide +kernel, arrives_of (by decide +kernel),
    arrives_of (by decide +kernel), rfl⟩

theorem witness_JobControlsAndClear_next :
    let s := { State.reset with jobs := [{ copyJob with state := .done }, digestJob, copyJob] };
    nextLoaded s = some 1 ∧ s.jobs[1]? = some digestJob ∧ currentJob { s with current := some 0 }
      = some { copyJob with state := .done } := by
  decide +kernel

/-- An abort with a begun step and a WAITING one, and with a WAITING one alone. -/
theorem witness_JobControlsAndClear_abort :
    (let s := working copyJob (queued [erase .job .active, erase .job .waiting]);
      Arrives s .m .jobAbort (fr []) ∧ s.engine ≠ .idle ∧ s.engine ≠ .aborting
        ∧ s.queue.countP (fun e => e.origin == .job && !e.orphan && e.state != .waiting) ≠ 0)
      ∧ (let s := working copyJob (queued [erase .job .waiting]);
        Arrives s .m .jobAbort (fr [])
          ∧ s.queue.countP (fun e => e.origin == .job && !e.orphan && e.state != .waiting) = 0) :=
  ⟨⟨arrives_of (by decide +kernel), by decide, by decide, by decide⟩,
    arrives_of (by decide +kernel), by decide⟩

/-- A step that is issued, one that must wait, and one that Port M may not write. -/
theorem witness_JobStepsIssue :
    (let s := working copyJob State.reset;
      let d := { copyJob with state := .running };
      s.power = .active ∧ s.engine = .running ∧ s.current = some 0 ∧ s.jobs[0]? = some d
        ∧ d.state = .running ∧ stepAt d s.cursor = some (.pageProgram, 0x20000)
        ∧ stepReady s d .pageProgram = true ∧ portMWriteRefusal s 0x20000 = none)
      ∧ (let s := working copyJob (queued fullQueue);
        stepReady s { copyJob with state := .running } .pageProgram = false)
      ∧ (let s := withEntry0 (fun e => { e with mRights := 1 }) (working copyJob State.reset);
        stepReady s { copyJob with state := .running } .pageProgram = true
          ∧ portMWriteRefusal s 0x20000 = some .protected_ ∧ stepsOutstanding s = 0) := by
  decide +kernel

/-- Each of the five conditions of a step, at its bound: eight entries, two steps, a COMMIT, two page buffers
of the engine and none free, and a source page that cannot be read. -/
theorem witness_JobStepsIssue_ready :
    (let d := { copyJob with state := .running };
      stepReady (working copyJob (queued (List.replicate 7 (erase .m .waiting)))) d .pageProgram = true
        ∧ stepReady (working copyJob (queued fullQueue)) d .pageProgram = false
        ∧ stepReady (working copyJob (queued [erase .job .waiting])) d .pageProgram = true
        ∧ stepReady (working copyJob (queued [erase .job .waiting, erase .job .active])) d .pageProgram
          = false
        ∧ stepReady (working copyJob (queued [entry .commit .m .nothing .waiting])) d .sectorErase = false
        ∧ stepReady (working copyJob { State.reset with
          pool := Vector.replicate 6 (some ⟨.a, []⟩) }) d .pageProgram = false
        ∧ stepReady (working copyJob { State.reset with
          pool := Vector.replicate 6 (some ⟨.a, []⟩) }) d .sectorErase = true
        ∧ stepReady (working copyJob (queued [erase .a .active])) d .pageProgram = false
        ∧ stepReady (working copyJob (queued [erase .a .active])) { d with kind := .fill } .pageProgram
          = true) := by
  decide +kernel

/-- A range for each order of steps: pages, sectors with PRE_ERASE, an ERASE_RANGE at an aligned block, at an
address off one, with less than a block left and at its end, and the kinds that have no step. -/
theorem witness_JobStepsIssue_order :
    (copyJob.kind = .copy ∧ copyJob.preErase = false ∧ copyJob.length = 256 * 1 ∧ 1 < 2)
      ∧ (let d := { copyJob with kind := .fill, preErase := true, length := 4096 };
        d.kind = .fill ∧ d.preErase = true ∧ d.length = 4096 * 1)
      ∧ (let d := { copyJob with kind := .eraseRange, dest := 0xF000, length := 0x12000 };
        d.kind = .eraseRange ∧ (0 < d.length ∧ (d.dest + 0) % 65536 ≠ 0)
          ∧ (4096 < d.length ∧ (d.dest + 4096) % 65536 = 0 ∧ 65536 ≤ d.length - 4096)
          ∧ (0x11000 < d.length ∧ (d.dest + 0x11000) % 65536 = 0 ∧ d.length - 0x11000 < 65536)
          ∧ d.length ≤ 0x12000)
      ∧ verifyJob.kind = .verify ∧ digestJob.kind = .digest := by
  decide

/-- The state once a job step's entry is gone. -/
def stepGone (s : State) (e : Entry) (stuck : StuckBits) : State :=
  releaseBuffer { s with
    array := arrayAfter s e 0 4096 stuck, queue := s.queue.eraseP isActive, suspend := .none
    quantum := none } e.buffer

/-- A step completes DONE: with another outstanding, with steps still to issue, with none, and in each
engine state. -/
theorem witness_JobStepsComplete :
    let e := erase .job .active
    let d := { copyJob with state := .running }
    let s := working copyJob (queued [e]);
    (s.power = .active ∧ activeEntry s = some e ∧ isArrayKind e.kind = true
      ∧ e.target = .array 0 4096 ∧ e.origin = .job ∧ e.orphan = false ∧ s.current = some 0
      ∧ s.jobs[0]? = some d ∧ d.kind ≠ .verify ∧ d.kind ≠ .digest)
      ∧ arrayAfter s e 0 4096 [] = arrayAfter s e 0 4096 []
      ∧ stepsOutstanding (stepGone { s with queue := [e, erase .job .waiting] } e []) ≠ 0
      ∧ stepsOutstanding (stepGone s e []) = 0 ∧ stepAt d s.cursor ≠ none
      ∧ stepAt d ⟨256, false⟩ = none
      ∧ nextLoaded { s with jobs := [d, copyJob] } = some 1 ∧ nextLoaded s = none
      ∧ { s with engine := .pausing }.engine = .pausing
      ∧ { s with engine := .aborting }.engine = .aborting
      ∧ { s with jobs := [{ d with state := .faulted }] }.jobs[0]?
        = some { d with state := .faulted } := by
  decide +kernel

/-- A step completes FAILED: a bit of its sector stays at 0. -/
theorem witness_JobStepsComplete_failed :
    let e := erase .job .active
    let s := { working copyJob (queued [e]) with array := [(0, 0xFE)] };
    arrayAfter s e 0 4096 [(0, 1)] ≠ arrayAfter s e 0 4096 []
      ∧ stepsOutstanding (stepGone s e [(0, 1)]) = 0
      ∧ stepsOutstanding (stepGone { s with queue := [e, erase .job .waiting] } e [(0, 1)]) ≠ 0 := by
  decide +kernel

theorem witness_ChunkRead_digest :
    (let s := working digestJob State.reset;
      let d := { digestJob with state := .running };
      s.power = .active ∧ s.engine = .running ∧ s.current = some 0 ∧ s.jobs[0]? = some d
        ∧ d.kind = .digest ∧ 240 = 256 - (d.source + d.bytesDone) % 256
        ∧ 240 < d.length - d.bytesDone ∧ pageReadable s (d.source + d.bytesDone) = true)
      ∧ (let d := { digestJob with state := .running, length := 240 };
        240 = d.length - d.bytesDone ∧ 240 ≤ 256 - (d.source + d.bytesDone) % 256)
      ∧ (let s := working digestJob (queued [erase .m .active]);
        pageReadable s 16 = false) := by
  decide +kernel

/-- A VERIFY without and with a mismatch, without and with STOP. -/
theorem witness_ChunkRead_verify :
    (let s := working verifyJob State.reset;
      let d := { verifyJob with state := .running };
      s.jobs[0]? = some d ∧ d.kind = .verify ∧ d.stop = false ∧ 256 < d.length - d.bytesDone
        ∧ pageReadable s 0x10000 = true ∧ pageReadable s 0x20000 = true)
      ∧ (let s := working { verifyJob with stop := true }
          { State.reset with array := [(0x10003, 0x11), (0x20005, 0x22)] };
        ((List.range 256).filter fun i =>
          memRead s.array (0x10000 + i) != memRead s.array (0x20000 + i)) = [3, 5]
          ∧ stepsOutstanding s = 0)
      ∧ (let s := working verifyJob (queued [erase .m .active]);
        pageReadable s 0x10000 = false) := by
  decide +kernel

/-- The last chunk of a DIGEST and of a VERIFY, with another LOADED descriptor and without one. -/
theorem witness_ChunkRead_last :
    (let d := { verifyJob with state := .running, bytesDone := 512 };
      88 = d.length - d.bytesDone ∧ 88 ≤ 256 - (d.source + d.bytesDone) % 256
        ∧ 88 ≤ 256 - (d.dest + d.bytesDone) % 256 ∧ d.stop = false)
      ∧ (let s := working { verifyJob with bytesDone := 512 } State.reset;
        pageReadable s 0x10200 = true ∧ pageReadable s 0x20200 = true ∧ nextLoaded s = none
          ∧ nextLoaded { s with jobs := s.jobs ++ [digestJob] } = some 1) := by
  decide +kernel

/-! ### The array sequencer -/

theorem witness_StartDecision :
    (let s := queued [erase .m .waiting];
      s.power = .active ∧ activeEntry s = none ∧ s.queue = [] ++ erase .m .waiting :: []
        ∧ suspendedEntry s = none ∧ eligible (suspendedEntry s) [] (erase .m .waiting) = true
        ∧ (erase .m .waiting).kind ≠ .commit)
      ∧ (let e := entry .commit .m .nothing .waiting;
        let s := queued [e];
        activeEntry s = none ∧ eligible (suspendedEntry s) [] e = true ∧ e.kind = .commit
          ∧ commitUnchanged s = true ∧ commitUnchanged (badStaging s) = false)
      ∧ (let s := queued [{ erase .m .suspended with resumePending := true }];
        activeEntry s = none
          ∧ suspendedEntry s = some { erase .m .suspended with resumePending := true }) := by
  decide +kernel

/-- The choice of a COMMIT's target: slots of each kind, and of equal generations. -/
theorem witness_StartDecision_target :
    (State.reset.class0 = .valid ∧ State.reset.class1 ≠ .valid ∧ commitTarget State.reset = .s1)
      ∧ (let s := { State.reset with store1 := slotOf 2 factoryImage, class1 := .valid };
        slotGeneration s.store0 < slotGeneration s.store1 ∧ commitTarget s = .s0
          ∧ { s with selected := some .s1 }.selected = some .s1)
      ∧ (let s := { State.reset with store0 := slotOf 2 factoryImage
                                     store1 := slotOf 1 factoryImage, class1 := .valid };
        slotGeneration s.store1 < slotGeneration s.store0 ∧ s.selected = some .s0
          ∧ commitTarget s = .s1)
      ∧ (let s := { State.reset with store1 := slotOf 1 factoryImage, class1 := .valid };
        slotGeneration s.store0 = slotGeneration s.store1 ∧ s.selected ≠ none
          ∧ commitTarget s = .s1)
      ∧ (let s := { State.reset with class0 := .torn, class1 := .valid, selected := some .s1 };
        s.class0 ≠ .valid ∧ s.storeClass .s1 = .valid ∧ s.storeClass .s0 ≠ .valid
          ∧ commitTarget s = .s0) := by
  decide +kernel

/-- Overlap at its edges: the last byte of a sector, the first past it, seal halves of one page, barriers. -/
theorem witness_EligibilityConditions :
    targetsOverlap (.array 0 4096) (.array 4095 256) = true
      ∧ targetsOverlap (.array 0 4096) (.array 4096 256) = false
      ∧ targetsOverlap (.sealPage 1 0) (.sealPage 1 256) = true
      ∧ targetsOverlap (.sealPage 1 0) (.sealPage 2 0) = false
      ∧ targetsOverlap (.sealPage 0 0) (.array 0 256) = false
      ∧ targetsOverlap .nothing .nothing = false := by
  decide +kernel

theorem witness_ArrayOperationCompletes :
    let e := { entry .pageProgram .m (.array 256 256) .active with buffer := some 0 };
    busy.power = .active ∧ activeEntry busy = some e ∧ isArrayKind e.kind = true
      ∧ e.target = .array 256 256 ∧ e.origin ≠ .job ∧ Memory.wf busy.array = true
      ∧ arrayAfter busy e 256 256 [] ≠ busy.array
      ∧ arrayAfter busy e 256 256 [(0, 0xFF)] ≠ arrayAfter busy e 256 256 [] := by
  decide +kernel

theorem witness_ArrayOperationCompletes_buffer :
    (erase .m .active).kind ≠ .pageProgram
      ∧ busy.pool[(0 : Fin 6)] = some { origin := .m, data := [(0, 0x12)] } := by
  decide +kernel

/-- An orphan job step, and memories in canonical form. -/
theorem witness_ArrayOperationCompletes_orphan :
    (let e := { erase .job .active with orphan := true };
      activeEntry (queued [e]) = some e ∧ e.orphan = true ∧ e.target = .array 0 4096)
      ∧ Memory.wf [(256, 0x3F)] = true ∧ Memory.wf [(0, 0x12)] = true := by
  decide +kernel

/-- A COMMIT that writes slot 1, rightly or not, one that is unchanged, and one whose application stops a
LAPSED watchdog. -/
theorem witness_CommitCompletes :
    let e := entry .commit .m .nothing .active;
    let s := { queued [e] with commitRun := some (.writing .s1), class1 := .torn };
    (s.power = .active ∧ activeEntry s = some e ∧ e.kind = .commit
      ∧ s.commitRun = some (.writing .s1) ∧ e.origin = .m
      ∧ slotWithStuck (slotOf (s.generation + 1) s.stagingImage) []
        = slotOf (s.generation + 1) s.stagingImage
      ∧ slotWithStuck (slotOf (s.generation + 1) s.stagingImage) [(0, 1)]
        ≠ slotOf (s.generation + 1) s.stagingImage)
      ∧ { s with commitRun := some .unchanged }.commitRun = some .unchanged
      ∧ s.selected = some .s0
      ∧ (let t := watching .lapsed 0 0 (withSettings (fun t => { t with watchdogInterval := 5 }) s);
        t.stagingImage.settings.watchdogInterval = 0
          ∧ t.activeImage.settings.watchdogInterval ≠ 0 ∧ t.watchdog.state = .lapsed) := by
  decide +kernel

theorem witness_FuseAndSealsComplete :
    (let e := entry .guardFuse .m .nothing .active;
      activeEntry (queued [e]) = some e ∧ e.kind = .guardFuse
        ∧ (stuckMask [] 0).getLsbD 0 = false ∧ (stuckMask [(0, 1)] 0).getLsbD 0 = true)
      ∧ (let e := entry .sealLock .m (.sealPage 2 0) .active;
        activeEntry (queued [e]) = some e ∧ e.kind = .sealLock ∧ e.target = .sealPage 2 0)
      ∧ (let e := entry .sealProgram .m (.sealPage 2 256) .active;
        activeEntry (queued [e]) = some e ∧ e.kind = .sealProgram
          ∧ e.target = .sealPage 2 256 ∧ e.origin = .m ∧ e.orphan = false) := by
  decide +kernel

theorem witness_SequencerTimersAndTick :
    (let s := { queued [erase .a .active] with suspend := .taking, quantum := some 0 };
      s.power = .active ∧ s.suspend = .taking ∧ activeEntry s = some (erase .a .active)
        ∧ isEraseKind (erase .a .active).kind = true ∧ s.quantum = some 0)
      ∧ (let s := { queued [{ erase .a .suspended with resumePending := true }] with
          hold := some 0 };
        s.hold = some 0
          ∧ suspendedEntry s = some { erase .a .suspended with resumePending := true })
      ∧ (let s := { queued [erase .a .suspended] with hold := some 0 };
        suspendedEntry s = some (erase .a .suspended)
          ∧ (erase .a .suspended).resumePending = false)
      ∧ asleep.power ≠ .active := by
  decide +kernel

/-! ### Supply, resets and the dormant state -/

theorem witness_SupplyAndGuardPin :
    { State.reset with power := .off }.resetN = true
      ∧ { State.reset with power := .off, resetN := false }.resetN = false
      ∧ (State.reset.power ≠ .off ∧ activeEntry State.reset = none
        ∧ suspendedEntry State.reset = none)
      ∧ OutputsRight State.reset :=
  ⟨rfl, rfl, by decide +kernel, by unfold OutputsRight; decide +kernel⟩

theorem witness_SupplyAndGuardPin_idle :
    let s := { State.reset with power := .off };
    s.resetN = true ∧ activeEntry s = none ∧ suspendedEntry s = none := by
  decide +kernel

theorem witness_ResetN :
    busy.power = .active ∧ asleep.power = .dormant
      ∧ (let s := { State.reset with power := .inReset, aborted := [⟨.m, 9, .pageProgram, 256⟩] };
        s.power = .inReset ∧ s.aborted.length ≤ 2)
      ∧ { State.reset with power := .waiting }.power = .waiting := by
  decide +kernel

/-- What the fall of RESET_N names: a COMMIT writing its slot over a SUSPENDED erase, and one that writes
nothing. -/
theorem witness_ResetN_operations :
    let e := entry .commit .m .nothing .active
    let s := { queued [e, erase .a .suspended] with commitRun := some (.writing .s1) };
    s.power = .active ∧ (activeEntry s).toList ++ (suspendedEntry s).toList = [e, erase .a .suspended]
      ∧ { s with commitRun := some .unchanged }.commitRun ≠ some (.writing .s1) := by
  decide +kernel

/-- What a load takes from two store slots, and the events it logs. -/
def loaded (a b : List Byte) : Option SlotId × Word × Bool × List (Byte × Byte) :=
  let t := after .resetNRelease { State.reset with power := .inReset, store0 := a, store1 := b }
  (t.selected, t.generation, t.dirty, t.log.map fun e => (eventCode e.kind, e.detail))

/-- A slot that is neither BLANK nor VALID. -/
def tornSlot : List Byte := List.replicate 213 0x05

/-- A load with each sort of store: both VALID with the higher generation in either slot and with equal ones,
one VALID slot beside a TORN or BLANK one, and none VALID. -/
theorem witness_ResetN_load :
    classify tornSlot = .torn
      ∧ loaded (slotOf 1 swapImage) (slotOf 2 factoryImage) = (some .s1, 2, false, [])
      ∧ loaded (slotOf 2 swapImage) (slotOf 1 factoryImage) = (some .s0, 2, false, [])
      ∧ loaded (slotOf 2 swapImage) (slotOf 2 factoryImage) = (some .s0, 2, false, [])
      ∧ loaded tornSlot (slotOf 1 swapImage) = (some .s1, 1, false, [(0x0F, 0)])
      ∧ loaded (slotOf 1 swapImage) blankSlot = (some .s0, 1, false, [])
      ∧ loaded tornSlot tornSlot = (none, 0, true, [(0x0F, 0), (0x0F, 1), (0x10, 0)])
      ∧ loaded blankSlot blankSlot = (none, 0, true, [(0x10, 0)]) := by
  refine ⟨?_, ?_, ?_, ?_, ?_, ?_, ?_, ?_⟩ <;> decide +kernel

/-- Two records of RESET_N after the two events of a load. -/
theorem witness_ResetN_records :
    let s := { State.reset with
      power := .inReset, store0 := blankSlot, store1 := tornSlot
      aborted := [⟨.m, 5, .pageProgram, 0x300000⟩, ⟨.a, 9, .blockErase, 0x1050000⟩] };
    s.aborted.length ≤ 2 ∧ (after .resetNRelease s).log.map (fun e => (e.seq, eventCode e.kind))
      = [(0, 0x0F), (1, 0x10), (2, 0x14), (3, 0x14)] := by
  decide +kernel

theorem witness_SoftReset :
    (∃ tx, Delivered State.reset .a .resetPort tx ∧ torn .resetPort (fr []) = false
        ∧ tx.resetArmed = false)
      ∧ (let s := { queued [erase .a .active, erase .a .waiting] with
          portA := { PortState.reset with resetArmed := true } };
        ∃ tx, Delivered s .a .resetPort tx ∧ tx.resetArmed = true)
      ∧ (let s := { queued [erase .m .active, erase .job .waiting] with
          portM := { PortState.reset with resetArmed := true } };
        ∃ tx, Delivered s .m .resetPort tx ∧ tx.resetArmed = true
          ∧ s.slot0.state ≠ .releasing ∧ s.slot1.state ≠ .releasing)
      ∧ (let s := { queued (List.replicate 7 (erase .a .waiting) ++ [erase .m .waiting]) with
          slot0 := { heldErase with state := .releasing }
          slot1 := { heldErase with state := .releasing }
          portM := { PortState.reset with resetArmed := true } };
        ∃ tx, Delivered s .m .resetPort tx ∧ tx.resetArmed = true
          ∧ s.slot0.state = .releasing ∧ s.slot1.state = .releasing ∧ s.queue.length = 8) :=
  ⟨⟨_, delivered_of_high rfl rfl, by decide +kernel, rfl⟩, ⟨_, delivered_of_high rfl rfl, rfl⟩,
    ⟨_, delivered_of_high rfl rfl, rfl, by decide, by decide⟩,
    _, delivered_of_high rfl rfl, rfl, rfl, rfl, rfl⟩

/-- A program, an erase with a SUSPENDED one, and a COMMIT, cut short. -/
theorem witness_CutShortOperationsLeave :
    (operating busy = true ∧ Canonical busy ∧ SequencerSound busy
        ∧ (∀ e base len, activeEntry busy = some e → e.kind = .pageProgram →
          e.target = .array base len → len = 256)
        ∧ ∃ t, exec (.powerLoss {}) busy = .next t ∧ memRead t.array 256 = 0x12)
      ∧ (let s := { queued [erase .a .suspended, erase .m .active] with array := [(0, 0)] };
        Canonical s ∧ SequencerSound s ∧ activeEntry s = some (erase .m .active)
          ∧ (∃ t, exec (.resetNAssert { suspended := [(0, 1)] }) s = .next t))
      ∧ (let s := { queued [entry .commit .m .nothing .active] with
          commitRun := some (.writing .s1), class1 := .torn };
        Canonical s ∧ SequencerSound s
          ∧ ∃ t, exec (.resetNAssert { slot := none }) s = .next t
            ∧ t.store1 = slotOf 2 factoryImage) := by
  refine ⟨⟨by decide +kernel, canonical_of (by decide +kernel), ?_, ?_, _, rfl, by decide +kernel⟩,
    ⟨canonical_of (by decide +kernel), ?_, by decide +kernel, _, rfl⟩,
    canonical_of (by decide +kernel), ?_, _, rfl, by decide +kernel⟩
  · unfold SequencerSound; decide +kernel
  · intro e base len h _ ht
    have : activeEntry busy
        = some { entry .pageProgram .m (.array 256 256) .active with buffer := some 0 } := by
      decide +kernel
    rw [this] at h
    cases h
    cases ht
    rfl
  · unfold SequencerSound; decide +kernel
  · unfold SequencerSound; decide +kernel

/-- A port whose transaction began while the device was DORMANT. -/
def asleepBegun : State :=
  { asleep with portA := { PortState.reset with sel := .opened (sampleTx PortState.reset true) } }

/-- DORMANT while busy, with Port A idle, in a null transaction, in one that carried a byte, and in one
that began in an earlier dormant period. -/
theorem witness_DormantAndWake_dormant :
    (Arrives (queued fullQueue) .m .dormant (fr []) ∧ (queued fullQueue).queue ≠ [])
      ∧ (Arrives State.reset .m .dormant (fr []) ∧ State.reset.queue = []
        ∧ State.reset.slot0.state = .empty ∧ State.reset.slot1.state = .empty
        ∧ State.reset.engine = .idle ∧ ∀ tx, State.reset.portA.sel ≠ .opened tx)
      ∧ (Arrives (begun .a State.reset) .m .dormant (fr [])
        ∧ (begun .a State.reset).portA.sel = .opened (sampleTx PortState.reset false))
      ∧ (let tx := { sampleTx PortState.reset true with wire := [0x50] }
        let s := { State.reset with portA := { PortState.reset with sel := .opened tx } };
        Arrives s .m .dormant (fr []) ∧ s.portA.sel = .opened tx ∧ tx.wire ≠ []
          ∧ tx.dormant = true ∧ ([0x50] : List Byte).head? ≠ some 0x7B) :=
  ⟨⟨arrives_of (by decide +kernel), by decide⟩,
    ⟨arrives_of (by decide +kernel), rfl, rfl, rfl, rfl, fun _ h => by cases h⟩,
    ⟨arrives_of (by decide +kernel), by decide +kernel⟩,
    arrives_of (by decide +kernel), rfl, by decide, rfl, by decide⟩

theorem witness_DormantAndWake_wake :
    (asleep.power = .dormant ∧ (asleep.port .a).sel = .high)
      ∧ (asleepBegun.power = .dormant
        ∧ (asleepBegun.port .a).sel = .opened (sampleTx PortState.reset true)
        ∧ (sampleTx PortState.reset true).dormant = true
        ∧ (sampleTx PortState.reset true).readOp = none)
      ∧ (let s := { asleepBegun with power := .active };
        s.power = .active ∧ (s.port .a).sel = .opened (sampleTx PortState.reset true)
          ∧ requestOf (.armWrite .a (fr [])) = some (.a, .armWrite, fr []))
      ∧ ∃ tx, Delivered State.reset .m .wake tx :=
  ⟨by decide +kernel, by decide +kernel, by decide +kernel, _, delivered_of_high rfl rfl⟩

/-! ### The configuration store -/

theorem witness_SlotClassification :
    blankSlot.length = 213 ∧ (slotOf 1 factoryImage).length = 213
      ∧ (let s := queued [erase .m .waiting];
        (∃ t, exec .entryStart s = .next t)
          ∧ startOldest (suspendedEntry s) [] s.queue
            = some (erase .m .waiting, [erase .m .active])
          ∧ (erase .m .waiting).kind ≠ .commit)
      ∧ (activeEntry busy).map (·.kind) = some .pageProgram
      ∧ ∃ t, exec (.operationCompletion []) busy = .next t :=
  ⟨by decide +kernel, by decide +kernel, ⟨⟨_, rfl⟩, by decide +kernel, by decide⟩,
    by decide +kernel, _, rfl⟩

theorem witness_StoredImageSurvives_generation : (0xFFFFFFFF : Word) ≠ 0 ∧ (1 : Word) ≠ 0 := by decide

theorem witness_StoredImageSurvives_bytes :
    (List.replicate 205 0x07#8).length = 205 ∧ (slotOf 1 factoryImage).length = 213 := by
  decide +kernel

theorem witness_StoredImageSurvives :
    let s := { State.reset with store1 := slotOf 2 swapImage };
    s.resetN = true ∧ s.power = .active ∧ activeEntry s = none ∧ suspendedEntry s = none
      ∧ SlotId.s0 ≠ .s1 ∧ (2 : Word) ≠ 0 ∧ s.store .s1 = slotOf 2 swapImage
      ∧ slotGeneration (s.store .s0) < 2 := by
  decide +kernel

theorem witness_ValidationReport :
    tableFault (badStaging State.reset).stagingImage = some (0, 1)
      ∧ tableFault swapImage = none ∧ (0 : Fin 16) ≠ 1 ∧ swapPair swapImage 0 1 = true := by
  decide +kernel

/-- The lookups: the last byte of a view and the first past it, and the same of a physical range. -/
theorem witness_ValidationReport_lookups :
    let e := { factoryEntry with physBase := 16, length := 2, viewBase := 3 };
    let im := { factoryImage with entries := factoryImage.entries.set 0 e };
    Machine.translate im 0x4FFFF = some (0, 0x11FFFF) ∧ Machine.translate im 0x50000 = none
      ∧ Machine.translate im 0x30000 = some (0, 0x100000) ∧ Machine.translate im 0x2FFFF = none
      ∧ partitionOf im 0x11FFFF = some 0 ∧ partitionOf im 0x120000 = none
      ∧ partitionOf im 0x100000 = some 0 ∧ partitionOf im 0xFFFFF = none := by
  decide +kernel

/-- An entry with each fault of R67 and none before it, at its boundary where it has one, and one with none. -/
theorem witness_ValidationReport_faults :
    let e : PartEntry := { clearedEntry with
      flags := 1, physBase := 448, length := 64, aRights := 2, viewBase := 448, aliasIndex := 0xFF }
    let other := { e with physBase := 0, length := 128, viewBase := 128 }
    let im := fun (a b : PartEntry) => { factoryImage with
      entries := ((Vector.replicate 16 clearedEntry).set 0 a).set 1 b }
    let code := fun (b : PartEntry) => entryFault (im other b) 1
    code e = 0 ∧ code { e with physBase := 449 } = 1
      ∧ code { e with physBase := 127 } = 2 ∧ code { e with physBase := 128 } = 0
      ∧ code { e with viewBase := 449 } = 3
      ∧ code { e with viewBase := 255 } = 4 ∧ code { e with viewBase := 256 } = 0
      ∧ code { e with aRights := 0 } = 5 ∧ code { e with viewBase := 0xFFFF } = 5
      ∧ code { e with aliasIndex := 1 } = 6 ∧ code { e with flags := 3, aliasIndex := 16 } = 6
      ∧ code { e with aRights := 1, trapPolicy := 1 } = 7 ∧ code { e with trapPolicy := 1 } = 0 := by
  decide +kernel

/-- A COMMIT that completes: the images of the state pass validation, and its slot's bytes are right. -/
theorem witness_ActiveImageStaysValid :
    let s := { queued [entry .commit .m .nothing .active] with
      commitRun := some (.writing .s1), class1 := .torn, stagingImage := swapImage
      pending := [.operationCompletion []] }
    SequencerSound s ∧ StoreSound s ∧ ImagesValid s
      ∧ ∃ t, step s = .next t ∧ t.activeImage = swapImage := by
  refine ⟨?_, ?_, ⟨by decide +kernel, fun _ => by decide +kernel, fun slot => ?_⟩, _, rfl,
    by decide +kernel⟩
  · unfold SequencerSound; decide +kernel
  · unfold StoreSound; decide +kernel
  · cases slot <;> decide +kernel

/-- A failed COMMIT whose wrong bits would make a VALID slot of an image that fails validation: its slot is
TORN, and its bytes do not classify as VALID (R56, R142). -/
theorem test_failed_commit_leaves_no_valid_slot :
    let s := { queued [entry .commit .m .nothing .active] with
      commitRun := some (.writing .s1), class1 := .torn }
    let bad := slotOf 5 (badStaging State.reset).stagingImage
    let stuck := (List.range 213).map fun i => (i, byteAt (commitBytes s) i ^^^ byteAt bad i)
    let t := after (.operationCompletion stuck) s;
    classify bad = .valid ∧ slotWithStuck (commitBytes s) stuck = bad
      ∧ t.class1 = .torn ∧ classify t.store1 ≠ .valid ∧ t.log.map (·.kind) = [.commitFailed] := by
  decide +kernel

end Sys2Proof.Tests
end

