-- ==== Sys2Proof/Tests/Witnesses.lean ====
section
/-! SUPPORT. For each statement with hypotheses, a state and operands that meet them together: the
invariants, the whole-machine statements, framing and reads. -/

namespace Sys2Proof.Tests

open Sys2Proof Sys2Proof.Machine

set_option Elab.async false

/-! ### Invariants and whole-machine statements -/

theorem canonical_busy : Canonical busy := canonical_of (by decide +kernel)

/-- The clauses on the interrupt outputs: the last command of an instant, one before it, no operation. -/
theorem witness_EveryCommandAnswers :
    State.reset.instantLeft ≤ 1
      ∧ (∃ t, exec .tick { State.reset with instantLeft := 2 } = .next t ∧ operating t = true)
      ∧ ∃ t, exec (.powerLoss {}) State.reset = .next t ∧ operating t = false :=
  ⟨by decide, ⟨_, rfl, by decide +kernel⟩, _, rfl, by decide +kernel⟩

/-- The clauses of the next instant, and what the invariant asks. -/
theorem witness_InstantsFollowTheRequestOrder :
    (let s := { State.reset with arriving := [[.tick], []] };
      s.pending = [] ∧ s.arriving = [.tick] :: [[]] ∧ [Instr.tick] ≠ [])
      ∧ (let s := { State.reset with arriving := [[]] };
        s.pending = [] ∧ s.arriving = [] :: [] ∧ engineReady s = false)
      ∧ (let s := { State.reset with jobs := [{ digestJob with state := .running }], current := some 0,
                                     engine := .running };
        s.arriving = [] ∧ engineReady s = true)
      ∧ (State.reset.arriving = [] ∧ engineReady State.reset = false)
      ∧ rowPort (.read .m (fr [])) = some .m ∧ rowPort (.completionPop .a) = some .a
      ∧ InstantSound { State.reset with pending := [.tick, .entryStart], instantLeft := 2 }
      ∧ ∃ t, step { State.reset with pending := [.tick, .entryStart], instantLeft := 2 } = .next t := by
  refine ⟨by decide +kernel, by decide +kernel, by decide +kernel, by decide +kernel, rfl, rfl, ?_, _, rfl⟩
  unfold InstantSound; decide

theorem witness_MemoriesStayCanonical :
    Canonical busy ∧ ∃ t, step busy = .next t ∧ t.array ≠ busy.array :=
  ⟨canonical_busy, _, rfl, by decide +kernel⟩

theorem witness_CapacitiesStayWithin :
    WithinCapacity busy ∧ ∃ t, step busy = .next t ∧ t.queue.length = 0 :=
  ⟨by unfold WithinCapacity; decide +kernel, _, rfl, by decide +kernel⟩

theorem witness_BuffersStayOwned :
    BuffersSound busy ∧ (∃ t, step busy = .next t ∧ t.pool[(0 : Fin 6)] = none)
      ∧ BuffersSound (slotted heldProgram (buffered .a State.reset)) :=
  ⟨buffersSound_of (by decide +kernel), ⟨_, rfl, by decide +kernel⟩,
    buffersSound_of (by decide +kernel)⟩

theorem witness_SequencerStaysSound :
    SequencerSound { busy with suspend := .none, quantum := some 1 }
      ∧ SequencerSound { queued [erase .a .active] with suspend := .pending }
      ∧ ∃ t, step busy = .next t :=
  ⟨by unfold SequencerSound; decide +kernel, by unfold SequencerSound; decide +kernel, _, rfl⟩

theorem witness_PortsMailboxTagsStoreStaySound :
    MailboxSound { busy with queue := fullQueue, slot0 := { heldErase with state := .releasing } }
      ∧ SelectionSound (begun .a busy) ∧ TagsSound (begun .a busy) ∧ StoreSound (begun .a busy)
      ∧ ∃ t, step (begun .a busy) = .next t := by
  refine ⟨fun _ _ => by decide +kernel, ?_, ?_, ?_, _, rfl⟩
  · intro p tx h
    cases p
    · cases h; exact ⟨.inl rfl, by decide⟩
    · cases h
  · unfold TagsSound; decide +kernel
  · unfold StoreSound; decide +kernel

theorem witness_OneTimeContentNeverReturns :
    Canonical { busy with fuse := true, sealLocks := 1 }
      ∧ ∃ t, exec (.operationCompletion []) { busy with fuse := true, sealLocks := 1 } = .next t :=
  ⟨canonical_of (by decide +kernel), _, rfl⟩

theorem witness_ContentChangesOnlyAtCompletion :
    (∃ t, exec .entryStart (queued [erase .m .waiting]) = .next t)
      ∧ (∀ stuck, Instr.entryStart ≠ .operationCompletion stuck)
      ∧ (∀ left, Instr.entryStart ≠ .powerOn left)
      ∧ (∀ left, Instr.entryStart ≠ .powerLoss left)
      ∧ ∀ left, Instr.entryStart ≠ .resetNAssert left :=
  ⟨⟨_, rfl⟩, nofun, nofun, nofun, nofun⟩

theorem witness_PortsAreIndependent :
    rowPort (.armWrite .a (fr [])) = some .a ∧ (∀ f w, Instr.armWrite .a (fr []) ≠ .dormant .a f w)
      ∧ ∃ t, exec (.armWrite .a (fr [])) (begun .m State.reset) = .next t :=
  ⟨rfl, nofun, _, rfl⟩

/-- DORMANT with no transaction, and with a port whose transaction began while DORMANT. -/
theorem witness_NothingChangesWhileNotActive :
    (asleep.power ≠ .active ∧ SelectionSound asleep ∧ OutputsRight asleep)
      ∧ isPowerEvent .tick = false ∧ (∀ p f, Instr.tick ≠ .wake p f)
      ∧ (∀ b, Instr.tick ≠ .guardNChange b)
      ∧ (let s := begun .a asleep;
        s.power ≠ .active ∧ OutputsRight s ∧ ∃ tx, (s.port .a).sel = .opened tx) := by
  refine ⟨⟨by decide, ?_, ?_⟩, rfl, nofun, nofun, by decide, ?_, _, rfl⟩
  · intro p tx h
    cases p <;> cases h
  · unfold OutputsRight; decide +kernel
  · unfold OutputsRight; decide +kernel

/-- The three clauses on ARM_WRITE and DISARM_WRITE, whole and torn, of a selected and of an unselected
port. -/
theorem witness_WriteArmLatch_arm :
    Arrives State.reset .a .armWrite (fr [])
      ∧ Arrives (begun .a State.reset) .a .armWrite (fr [0x55])
      ∧ Arrives (begun .a State.reset) .a .disarmWrite (fr [])
      ∧ (∃ tx, Delivered (begun .a State.reset) .a .armWrite tx)
      ∧ (∃ tx, Delivered State.reset .a .disarmWrite tx)
      ∧ (cut []).part = true :=
  ⟨arrives_of (by decide +kernel), arrives_of (by decide +kernel), arrives_of (by decide +kernel),
    ⟨_, delivered_of_opened rfl rfl rfl rfl⟩, ⟨_, delivered_of_high rfl rfl⟩, rfl⟩

/-- The clauses on what leaves the latch alone, a refused RESET_PORT among it, and on what consumes it. -/
theorem witness_WriteArmLatch_other :
    ((∃ t, exec (.resetPort .a (fr [])) (arm .a State.reset) = .next t)
        ∧ (∀ f, Instr.resetPort .a (fr []) ≠ .armWrite .a f)
        ∧ (∀ f, Instr.resetPort .a (fr []) ≠ .disarmWrite .a f)
        ∧ (∀ f tx, Instr.resetPort .a (fr []) = .resetPort .a f →
          Delivered (arm .a State.reset) .a .resetPort tx → torn .resetPort f = false →
          tx.resetArmed = false)
        ∧ (∀ c f, requestOf (.resetPort .a (fr [])) = some (.a, c, f) → needsArming c = false)
        ∧ (∀ left, Instr.resetPort .a (fr []) ≠ .powerOn left)
        ∧ (∀ left, Instr.resetPort .a (fr []) ≠ .powerLoss left)
        ∧ Instr.resetPort .a (fr []) ≠ .resetNRelease)
      ∧ (requestOf (.sectorErase .a (cut [])) = some (.a, .sectorErase, cut [])
        ∧ needsArming .sectorErase = true
        ∧ Arrives (arm .a State.reset) .a .sectorErase (fr [0, 0, 0, 0])
        ∧ ∃ t, exec (.sectorErase .a (cut [])) (arm .a State.reset) = .next t
          ∧ (t.port .a).wel = true) := by
  refine ⟨⟨⟨_, rfl⟩, nofun, nofun, ?_, ?_, nofun, nofun, nofun⟩, rfl, rfl,
    arrives_of (by decide +kernel), _, rfl, by decide +kernel⟩
  · rintro f tx - ⟨⟨-, h⟩, -⟩ -
    obtain ⟨-, rfl⟩ | ⟨h, -⟩ := h
    · rfl
    · cases h
  · rintro c f h
    cases h
    rfl

/-- The clauses on what clears the latch. -/
theorem witness_WriteArmLatch_cleared :
    (∃ tx t, Delivered
          (begun .a { State.reset with portA := { PortState.reset with resetArmed := true, wel := true } })
          .a .resetPort tx
        ∧ torn .resetPort (fr []) = false ∧ tx.resetArmed = true
        ∧ exec (.resetPort .a (fr [])) (begun .a { State.reset with
            portA := { PortState.reset with resetArmed := true, wel := true } }) = .next t)
      ∧ (∃ t, exec (.powerOn {}) (arm .a State.reset) = .next t)
      ∧ (∃ t, (arm .a State.reset).power ≠ .off
        ∧ exec (.powerLoss {}) (arm .a State.reset) = .next t)
      ∧ (∃ t, exec .resetNRelease { arm .a State.reset with power := .inReset } = .next t)
      ∧ ∃ t, exec .resetNRelease { arm .a State.reset with power := .waiting } = .next t :=
  ⟨⟨_, _, delivered_of_opened rfl rfl rfl rfl, rfl, rfl, rfl⟩, ⟨_, rfl⟩, ⟨_, by decide, rfl⟩,
    ⟨_, rfl⟩, _, rfl⟩

theorem witness_SessionLock :
    Arrives State.reset .m .lockSession (fr [])
      ∧ Arrives { State.reset with sessionLock := true } .m .lockSession (fr [])
      ∧ (∃ t, exec .tick { State.reset with sessionLock := true } = .next t)
      ∧ (∃ t, exec .resetNRelease
          { State.reset with sessionLock := true, resetN := false, power := .inReset } = .next t)
      ∧ (∀ left, Instr.resetNRelease ≠ .powerOn left)
      ∧ ∀ left, Instr.resetNRelease ≠ .powerLoss left :=
  ⟨arrives_of (by decide +kernel), arrives_of (by decide +kernel), ⟨_, rfl⟩, ⟨_, rfl⟩, nofun, nofun⟩

theorem witness_ReadFlagsAreTheirPortsOwn :
    (∃ t, exec (.dataByteFetch .m [0x50, 0])
        { State.reset with portA := { PortState.reset with flags := ⟨true, true, true⟩ } } = .next t)
      ∧ isPowerEvent (.dataByteFetch .m [0x50, 0]) = false
      ∧ (∀ f, Instr.dataByteFetch .m [0x50, 0] ≠ .readPortStatus .a f)
      ∧ (∀ f, Instr.dataByteFetch .m [0x50, 0] ≠ .resetPort .a f)
      ∧ ∀ w, Instr.dataByteFetch .m [0x50, 0] ≠ .dataByteFetch .a w :=
  ⟨⟨_, rfl⟩, rfl, nofun, nofun, by simp⟩

theorem witness_TagsLogAndFifo_tag :
    outstanding (queued [{ erase .m .waiting with tag := 1 }]) .m < Config.outstandingCap
      ∧ ((queued [{ erase .m .waiting with tag := 1 }]).port .m).tagNext ≠ 0
      ∧ tagFor (queued [{ erase .m .waiting with tag := 1 }]) .m = 2 := by
  decide +kernel

/-- A log and a FIFO with room and full, the FIFO's port out of a transaction and in one. -/
theorem witness_TagsLogAndFifo :
    (State.reset.log.length < 16)
      ∧ (16 ≤ { State.reset with log := List.replicate 16 someEvent }.log.length)
      ∧ ((State.reset.setPort .a { PortState.reset with fifo := List.replicate 7 (record 3) }).port
        .a).fifo.length < 8
      ∧ (let s := State.reset.setPort .a { PortState.reset with fifo := List.replicate 8 (record 3) };
        8 ≤ (s.port .a).fifo.length ∧ (∀ tx, (s.port .a).sel ≠ .opened tx)
          ∧ ((reading .a .completions 1 s).port .a).sel = .opened (readTx .completions 1)
          ∧ 8 ≤ ((reading .a .completions 1 s).port .a).fifo.length) :=
  ⟨by decide, by decide, by decide, by decide, fun _ h => (by cases h), rfl,
    by decide⟩

/-! ### Framing -/

theorem witness_TransactionBeginAndEnd :
    ((State.reset.port .a).sel = .high ∧ State.reset.power = .active)
      ∧ ((asleep.port .a).sel = .high ∧ asleep.power = .dormant)
      ∧ (let s := { State.reset with power := .inReset }
        (s.port .a).sel = .high ∧ s.power ≠ .active ∧ s.power ≠ .dormant)
      ∧ ((begun .a State.reset).port .a).sel ≠ .high
      ∧ ((State.reset.setPort .a { PortState.reset with sel := .ignored }).port .a).sel = .ignored
      ∧ ((∃ tx, ((begun .a State.reset).port .a).sel = .opened tx ∧ tx.readOp = none)
        ∧ ∃ tx, Live (begun .a State.reset) .a tx)
      ∧ ∃ tx, Live State.reset .m tx :=
  ⟨by decide +kernel, by decide +kernel, by decide +kernel, by decide +kernel, by decide +kernel,
    ⟨⟨_, rfl, rfl⟩, _, rfl, .inr ⟨rfl, rfl⟩⟩, _, live_of_high rfl rfl⟩

theorem witness_TornAndUnrecognisedCommands :
    (requestOf (.pageProgram .a (fr [0, 0, 0])) = some (.a, .pageProgram, fr [0, 0, 0])
        ∧ (∃ tx, Delivered State.reset .a .pageProgram tx)
        ∧ recognises .a .pageProgram = true ∧ torn .pageProgram (fr [0, 0, 0]) = true)
      ∧ torn .armWrite (cut []) = true
      ∧ (requestOf (.commit .a (fr [])) = some (.a, .commit, fr [])
        ∧ (∃ tx, Delivered State.reset .a .commit tx) ∧ recognises .a .commit = false)
      ∧ (readOf (.tableRead .a (fr [0])) = some (.a, .tableRead, fr [0])
        ∧ (∃ tx, Delivered State.reset .a .tableRead tx) ∧ recognises .a .tableRead = false)
      ∧ ∃ tx, Live State.reset .m tx ∧ tx.readOp = none ∧ decodeFor .m 0x00 = none
        ∧ (tx.contArmed = true → (0x00 : Byte) ≠ 0 ∧ (0x00 : Byte) ≠ 1) :=
  ⟨⟨rfl, ⟨_, delivered_of_high rfl rfl⟩, rfl, by decide +kernel⟩, by decide +kernel,
    ⟨rfl, ⟨_, delivered_of_high rfl rfl⟩, rfl⟩, ⟨rfl, ⟨_, delivered_of_high rfl rfl⟩, rfl⟩,
    _, live_of_high rfl rfl, rfl, rfl, nofun⟩

/-- The ends without effect, and the two ends of a STREAM_READ. -/
theorem witness_ReadEnds :
    (readOf (.read .a (fr [0])) = some (.a, .read, fr [0]) ∧ Command.read ≠ .streamRead
        ∧ Command.read ≠ .readPortStatus ∧ Command.read ≠ .eventRead
        ∧ (∃ tx, Delivered State.reset .a .read tx) ∧ recognises .a .read = true)
      ∧ (∃ tx, Delivered State.reset .a .streamRead tx
        ∧ readWhole tx .streamRead (fr [0, 0, 0, 0, 0xA5])
        ∧ ¬ readWhole tx .streamRead (fr [0, 0, 0, 0]))
      ∧ (let s := State.reset.setPort .a { PortState.reset with contArmed := true }
        ∃ tx, Live s .a tx ∧ continuationFits (fr [0, 0, 0, 0, 0xA5]) tx = true
          ∧ tx.contArmed = true ∧ 5 ≤ (readFrame tx 0 (fr [0, 0, 0, 0, 0xA5])).length
          ∧ continuationFits (fr [1]) tx = true ∧ (readFrame tx 0 (fr [1])).length < 5)
      ∧ ∃ tx, Live State.reset .a tx ∧ continuationFits (fr [0]) tx = true
        ∧ tx.contArmed = false :=
  ⟨⟨rfl, nofun, nofun, nofun, ⟨_, delivered_of_high rfl rfl⟩, rfl⟩,
    ⟨_, delivered_of_high rfl rfl, by unfold readWhole; decide +kernel,
      by unfold readWhole; decide +kernel⟩,
    ⟨_, live_of_high rfl rfl, rfl, rfl, by decide +kernel, rfl, by decide +kernel⟩,
    _, live_of_high rfl rfl, rfl, rfl⟩

/-- The two clears: with the selector 01h, with another, and torn. -/
theorem witness_ReadEnds_clears :
    (∃ tx, Delivered State.reset .a .readPortStatus tx ∧ readWhole tx .readPortStatus (fr [1])
        ∧ byteAt (readFrame tx 1 (fr [1])) 0 = 1 ∧ byteAt (readFrame tx 1 (fr [3])) 0 ≠ 1
        ∧ ¬ readWhole tx .readPortStatus (fr []))
      ∧ ∃ tx, Delivered State.reset .m .eventRead tx ∧ readWhole tx .eventRead (fr [1])
        ∧ byteAt (readFrame tx 1 (fr [1])) 0 = 1 ∧ byteAt (readFrame tx 1 (fr [0])) 0 ≠ 1
        ∧ ¬ readWhole tx .eventRead (fr []) :=
  ⟨⟨_, delivered_of_high rfl rfl, by unfold readWhole; decide +kernel, by decide +kernel,
      by decide +kernel, by unfold readWhole; decide +kernel⟩,
    _, delivered_of_high rfl rfl, by unfold readWhole; decide +kernel, by decide +kernel,
    by decide +kernel, by unfold readWhole; decide +kernel⟩

/-- The states of a transaction, and first fetches whose bytes open a data-out phase, miss the wait
bytes, miss a field, and carry no read. -/
theorem witness_FramesDecode :
    (let tx := sampleTx PortState.reset false;
      tx.phase = .command ∧ tx.wire = []
        ∧ framing .m tx.contArmed [0x99] = none
        ∧ framing .m tx.contArmed [0x11, 0] = some ⟨.read, [0], false⟩)
      ∧ (∃ tx, (begun .m State.reset).power = .active
        ∧ ((begun .m State.reset).port .m).sel = .opened tx
        ∧ tx.dormant = false ∧ tx.readOp = none
        ∧ (receiveWire .m tx (waited [0x11, 0, 0, 0, 9])).phase = .data
        ∧ decodeRead .m tx.contArmed (receiveWire .m tx (waited [0x11, 0, 0, 0, 9])).wire
          = some (.read 9)
        ∧ (receiveWire .m tx [0x11, 0, 0, 0, 9]).phase = .wait
        ∧ (receiveWire .m tx [0x11, 0, 0, 0]).phase = .address
        ∧ decodeRead .m tx.contArmed (receiveWire .m tx [0x21]).wire = none)
      ∧ leavesContinuation (receiveWire .m
          (sampleTx { PortState.reset with contArmed := true } false) [0x80]) = true :=
  ⟨by decide, ⟨_, rfl, rfl, rfl, rfl, by decide, by decide, by decide, by decide, by decide⟩,
    by decide⟩

/-- A port with continuation ARMED and OFF, one in its wait bytes, one in data-out, and a byte driven. -/
theorem witness_LanesCarryBytes :
    lanesOf .fourData .command = [0] ∧ lanesOf .fourData .fields = [0, 1, 2, 3]
      ∧ { PortState.reset with contArmed := true }.contArmed = true
      ∧ PortState.reset.contArmed = false
      ∧ (receiveWire .m (sampleTx PortState.reset false) [0x11, 0, 0, 0, 9]).phase = .wait
      ∧ (readTx .identify 1).readOp ≠ none
      ∧ ∃ t, exec (.dataByteFetch .a [0x80]) State.reset = .next t
        ∧ (t.port .a).driven = onIO1 0x50 :=
  ⟨by decide, by decide, rfl, rfl, by decide, by decide, _, rfl, by decide +kernel⟩

/-! ### Reads -/

/-- A byte that passes every check, on each port. -/
theorem witness_ArrayByte_passes :
    (let s := reading .m (.read 0x1FFFFFF) 1 State.reset
      ∃ tx, s.power = .active ∧ (s.port .m).sel = .opened tx ∧ tx.dormant = false
        ∧ readAddress tx.wrap tx.fetched (.read 0x1FFFFFF) = some (0x1FFFFFF, 0)
        ∧ meetsSuspended s 0 1 = false ∧ bankBusyAt s 0 = false)
      ∧ (let s := reading .a (.wrapRead 0x3F) 1 State.reset
      ∃ tx j, (s.port .a).sel = .opened tx
        ∧ readAddress tx.wrap tx.fetched (.wrapRead 0x3F) = some (0x3F, 0)
        ∧ translate s.activeImage 0 = some (j, 0) ∧ s.activeImage.entries[j].aRights ≠ 0
        ∧ meetsSuspended s 0 1 = false ∧ bankBusyAt s 0 = false) :=
  ⟨⟨_, rfl, rfl, rfl, by decide +kernel, by decide +kernel, by decide +kernel⟩,
    _, 0, rfl, by decide +kernel, by decide +kernel, by decide +kernel, by decide +kernel,
    by decide +kernel⟩

/-- A byte that fails a check: unmapped, without a right, suspended, busy. -/
theorem witness_ArrayByte_fails :
    (let s := withEntry0 (fun _ => clearedEntry) (reading .a (.read 0) 0 State.reset)
      ∃ tx, (s.port .a).sel = .opened tx ∧ translate s.activeImage 0 = none)
      ∧ (let s := withEntry0 (fun e => { e with aRights := 0 }) (reading .a (.read 0) 0 State.reset)
        translate s.activeImage 0 = some (0, 0) ∧ s.activeImage.entries[(0 : Fin 16)].aRights = 0)
      ∧ (let s := reading .m (.read 0xFFF) 0 (queued [erase .a .suspended])
        meetsSuspended s 0xFFF 1 = true ∧ meetsSuspended s 0x1000 1 = false)
      ∧ (let s := reading .m (.read 0xFFFFFF) 0 (queued [erase .a .active])
        meetsSuspended s 0xFFFFFF 1 = false ∧ bankBusyAt s 0xFFFFFF = true
          ∧ bankBusyAt s 0x1000000 = false) :=
  ⟨⟨_, rfl, by decide +kernel⟩, by decide +kernel, by decide +kernel, by decide +kernel⟩

theorem witness_AddressOutsideTheArray :
    (let s := reading .a (.read 0x2000000) 0 State.reset
      ∃ tx, s.power = .active ∧ (s.port .a).sel = .opened tx ∧ tx.dormant = false
        ∧ readAddress tx.wrap tx.fetched (.read 0x2000000) = some (0x2000000, 0)
        ∧ (0x2000000 : Word).extractLsb' 25 7 ≠ 0)
      ∧ (0x1FFFFFF : Word).toNat ≤ 0x1FFFFFF
      ∧ decodeRead .a true [0x01, 0xFF, 0xFF, 0xFF, 0x00] = some (.streamRead 0x1FFFFFF true) :=
  ⟨⟨_, rfl, rfl, rfl, by decide +kernel, by decide +kernel⟩, by decide, rfl⟩

theorem witness_SealAndStatusBytes :
    (let s := reading .a (.readSeal 2 511) 1 State.reset
      ∃ tx, s.power = .active ∧ (s.port .a).sel = .opened tx ∧ tx.dormant = false
        ∧ tx.readOp = some (.readSeal 2 511) ∧ (2 : Byte).toNat ≤ 2)
      ∧ (let s := reading .a (.readSeal 3 0) 0 State.reset
      ∃ tx, (s.port .a).sel = .opened tx ∧ tx.readOp = some (.readSeal 3 0) ∧ 3 ≤ (3 : Byte).toNat)
      ∧ (let s := reading .m (.table 0x8F) 12 State.reset
      ∃ tx rec, (s.port .m).sel = .opened tx ∧ tx.readOp = some (.table 0x8F)
        ∧ fixedRecord s (.table 0x8F) = some rec)
      ∧ (let s := reading .m (.mailboxData 0 255) 1 State.reset
      ∃ tx, (s.port .m).sel = .opened tx ∧ tx.readOp = some (.mailboxData 0 255))
      ∧ (let s := reading .m (.portStatus 1) 18 State.reset
      ∃ tx, (s.port .m).sel = .opened tx ∧ tx.readOp = some (.portStatus 1)) :=
  ⟨⟨_, rfl, rfl, rfl, rfl, by decide⟩, ⟨_, rfl, rfl, by decide⟩, ⟨_, _, rfl, rfl, rfl⟩,
    ⟨_, rfl, rfl⟩, _, rfl, rfl⟩

/-- The layout of the status record: with an operation ACTIVE, with none, and with the queue full. -/
theorem witness_SealAndStatusBytes_status :
    (WithinCapacity busy ∧ (activeEntry busy).isSome = true)
      ∧ (WithinCapacity State.reset ∧ activeEntry State.reset = none)
      ∧ (let s := queued (List.replicate 4 (erase .a .waiting) ++ List.replicate 4 (erase .m .waiting));
        WithinCapacity s ∧ s.queue.length = 8 ∧ outstanding s .a = 4) := by
  unfold WithinCapacity
  decide +kernel

/-- A byte of MAILBOX_DATA_READ of a HELD program, and of a slot that holds none; the entry that a field of
TABLE_READ selects. -/
theorem witness_SealAndStatusBytes_selected :
    (let s := slotted heldProgram (buffered .a State.reset);
      slotOfField 0 = some .s0 ∧ (s.slot .s0).state = .held ∧ (s.slot .s0).kind = .pageProgram
        ∧ (s.slot .s0).buffer = some 0 ∧ s.pool[(0 : Fin 6)] = some { origin := .a, data := [(0, 0x12)] })
      ∧ (let s := slotted heldErase State.reset;
        (s.slot .s0).state = .held ∧ (s.slot .s0).kind ≠ .pageProgram)
      ∧ ((0x8F : Byte).extractLsb' 0 4).toNat = (15 : Fin 16).val := by
  decide +kernel

/-- The layouts: a HELD slot, a RELEASING one, an EMPTY one and a field that names none; a listed job without
and with a fault, and an index past the list. -/
theorem witness_SealAndStatusBytes_records :
    (slotOfField 0 = some .s0 ∧ ((slotted heldErase State.reset).slot .s0).state ≠ .empty)
      ∧ (slotOfField 1 = some .s1 ∧ ({ State.reset with
          slot1 := { heldErase with state := .releasing, deadline := some 0 } }.slot .s1).state ≠ .empty)
      ∧ (∃ slot, slotOfField 1 = some slot ∧ (State.reset.slot slot).state = .empty)
      ∧ 2 ≤ (2 : Byte).toNat
      ∧ (engineIn .idle State.reset).jobs[(0 : Byte).toNat]? = some copyJob ∧ copyJob.fault = none
      ∧ (let d := { copyJob with state := .faulted, fault := some (.guarded, 0x20000) }
        { State.reset with jobs := [d] }.jobs[(0 : Byte).toNat]? = some d
          ∧ d.fault = some (.guarded, 0x20000))
      ∧ (engineIn .idle State.reset).jobs.length ≤ (1 : Byte).toNat := by
  refine ⟨by decide +kernel, by decide +kernel, ⟨.s1, by decide +kernel⟩, by decide, rfl, rfl,
    ⟨rfl, rfl⟩, by decide +kernel⟩

/-- The fetch of byte 0 of a delivery: the first of a transaction, and a peek's second. -/
theorem witness_RecordDeliveries :
    (let s := reading .a .completions 0
        { State.reset with portA := { PortState.reset with fifo := [record 3] } }
      ∃ tx, (s.port .a).sel = .opened tx ∧ tx.readOp = some .completions ∧ tx.delivery = none
        ∧ tx.fetched % 4 = 0
        ∧ some [3, 2, 0, 0] = (s.port .a).fifo.head?.map completionBytes)
      ∧ (let s := { State.reset with log := [someEvent], portM := { PortState.reset with
          sel := .opened { readTx .peek 10 with
            peekAt := 1, delivery := some ⟨eventBytes someEvent, true⟩ } } }
      ∃ tx, s.power = .active ∧ (s.port .m).sel = .opened tx ∧ tx.dormant = false
        ∧ tx.readOp = some .peek ∧ tx.fetched % 10 = 0 ∧ s.log[tx.peekAt]? = none) :=
  ⟨⟨_, rfl, rfl, rfl, rfl, by decide +kernel⟩, _, rfl, rfl, rfl, rfl, rfl, rfl⟩

/-- Later bytes of a delivery, the fetch after its last one, and the two pops. -/
theorem witness_RecordDeliveries_later :
    (let tx := { readTx .completions 3 with delivery := some ⟨[3, 2, 0, 0], true⟩ };
      deliveryBytes .completions = some 4 ∧ tx.fetched % 4 ≠ 0)
      ∧ (let tx := { readTx .completions 4 with delivery := some ⟨[3, 2, 0, 0], true⟩ };
      0 < tx.fetched ∧ tx.fetched % 4 = 0 ∧ tx.delivery = some ⟨[3, 2, 0, 0], true⟩)
      ∧ (let tx := { readTx (.events 0) 10 with delivery := some ⟨eventBytes someEvent, true⟩ };
      deliveryBytes (.events 0) = some 10 ∧ 0 < tx.fetched ∧ tx.fetched % 10 = 0)
      ∧ (let s := { State.reset with portA := { PortState.reset with
          sel := .opened { readTx .completions 1 with delivery := some ⟨[3, 2, 0, 0], true⟩ } } }
      ∃ t tx', exec .tick s = .next t ∧ (t.port .a).sel = .opened tx'
        ∧ (∀ w, Instr.tick ≠ .dataByteFetch .a w) ∧ Instr.tick ≠ .completionPop .a) :=
  ⟨by decide, by decide, by decide, _, _, rfl, rfl, nofun, nofun⟩

end Sys2Proof.Tests
end

