-- ==== Sys2Proof/Tests/Slice0.lean ====
section
/-! SUPPORT. Tests: each well-formedness check refuses a term, and small checks of each row, their
expected values worked out by hand from the rule that the row's test names. -/

namespace Sys2Proof.Tests

open Sys2Proof Sys2Proof.Machine

set_option Elab.async false

/-! ### Well-formedness -/

/-- R13: the first byte of a continuation transaction is 00h or 01h. -/
theorem test_wf_continuation_lead :
    (Instr.continuationTransaction .a (fr [2, 0, 0, 0, 0xA5])).wf = false
      ∧ (Instr.continuationTransaction .a (fr [])).wf = false
      ∧ (Instr.continuationTransaction .a (fr [1, 0, 0, 0, 0xA5])).wf = true := by decide

/-- R8: 11h is a command of both ports; 90h is one of Port M alone. -/
theorem test_wf_unknown_command :
    (Instr.unknownCommand .a 0x11 (fr [])).wf = false ∧ (Instr.unknownCommand .m 0x90 (fr [])).wf = false
      ∧ (Instr.unknownCommand .a 0x90 (fr [])).wf = true := by decide

/-- R6: output follows the frame. -/
theorem test_wf_fetch_needs_a_frame : (Instr.dataByteFetch .a []).wf = false := by decide

/-- R74: the largest target is a 64 KB block. -/
theorem test_wf_stuck_in_target :
    (Instr.operationCompletion [(65536, 1)]).wf = false
      ∧ (Instr.operationCompletion [(65535, 1)]).wf = true := by decide

/-- Chapter 8.3: a store slot has 213 bytes. -/
theorem test_wf_leftover :
    (Instr.powerLoss { slot := some (List.replicate 212 0) }).wf = false
      ∧ (Instr.resetNAssert { active := [(65536, 1)] }).wf = false
      ∧ (Instr.powerOn { suspended := [(65536, 1)] }).wf = false
      ∧ (Instr.powerOn { slot := some (List.replicate 213 0) }).wf = true := by decide +kernel

/-! ### Encodings that the manual writes out -/

/-- Chapter 11.2, a code of each family, and R8. -/
theorem test_command_codes :
    decodeCommand 0x11 = some .read ∧ decodeCommand 0x30 = some .pageProgram
      ∧ decodeCommand 0x44 = some .cancel ∧ decodeCommand 0x50 = some .readPortStatus
      ∧ decodeCommand 0x60 = some .setLanes ∧ decodeCommand 0x71 = some .resetPort
      ∧ decodeCommand 0x81 = some .readSeal ∧ decodeCommand 0x95 = some .swapViews
      ∧ decodeCommand 0xA2 = some .mailboxRedirect ∧ decodeCommand 0xB0 = some .heartbeat
      ∧ decodeCommand 0xC0 = some .jobLoad ∧ decodeCommand 0xD1 = some .eventPeek
      ∧ decodeCommand 0xE2 = some .guardFuse ∧ decodeCommand 0x99 = none
      ∧ decodeFor .a 0x7B = some .wake ∧ decodeFor .a 0x7A = none := by decide

/-- R129: the check value of the CRC-32. -/
theorem test_crc32_check_value :
    crc32 0xFFFFFFFF [0x31, 0x32, 0x33, 0x34, 0x35, 0x36, 0x37, 0x38, 0x39] = 0xCBF43926 := by
  decide +kernel

/-- R138: the shipped device's slot 0 is VALID, an erased slot BLANK, a slot with one bit wrong TORN. -/
theorem test_slot_classes :
    classify (slotOf 1 factoryImage) = .valid ∧ classify blankSlot = .blank
      ∧ classify (slotWithStuck (slotOf 1 factoryImage) [(5, 1)]) = .torn := by decide +kernel

/-- R132 and chapter 4.9: the factory image's first bytes. -/
theorem test_factory_image_bytes :
    (imageToBytes factoryImage).length = 205
      ∧ (imageToBytes factoryImage).take 25
        = [0, 0, 8, 8, 2, 2, 0, 0, 0xFF, 0x32, 0, 0x14, 0,
          0x01, 0, 0, 0x02, 0, 0, 0, 0x02, 0x02, 0, 0, 0xFF] := by decide +kernel

/-- R171: 57 bytes, the device's name first. -/
theorem test_identification :
    Config.identification.length = 57 ∧ Config.identification.take 3 = [0x50, 0x56, 0x32] := by decide

/-- Chapter 9.3 and 9.4: the bytes of the records. -/
theorem test_record_bytes :
    completionBytes ⟨9, .blockErase, .denied, true, true⟩ = [9, 3, 2, 3]
      ∧ eventBytes ⟨0x0102, .jobFault, 3, 4, 5, 0x01020304⟩
        = [1, 2, 0x12, 3, 4, 5, 1, 2, 3, 4] := by decide

/-- R7: the n-th byte goes to position (s + n) modulo 256, over what it held. -/
theorem test_latch_wraps : latchFill [] 255 [1, 2] = [(0, 2), (255, 1)] := by decide

/-! ### Lanes and states of a transaction -/

/-- R3: A5h on four lanes is 1010 on IO3 to IO0 and then 0101; on IO0 its most significant bit is first. -/
theorem test_byte_on_the_lanes :
    byteSignal .fourAll .command 0xA5
        = [[(0, false), (1, true), (2, false), (3, true)], [(0, true), (1, false), (2, true), (3, false)]]
      ∧ (byteSignal .fourData .command 0xA5).map (·.map (·.2))
        = [[true], [false], [true], [false], [false], [true], [false], [true]]
      ∧ lanesOf .one .dataOut = [1] ∧ clocksOf .fourData .dataOut = 2 := by decide

/-- R4, R6: READ's four address bytes, then its wait bytes, then data; STREAM_READ's mark comes before. -/
theorem test_transaction_states :
    let phase := fun bs => (receiveWire .a (sampleTx { PortState.reset with wait := 1 } false) bs).phase
    phase [] = .command ∧ phase [0x11] = .address ∧ phase [0x11, 0, 0, 0] = .address
      ∧ phase [0x11, 0, 0, 0, 0] = .wait ∧ phase [0x11, 0, 0, 0, 0, 0] = .data
      ∧ phase [0x1C, 0, 0, 0, 0] = .mark ∧ phase [0x1C, 0, 0, 0, 0, 0xA5] = .wait
      ∧ phase [0x50, 0] = .data ∧ phase [0x21] = .data ∧ phase [0x99, 0] = .command := by decide

/-- R6: the port puts nothing out before the wait bytes have been clocked. -/
theorem test_no_output_in_the_wait_bytes :
    let s := after (.dataByteFetch .a [0x11, 0, 0, 0, 0]) State.reset
    s.portA.driven = none ∧ txState s.portA = .wait
      ∧ (after (.dataByteFetch .a (waited [0x11, 0, 0, 0, 0])) s).portA.driven = onIO1 0xFF := by
  decide +kernel

/-- R13: a first byte of 80h turns continuation OFF at once; 00h leaves it until the end. -/
theorem test_continuation_ends_at_the_first_byte :
    let s := { State.reset with portA := { PortState.reset with contArmed := true } }
    (after (.dataByteFetch .a [0x80]) s).portA.contArmed = false
      ∧ (after (.dataByteFetch .a (waited [0, 0, 0, 0, 0xA5])) s).portA.contArmed = true := by
  decide +kernel

/-! ### Instants -/

/-- The next state of a number of steps; the state itself where the machine stops. -/
def steps : Nat → State → State
  | 0, s => s
  | n + 1, s => match step s with
    | .next t => steps n t
    | _ => s

/-- R17: the events of an instant wait in the request order, the device's own among them. -/
theorem test_request_order :
    (steps 1 { State.reset with arriving := [[.read .a (fr []), .armWrite .m (fr []), .tick]] }).pending
      = [.armWrite .m (fr []), .read .a (fr []), .tick, .trapDeadlineExpiry .s0,
        .trapDeadlineExpiry .s1, .holdDeadlineExpiry, .runQuantumExpiry, .watchdogWarningPoint,
        .watchdogLapse, .jobStepIssue, .chunkRead, .entryRestart, .entryStart] := by decide +kernel

/-- R167: the tick of the instant at which DORMANT is accepted is not delivered; one more instant's is. -/
theorem test_no_tick_with_dormant :
    let s := { watching .armed 30 15 State.reset with arriving := [[.tick, .dormant .m (fr []) []]] }
    (steps 13 s).watchdog = s.watchdog ∧ (steps 13 s).power = .dormant
      ∧ (steps 12 { s with arriving := [[.tick]] }).watchdog.left = 29 := by decide +kernel

/-- R15: a timer does not count the tick of the instant at which it is started, and counts the next. -/
theorem test_tick_at_the_start :
    let s := { State.reset with slot0 := heldErase, watchdog := (watching .armed 30 15 State.reset).watchdog
                                arriving := [[.tick, .heartbeat .m (fr [])], [.tick]] }
    let t := withSettings (fun x => { x with watchdogInterval := 4 }) s
    (steps 13 t).watchdog.left = 40 ∧ (steps 13 t).started = noneStarted
      ∧ (steps 25 t).watchdog.left = 39 := by decide +kernel

/-- R159: a cause that comes and goes within one instant gives no pulse. -/
theorem test_no_pulse_within_an_instant :
    let s := { State.reset with
      engine := .halted, jobAttn := true, portM := { PortState.reset with irqMask := 0xFF }, irqM := false
      pending := [.tick, .jobClear .m (fr [])], instantLeft := 2 }
    (steps 1 s).irqM = false ∧ irqLow (steps 1 s) .m = true ∧ (steps 2 s).irqM = false
      ∧ (steps 1 { s with pending := [.tick], instantLeft := 1 }).irqM = true := by decide +kernel

/-! ### Reads -/

/-- Bytes 12h at address 0 and 34h at the last address. -/
def written : State := { State.reset with array := [(0, 0x12), (0x1FFFFFF, 0x34)] }

/-- R21: the byte after the last address is address 0's. -/
theorem test_read_wraps_the_array :
    let s1 := after (.dataByteFetch .m (waited [0x11, 1, 0xFF, 0xFF, 0xFF])) written
    let s2 := after (.dataByteFetch .m (waited [0x11, 1, 0xFF, 0xFF, 0xFF])) s1
    s1.portM.driven = onIO1 0x34 ∧ s2.portM.driven = onIO1 0x12
      ∧ (after (.read .m (fr [1, 0xFF, 0xFF, 0xFF])) s2).portM.sel = .high := by decide +kernel

/-- R22: with the 64-byte group the byte after 3Fh is 00h. -/
theorem test_wrap_read :
    let s1 := after (.dataByteFetch .a (waited [0x14, 0, 0, 0, 0x3F])) written
    let s2 := after (.dataByteFetch .a (waited [0x14, 0, 0, 0, 0x3F])) s1
    s1.portA.driven = onIO1 0xFF ∧ s2.portA.driven = onIO1 0x12
      ∧ (after (.wrapRead .a (fr [0, 0, 0, 0x3F])) s2).portA.contArmed = false := by decide +kernel

/-- R12: A5h arms continuation, another mark does not. -/
theorem test_stream_read_mark :
    (after (.streamRead .a (fr [0, 0, 0, 0, 0xA5])) State.reset).portA.contArmed = true
      ∧ (after (.streamRead .a (fr [0, 0, 0, 0, 0xA4]))
        (State.reset.setPort .a { PortState.reset with contArmed := true })).portA.contArmed = false := by
  decide +kernel

/-- R13: a continuation transaction reads, and its mark keeps continuation. -/
theorem test_continuation_transaction :
    let s := { written with portM := { PortState.reset with contArmed := true } }
    (after (.dataByteFetch .m (waited [0, 0, 0, 0, 0xA5])) s).portM.driven = onIO1 0x12
      ∧ (after (.continuationTransaction .m (fr [0, 0, 0, 0, 0xA5])) s).portM.contArmed = true
      ∧ (after (.continuationTransaction .m (fr [0, 0, 0, 0, 0xA5])) State.reset).portM.lastRefusal
        = .unknownCommand := by decide +kernel

/-- R32: byte (s + n) modulo 512 of the page; page 3 does not exist. -/
theorem test_read_seal :
    let s := { State.reset with sealStore := [(1024, 0x77)] }
    let s1 := after (.dataByteFetch .a (waited [0x81, 2, 0x01, 0xFF])) s
    (after (.dataByteFetch .a (waited [0x81, 2, 0x01, 0xFF])) s1).portA.driven = onIO1 0x77
      ∧ (after (.dataByteFetch .a (waited [0x81, 3, 0, 0])) s).portA.flags.masked = true
      ∧ (after (.readSeal .a (fr [2, 1, 0xFF])) s1).portA.sel = .high := by decide +kernel

/-- R24, R29: a byte in the busy bank is the filler with COLLIDED; the other bank's is not. -/
theorem test_fetch_in_the_busy_bank :
    let s := { queued [erase .m .active] with array := [(0x1000000, 0x55)] }
    (after (.dataByteFetch .m (waited [0x11, 0, 0, 0, 0])) s).portM.flags.collided = true
      ∧ (after (.dataByteFetch .m (waited [0x11, 1, 0, 0, 0])) s).portM.driven = onIO1 0x55 := by
  decide +kernel

/-- R20: an address outside the array sets MASKED. -/
theorem test_fetch_outside_the_array :
    let s := after (.dataByteFetch .a (waited [0x11, 2, 0, 0, 0])) State.reset
    s.portA.flags.masked = true ∧ s.portA.driven = onIO1 0xFF ∧ s.portA.lastRefusal = .none := by
  decide +kernel

/-- R8: UNKNOWN_COMMAND, with no event. -/
theorem test_unknown_command :
    let s := after (.unknownCommand .a 0x99 (fr [1, 2])) State.reset
    s.portA.lastRefusal = .unknownCommand ∧ s.portA.refusalNew = true ∧ s.log = [] := by
  decide +kernel

/-! ### Port settings and status -/

/-- R34. -/
theorem test_arm_write : (after (.armWrite .a (fr [])) State.reset).portA.wel = true := by
  decide +kernel
/-- R9, R34: a torn DISARM_WRITE leaves WEL. -/
theorem test_disarm_write :
    (after (.disarmWrite .a (fr [])) (arm .a State.reset)).portA.wel = false
      ∧ (after (.disarmWrite .a (cut [])) (arm .a State.reset)).portA.wel = true := by
  decide +kernel
/-- R11. -/
theorem test_set_lanes :
    (after (.setLanes .m (fr [2])) State.reset).portM.lane = .fourAll
      ∧ (after (.setLanes .m (fr [3])) State.reset).portM.lastRefusal = .badArgument := by
  decide +kernel
/-- R11. -/
theorem test_set_wait :
    (after (.setWait .a (fr [15])) State.reset).portA.wait = 15
      ∧ (after (.setWait .a (fr [16])) State.reset).portA.wait = 8 := by decide +kernel
/-- R11. -/
theorem test_set_wrap :
    (after (.setWrap .a (fr [3])) State.reset).portA.wrap = .b256
      ∧ (after (.setWrap .a (fr [4])) State.reset).portA.wrap = .b64 := by decide +kernel
/-- R11, R159: a mask bit over a cause drives the output low at once. -/
theorem test_set_irq_mask :
    let s := { State.reset with portA := { PortState.reset with fifo := [record 3] } }
    (after (.setIrqMask .a (fr [1])) s).irqA = true
      ∧ (after (.setIrqMask .a (fr [2])) s).irqA = false := by decide +kernel
/-- R14. -/
theorem test_reset_arm :
    (after (.resetArm .a (fr [])) State.reset).portA.resetArmed = true
      ∧ (after (.armWrite .a (fr [])) (after (.resetArm .a (fr [])) State.reset)).portA.resetArmed
        = false := by decide +kernel
/-- R14, R165. -/
theorem test_reset_port :
    let s := after (.resetPort .a (fr [])) (after (.resetArm .a (fr []))
      (arm .a (queued [erase .a .waiting, erase .a .active])))
    s.queue = [{ erase .a .active with orphan := true }] ∧ s.portA.wel = false
      ∧ s.log.map (fun e => (e.kind, e.origin, e.detail)) = [(.portReset, 1, 1)]
      ∧ (after (.resetPort .a (fr [])) State.reset).portA.lastRefusal = .sequence := by
  decide +kernel
/-- R150, R152: the record's settings byte, and the clear. -/
theorem test_read_port_status :
    let s := { State.reset with portA := { PortState.reset with refusalNew := true } }
    byteAt (statusRecord s .a false) 6 = 0x28
      ∧ (after (.readPortStatus .a (fr [1])) s).portA.refusalNew = false
      ∧ (after (.readPortStatus .a (fr [0])) s).portA.refusalNew = true := by decide +kernel
/-- R151: bytes 8 to 17 of Port M's record for the shipped device: ARMED slot states and generation 1. -/
theorem test_status_record_m :
    (statusRecord State.reset .m false).drop 8 = [0, 0x08, 0, 0, 0, 0, 0, 0, 0, 1] := by
  decide +kernel
/-- R155: the fourth byte's fetch, then the pop. -/
theorem test_completion_pop :
    let s0 := { State.reset with portA := { PortState.reset with fifo := [record 3, record 4] } }
    let f := after (.dataByteFetch .a [0x51])
    let s := f (f (f (f s0)))
    s.portA.fifo.length = 2 ∧ (after (.completionPop .a) s).portA.fifo = [record 4]
      ∧ (f s0).portA.driven = onIO1 3 := by decide +kernel
/-- R155: the end of a read part way through a record pops nothing. -/
theorem test_read_completions :
    let s0 := { State.reset with portA := { PortState.reset with fifo := [record 3] } }
    let s := after (.readCompletions .a (fr [])) (after (.dataByteFetch .a [0x51]) s0)
    s.portA.fifo = [record 3] ∧ s.portA.sel = .high := by decide +kernel
/-- R157: the tenth byte's fetch, then the pop; the selector clears the overflow counter. -/
theorem test_event_read_and_pop :
    let s0 := { State.reset with log := [someEvent], overflow := 7 }
    let f := after (.dataByteFetch .m [0xD0, 1])
    let s := after .eventPop (f (f (f (f (f (f (f (f (f (f s0))))))))))
    (f s0).portM.driven = onIO1 0 ∧ s.log = []
      ∧ (after (.eventRead .m (fr [1])) s).overflow = 0 ∧ s.overflow = 7 := by decide +kernel
/-- R158: a peek leaves the log. -/
theorem test_event_peek :
    let s0 := { State.reset with log := [someEvent] }
    let f := after (.dataByteFetch .m [0xD1])
    (f (f s0)).portM.driven = onIO1 7
      ∧ (after (.eventPeek .m (fr [])) (f (f s0))).log = [someEvent] := by decide +kernel
/-- R170. -/
theorem test_identify :
    (after (.dataByteFetch .a [0x80]) State.reset).portA.driven = onIO1 0x50
      ∧ (after (.identify .a (fr [])) State.reset).portA.refusalNew = false := by decide +kernel

/-! ### Modify requests and the queue -/

/-- R37, R40: a program is queued with its page, tag 1 and buffer 0. -/
theorem test_page_program :
    let s := after (.pageProgram .a programFrame) (arm .a State.reset)
    s.queue = [{ entry .pageProgram .a (.array 0 256) .waiting with tag := 1, buffer := some 0 }]
      ∧ s.pool[(0 : Fin 6)] = some ⟨.a, [(255, 0xAB)]⟩ ∧ s.portA.wel = false
      ∧ s.portA.lastTag = 1 ∧ s.portA.latch = [] ∧ s.portA.received = 0 := by decide +kernel
/-- R35, R36: the sector that contains the address; without WEL, NOT_ARMED. -/
theorem test_sector_erase :
    (after (.sectorErase .m (fr [0, 0, 0x12, 0x34])) (arm .m State.reset)).queue.map (·.target)
        = [.array 0x1000 4096]
      ∧ (after (.sectorErase .m (fr [0, 0, 0x12, 0x34])) State.reset).portM.lastRefusal
        = .notArmed := by decide +kernel
/-- R36, R42. -/
theorem test_block_erase :
    (after (.blockErase .a (fr [0, 3, 0x12, 0x34])) (arm .a State.reset)).queue.map (·.target)
        = [.array 0x30000 65536]
      ∧ (after (.blockErase .a (fr [0, 3, 0x12, 0x34])) (arm .a (withEntry0
          (fun e => { e with aRights := 1 }) State.reset))).log.map
          (fun e => (e.kind, e.detail, e.address)) = [(.modifyRefused, 7, 0x00031234)] := by
  decide +kernel
/-- R96: a trapped program is held, with its data count and deadline. -/
theorem test_trapped_program :
    let s := after (.pageProgram .a programFrame) (arm .a (trapping State.reset))
    s.slot0.state = .held ∧ s.slot0.tag = 1 ∧ s.slot0.count = 1 ∧ s.slot0.deadline = some 50
      ∧ s.slot0.physical = 255 ∧ s.queue = [] := by decide +kernel
/-- R87: during the run quantum a suspend is PENDING. -/
theorem test_suspend :
    (after (.suspend .a (fr [])) { queued [erase .a .active] with quantum := some 1 }).suspend
        = .pending
      ∧ (after (.suspend .a (fr [])) (queued [erase .a .active])).suspend = .taking := by
  decide +kernel
/-- R89. -/
theorem test_resume :
    (after (.resume .m (fr [])) (queued [erase .a .suspended])).queue.map (·.resumePending) = [true]
      ∧ (after (.resume .a (fr [])) (queued [erase .m .suspended])).portA.lastRefusal
        = .notOwner := by decide +kernel
/-- R85, R84. -/
theorem test_cancel :
    let s := after (.cancel .a (fr [9])) (queued [erase .a .waiting])
    s.queue = [] ∧ s.portA.fifo = [⟨9, .sectorErase, .cancelled, false, false⟩]
      ∧ (after (.cancel .m (fr [9])) (queued [erase .a .waiting])).portM.lastRefusal
        = .notFound := by decide +kernel

/-! ### Configuration -/

/-- R62: bit 7 of the field selects the staging image; bits 6 to 4 are ignored. -/
theorem test_table_read :
    (after (.dataByteFetch .m [0x90, 0xF0]) (badStaging State.reset)).portM.driven = onIO1 1
      ∧ byteAt (tableRecord (badStaging State.reset) 0x80) 2 = 1
      ∧ byteAt (tableRecord (badStaging State.reset) 0x00) 2 = 0
      ∧ (after (.tableRead .m (fr [0])) State.reset).portM.sel = .high := by decide +kernel
/-- R64. -/
theorem test_table_write_entry :
    (after (.tableWriteEntry .m (entryFrame 15)) State.reset).stagingImage.entries[(15 : Fin 16)]
        = factoryEntry
      ∧ (after (.tableWriteEntry .m (entryFrame 16)) State.reset).portM.lastRefusal
        = .badArgument := by decide +kernel
/-- R65. -/
theorem test_table_clear_entry :
    (after (.tableClearEntry .m (fr [0])) State.reset).stagingImage.entries[(0 : Fin 16)]
      = clearedEntry := by decide +kernel
/-- R66. -/
theorem test_stage_from_active :
    (after (.stageFromActive .m (fr [])) (badStaging State.reset)).stagingImage = factoryImage := by
  decide +kernel
/-- R140: a COMMIT is a WAITING barrier; R69: validation writes its detail. -/
theorem test_commit :
    (after (.commit .m (fr [])) (arm .m State.reset)).queue.map (fun e => (e.kind, e.tag, e.state))
        = [(.commit, 1, .waiting)]
      ∧ (after (.commit .m (fr [])) (arm .m (badStaging State.reset))).validation = 0x01 := by
  decide +kernel
/-- R70. -/
theorem test_swap_views :
    let s := after (.swapViews .m (fr [0, 1])) { State.reset with activeImage := swapImage }
    s.activeImage.entries[(0 : Fin 16)].viewBase = 16
      ∧ s.activeImage.entries[(1 : Fin 16)].viewBase = 0 ∧ s.dirty = true := by decide +kernel
/-- R133. -/
theorem test_settings_read :
    (after (.dataByteFetch .m [0x96, 0]) State.reset).portM.driven = onIO1 0
      ∧ byteAt (settingsRecord State.reset 1) 9 = 50
      ∧ (after (.settingsRead .m (fr [0])) State.reset).portM.sel = .high := by decide +kernel
/-- R134. -/
theorem test_settings_write_staged :
    (after (.settingsWriteStaged .m (fr [0, 2])) State.reset).stagingImage.settings.aLanes = 2
      ∧ (after (.settingsWriteStaged .m (fr [0, 2])) State.reset).dirty = false := by decide +kernel
/-- R134, R110. -/
theorem test_settings_write_live :
    let s := after (.settingsWriteLive .m (fr [10, 3])) State.reset
    s.watchdog = ⟨.armed, 30, 15, false⟩ ∧ s.dirty = true
      ∧ (after (.settingsWriteLive .m (fr [7, 3])) State.reset).portM.lastRefusal
        = .badArgument := by decide +kernel
/-- R137: one event, however often. -/
theorem test_lock_session :
    let s := after (.lockSession .m (fr [])) (after (.lockSession .m (fr [])) State.reset)
    s.sessionLock = true ∧ s.log.map (·.kind) = [.sessionLocked] := by decide +kernel
/-- R146. -/
theorem test_seal_program :
    (after (.sealProgram .m (fr [2, 1, 0x04, 0x5A])) (arm .m State.reset)).queue.map
        (fun e => (e.kind, e.target)) = [(.sealProgram, .sealPage 2 256)]
      ∧ (after (.sealProgram .m (fr [3, 0, 0, 1])) (arm .m State.reset)).portM.lastRefusal
        = .badArgument := by decide +kernel
/-- R148. -/
theorem test_seal_lock :
    (after (.sealLock .m (fr [1])) (arm .m State.reset)).queue.map (fun e => (e.kind, e.target))
        = [(.sealLock, .sealPage 1 0)]
      ∧ (after (.sealLock .m (fr [1])) (arm .m { State.reset with sealLocks := 2 })).portM.lastRefusal
        = .sealLocked := by decide +kernel
/-- R144. -/
theorem test_guard_fuse :
    (after (.guardFuse .m (fr [])) (arm .m State.reset)).queue.map (·.kind) = [.guardFuse]
      ∧ (after (.guardFuse .m (fr [])) (arm .m { State.reset with dirty := true })).portM.lastRefusal
        = .dirty := by decide +kernel

/-! ### Mailbox and watchdog -/

/-- R97: state, tag, kind, then the entry index and the addresses; FFFFh where no deadline runs. -/
theorem test_mailbox_read :
    let s := slotted { heldErase with logical := 0x1234, physical := 0x5678 } State.reset
    mailboxRecord s 0 = [1, 9, 2, 0, 0, 0, 0x12, 0x34, 0, 0, 0x56, 0x78, 0xFF, 0xFF, 1, 0, 0, 0]
      ∧ (after (.dataByteFetch .m [0xA0, 0]) s).portM.driven = onIO1 1
      ∧ (after (.mailboxRead .m (fr [0])) s).slot0 = s.slot0 := by decide +kernel
/-- R98. -/
theorem test_mailbox_data_read :
    let s := slotted heldProgram (buffered .a State.reset)
    (after (.dataByteFetch .m [0xA4, 0, 0]) s).portM.driven = onIO1 0x12
      ∧ (after (.mailboxDataRead .m (fr [0, 0])) s).portM.sel = .high := by decide +kernel
/-- R103. -/
theorem test_mailbox_data_write :
    (after (.mailboxDataWrite .m (fr [0, 255, 1, 2])) (slotted heldProgram
      (buffered .a State.reset))).pool[(0 : Fin 6)] = some ⟨.a, [(0, 2), (255, 1)]⟩ := by
  decide +kernel
/-- R100: into the queue, or RELEASING with the queue full. -/
theorem test_mailbox_release :
    let s := after (.mailboxRelease .m (fr [0])) (slotted heldErase State.reset)
    s.queue = [erase .a .waiting] ∧ s.slot0 = emptySlot
      ∧ (after (.mailboxRelease .m (fr [0])) (slotted heldErase (queued fullQueue))).slot0.state
        = .releasing := by decide +kernel
/-- R101: the new granule, the old offset. -/
theorem test_mailbox_redirect :
    let s := after (.mailboxRedirect .m (fr [0, 0, 0, 0x5F, 0xFF]))
      (slotted { heldErase with physical := 0x123 } State.reset)
    s.queue.map (fun e => (e.target, e.redirected)) = [(.array 0x5000 4096, true)]
      ∧ s.log.map (fun e => (e.kind, e.address)) = [(.trapRedirected, 0x5123)] := by decide +kernel
/-- R102. -/
theorem test_mailbox_deny :
    let s := after (.mailboxDeny .m (fr [0])) (slotted heldErase State.reset)
    s.slot0 = emptySlot ∧ s.portA.fifo = [⟨9, .sectorErase, .denied, false, false⟩]
      ∧ s.log.map (·.kind) = [.trapDenied] := by decide +kernel
/-- R17, R100: slot 0 first. -/
theorem test_releasing_slot_entry :
    let s := after .releasingSlotEntry (slotted { heldErase with state := .releasing } State.reset)
    s.queue = [erase .a .waiting] ∧ s.slot0.state = .empty := by decide +kernel
/-- R17: an entry that leaves a full queue is followed by the RELEASING slot's. -/
theorem test_releasing_slot_enters_on_completion :
    let s := after (.operationCompletion []) (slotted { heldErase with state := .releasing }
      (queued (erase .m .active :: List.replicate 7 (erase .m .waiting))))
    s.queue.length = 8 ∧ s.slot0.state = .empty
      ∧ s.queue.getLast? = some (erase .a .waiting) := by decide +kernel
/-- R104. -/
theorem test_trap_deadline_expiry :
    let s := after (.trapDeadlineExpiry .s0) (slotted
      { heldErase with deadline := some 0, release := false } State.reset)
    s.portA.fifo = [⟨9, .sectorErase, .denied, false, false⟩]
      ∧ s.log.map (fun e => (e.kind, e.detail)) = [(.trapTimeout, 0)] := by decide +kernel
/-- R107. -/
theorem test_heartbeat :
    let s := after (.heartbeat .m (fr [])) (withSettings
      (fun t => { t with watchdogInterval := 2 }) (watching .lapsed 0 0 State.reset))
    s.watchdog = ⟨.armed, 20, 10, false⟩ ∧ s.log.map (·.kind) = [.watchdogRestored] := by
  decide +kernel
/-- R106. -/
theorem test_watchdog_warning_point :
    (after .watchdogWarningPoint (watching .armed 5 0 State.reset)).watchdog.warn = true
      ∧ (after .watchdogWarningPoint (watching .armed 5 1 State.reset)).watchdog.warn = false := by
  decide +kernel
/-- R108: a HELD slot takes its default action with AUTO. -/
theorem test_watchdog_lapse :
    let s := after .watchdogLapse (slotted heldErase (watching .armed 0 0 State.reset))
    s.watchdog.state = .lapsed ∧ s.queue = [{ erase .a .waiting with auto := true }]
      ∧ s.log.map (·.kind) = [.watchdogLapse, .trapAuto] := by decide +kernel

/-! ### Jobs -/

/-- R113. -/
theorem test_job_load :
    let s := after (.jobLoad .m (digestFrame 1)) State.reset
    s.jobs = [newDescriptor 1 .digest [] 16 0 1] ∧ s.jobIdNext = 2
      ∧ (after (.jobLoad .m (digestFrame 0)) State.reset).portM.lastRefusal = .badArgument := by
  decide +kernel
/-- R116, R129: a DIGEST's register takes the seed. -/
theorem test_job_start :
    let s := after (.jobStart .m (fr [])) { State.reset with jobs := [digestJob] }
    s.engine = .running ∧ s.current = some 0 ∧ s.crc = 0xFFFFFFFF
      ∧ (after (.jobStart .m (fr [])) State.reset).portM.lastRefusal = .jobState := by decide +kernel
/-- R117. -/
theorem test_job_pause :
    (after (.jobPause .m (fr [])) (working copyJob State.reset)).engine = .paused
      ∧ (after (.jobPause .m (fr [])) (working copyJob (queued [erase .job .waiting]))).engine
        = .pausing := by decide +kernel
/-- R118. -/
theorem test_job_abort :
    let s := after (.jobAbort .m (fr [])) (working copyJob (queued [erase .job .waiting]))
    s.engine = .idle ∧ s.queue = [] ∧ s.jobs.map (·.state) = [.cancelled] ∧ s.jobAttn = true := by
  decide +kernel
/-- R119: the id, the state and the kind come first. -/
theorem test_job_read :
    let s := working copyJob State.reset
    (jobRecord s 0).take 3 = [5, 1, 1] ∧ (jobRecord s 0).length = 25
      ∧ jobRecord s 1 = List.replicate 25 0
      ∧ (after (.jobRead .m (fr [0])) s).portM.sel = .high := by decide +kernel
/-- R120. -/
theorem test_job_clear :
    (after (.jobClear .m (fr [])) (engineIn .halted State.reset)).jobs = []
      ∧ (after (.jobClear .m (fr [])) (engineIn .paused State.reset)).portM.lastRefusal = .busy := by
  decide +kernel
/-- R123: the page step of a COPY carries the source page. -/
theorem test_job_step_issue :
    let s := after .jobStepIssue { working copyJob State.reset with array := [(0x10001, 0x42)] }
    s.queue.map (fun e => (e.tag, e.origin, e.target)) = [(5, .job, .array 0x20000 256)]
      ∧ s.pool[(0 : Fin 6)] = some ⟨.job, [(1, 0x42)]⟩ ∧ s.cursor = ⟨256, false⟩ := by decide +kernel
/-- R127: a chunk ends at the end of the page; the last one ends the job (R125). -/
theorem test_chunk_read :
    let s := after .chunkRead (working digestJob State.reset)
    s.jobs.map (·.bytesDone) = [240]
      ∧ (after .chunkRead (after .chunkRead s)).jobs.map (·.state) = [.done]
      ∧ (after .chunkRead (after .chunkRead s)).log.map (·.kind) = [.jobDone] := by decide +kernel

/-! ### The sequencer -/

/-- R77, R87: the oldest eligible entry starts; an erase has a quantum. -/
theorem test_entry_start :
    let s := after .entryStart (queued [erase .m .waiting,
      entry .pageProgram .m (.array 8192 256) .waiting])
    s.queue.map (·.state) = [.active, .waiting] ∧ s.quantum = some 1 := by decide +kernel
/-- R91. -/
theorem test_entry_restart :
    let s := after .entryRestart { queued [{ erase .m .suspended with resumePending := true }] with
      hold := some 7 }
    s.queue.map (·.state) = [.active] ∧ s.hold = none ∧ s.quantum = some 1 := by decide +kernel
/-- R38, R83: the AND of old and new, the record, the freed buffer. -/
theorem test_operation_completion :
    let s := after (.operationCompletion []) busy
    memRead s.array 256 = 0x12 ∧ s.queue = [] ∧ s.portM.fifo = [⟨9, .pageProgram, .done, false, false⟩]
      ∧ s.pool[(0 : Fin 6)] = none := by decide +kernel
/-- R81, R83: a bit left wrong makes it FAILED, with its event. -/
theorem test_operation_completion_failed :
    let s := after (.operationCompletion [(0, 0x20)]) busy
    memRead s.array 256 = 0x32 ∧ s.portM.fifo.map (·.outcome) = [.failed]
      ∧ s.log.map (fun e => (e.kind, e.detail, e.address)) = [(.opFailed, 1, 256)] := by
  decide +kernel
/-- R88: the hold deadline of hold_limit 20 is 200 ticks. -/
theorem test_suspend_taken :
    let s := after .suspendTaken { queued [erase .a .active] with suspend := .taking }
    s.queue.map (·.state) = [.suspended] ∧ s.hold = some 200 ∧ s.suspend = .none := by decide +kernel
/-- R87. -/
theorem test_run_quantum_expiry :
    let s := after .runQuantumExpiry
      { queued [erase .a .active] with suspend := .pending, quantum := some 0 }
    s.suspend = .taking ∧ s.quantum = none := by decide +kernel
/-- R90. -/
theorem test_hold_deadline_expiry :
    let s := after .holdDeadlineExpiry { queued [erase .a .suspended] with hold := some 0 }
    s.queue.map (·.resumePending) = [true]
      ∧ s.log.map (fun e => (e.kind, e.tag, e.detail)) = [(.suspendExpired, 9, 2)] := by decide +kernel
/-- R141, R142: the shipped device's first changed COMMIT writes slot 1 with generation 2. -/
theorem test_commit_runs :
    let s := after (.operationCompletion []) (after .entryStart
      (after (.commit .m (fr [])) (arm .m (after (.settingsWriteStaged .m (fr [8, 0]))
        State.reset))))
    s.selected = some .s1 ∧ s.generation = 2 ∧ s.class1 = .valid
      ∧ s.activeImage.settings.filler = 0 ∧ s.log.map (·.kind) = [.commitDone] := by decide +kernel
/-- R15, R162, R167: no tick while DORMANT; one that was started at the instant does not count it. -/
theorem test_tick :
    let s := after .tick { watching .armed 30 15 State.reset with quantum := some 1, hold := some 7 }
    s.watchdog.left = 29 ∧ s.quantum = some 0 ∧ s.hold = some 6
      ∧ (after .tick { watching .armed 30 15 State.reset with power := .dormant }).watchdog.left = 30
      ∧ (after .tick { watching .armed 30 15 State.reset with
          hold := some 7, started := { noneStarted with hold := true } }).hold = some 7 := by
  decide +kernel

/-! ### Supply, resets, the dormant state, pins -/

/-- R161: power-on of the shipped device gives the reset state. -/
theorem test_power_on :
    after (.powerOn {}) { buffered .m State.reset with power := .off, sessionLock := true, jobAttn := true }
      = State.reset := by decide +kernel
/-- R173: the array survives, the queue does not; R164: the cut program leaves the bits shown. -/
theorem test_power_loss :
    let s := after (.powerLoss { active := [(0, 0x20)] }) busy
    s.power = .off ∧ memRead s.array 256 = 0x32 ∧ s.queue = [] := by decide +kernel
/-- R162, R163: the entry that RESET_N cut short is reported after the load. -/
theorem test_reset_n :
    let s := after (.resetNAssert {}) { busy with sessionLock := true }
    let t := after .resetNRelease s
    s.power = .inReset ∧ t.power = .active ∧ t.sessionLock = true ∧ t.queue = []
      ∧ t.log.map (fun e => (e.kind, e.origin, e.tag, e.detail, e.address))
        = [(.resetAborted, 2, 9, 1, 256)] := by decide +kernel
/-- R161: the release of a RESET_N that was low since power-on. -/
theorem test_reset_n_release_after_power_on :
    (after .resetNRelease (after (.powerOn {}) { State.reset with power := .off, resetN := false })).power
      = .active := by decide +kernel
/-- R2, R7: the falling edge empties the latch; an ignored transaction ends without effect. -/
theorem test_transaction_begin :
    let s := after (.transactionBegin .a)
      { State.reset with portA := { PortState.reset with latch := [(0, 1)], received := 1 } }
    txState s.portA = .command ∧ s.portA.latch = [] ∧ s.portA.received = 0 := by decide +kernel
/-- R2. -/
theorem test_ignored_transaction_end :
    (after (.ignoredTransactionEnd .m)
      { State.reset with portM := { PortState.reset with sel := .ignored } }).portM.sel = .high := by
  decide +kernel
/-- R136. -/
theorem test_guard_n_change :
    let s := withSettings (fun t => { t with guardMode := 1 }) State.reset
    guardPermits s = false ∧ guardPermits (after (.guardNChange true) s) = true := by decide +kernel
/-- R166, R167: Port A's transaction is abandoned with INTERRUPTED. -/
theorem test_dormant :
    let s := after (.dormant .m (fr []) [0x30]) (begun .a State.reset)
    s.power = .dormant ∧ s.portA.lastRefusal = .interrupted ∧ s.portA.sel = .ignored
      ∧ (after (.dormant .m (fr []) []) (queued fullQueue)).portM.lastRefusal = .busy := by
  decide +kernel
/-- R169: a torn WAKE of a DORMANT device is ignored. -/
theorem test_wake :
    (after (.wake .a (fr [])) asleep).power = .active
      ∧ (after (.wake .a (cut [])) asleep).power = .dormant
      ∧ (after (.armWrite .a (fr [])) asleep).portA.wel = false := by decide +kernel

/-! ### The step -/

/-- First in, first out. -/
theorem test_step_takes_the_front :
    ∃ t, step { State.reset with pending := [.armWrite .a (fr []), .disarmWrite .a (fr [])] } = .next t
      ∧ t.portA.wel = true ∧ t.pending = [.disarmWrite .a (fr [])] :=
  ⟨_, rfl, by decide +kernel, by decide +kernel⟩

/-- No table word spells a command (assumption 1). -/
theorem test_no_table_word : decodeTableWord 8 0x11 = none := rfl

end Sys2Proof.Tests
end

/-! ## What a command leaves of the outside

A port's interface, the waiting commands and the interrupt outputs are what the rest of the device does not
touch. `outside` reads them off a state; one lemma per operation says that it leaves them, and `exec_effect`
says once what each of the 76 commands may change of them. -/

namespace Sys2Proof.Machine

/-- What only the end of a command touches: the waiting commands and the interrupt outputs. -/
structure Serial where
  pending : List Instr
  arriving : List (List Instr)
  left : Nat
  irqA : Bool
  irqM : Bool

/-- The ports, as far as they keep their state for themselves, and the serial part. -/
structure Outside where
  portA : PortState
  portM : PortState
  serial : Serial

/-- A selection without what a lost completion record notes in its transaction (R152, R155). -/
def quietSel : Sel → Sel
  | .opened tx => .opened { tx with
      lostSince := false, delivery := tx.delivery.map fun d => { d with present := false } }
  | sel => sel

/-- A port without the items that operations inside the device report in (R48, R83, R152 to R154). -/
def quietPort (ps : PortState) : PortState :=
  { ps with
    sel := quietSel ps.sel, flags := noFlags, lastRefusal := .none, refusalNew := false, lastTag := 0
    tagNext := 0, fifo := [], completionLost := false }

@[simp] theorem quietPort_sel (ps : PortState) : (quietPort ps).sel = quietSel ps.sel := rfl
@[simp] theorem quietPort_driven (ps : PortState) : (quietPort ps).driven = ps.driven := rfl

/-- The serial part of a state. -/
def serial (s : State) : Serial :=
  { pending := s.pending, arriving := s.arriving, left := s.instantLeft, irqA := s.irqA, irqM := s.irqM }

/-- What of a state the operations inside the device leave. -/
def outside (s : State) : Outside :=
  { portA := quietPort s.portA, portM := quietPort s.portM, serial := serial s }

@[simp] theorem quietSel_noteLoss (sel : Sel) : quietSel (noteLoss sel) = quietSel sel := by
  cases sel with
  | high => rfl
  | ignored => rfl
  | opened tx =>
    simp only [noteLoss, quietSel]
    split <;> simp [Function.comp_def]

theorem outside_setPort {s : State} {p : Port} {ps : PortState}
    (h : quietPort ps = quietPort (s.port p)) : outside (s.setPort p ps) = outside s := by
  cases p
  · simp only [State.port] at h
    simp [outside, State.setPort, h, serial]
  · simp only [State.port] at h
    simp [outside, State.setPort, h, serial]

@[simp] theorem outside_logEvent (s : State) (k : EventKind) (o t d : Byte) (a : Word) :
    outside (logEvent s k o t d a) = outside s := by
  unfold logEvent; split <;> rfl

@[simp] theorem outside_pushCompletion (s : State) (p : Port) (r : Completion) :
    outside (pushCompletion s p r) = outside s := by
  unfold pushCompletion
  dsimp only
  split
  · exact outside_setPort rfl
  · exact outside_setPort (by simp [quietPort])

@[simp] theorem outside_setSlot (s : State) (i : SlotId) (sl : MailSlot) :
    outside (s.setSlot i sl) = outside s := by cases i <;> rfl
@[simp] theorem outside_setStore (s : State) (i : SlotId) (bs : List Byte) :
    outside (s.setStore i bs) = outside s := by cases i <;> rfl
@[simp] theorem outside_setStoreClass (s : State) (i : SlotId) (c : SlotClass) :
    outside (s.setStoreClass i c) = outside s := by cases i <;> rfl
@[simp] theorem outside_enqueue (s : State) (e : Entry) : outside (enqueue s e) = outside s := rfl
@[simp] theorem outside_takeFree (s : State) (o : Origin) (d : Memory) :
    outside (takeFree s o d) = outside s := by unfold takeFree; split <;> rfl
@[simp] theorem outside_releaseBuffer (s : State) (b : Option (Fin 6)) :
    outside (releaseBuffer s b) = outside s := by cases b <;> rfl
@[simp] theorem outside_noteTag (s : State) (p : Port) (t : Byte) :
    outside (noteTag s p t) = outside s := outside_setPort rfl

/-! ### The mailbox and the watchdog -/

@[simp] theorem outside_slotToQueue (s : State) (i : SlotId) :
    outside (slotToQueue s i) = outside s := by simp [slotToQueue]
@[simp] theorem outside_releaseSlot (s : State) (i : SlotId) :
    outside (releaseSlot s i) = outside s := by unfold releaseSlot; split <;> simp
@[simp] theorem outside_slotTakesEntry (s : State) (i : SlotId) :
    outside (slotTakesEntry s i) = outside s := by unfold slotTakesEntry; split <;> simp
@[simp] theorem outside_fillFromMailbox (s : State) :
    outside (fillFromMailbox s) = outside s := by simp [fillFromMailbox]
@[simp] theorem outside_emptySlotAt (s : State) (i : SlotId) :
    outside (emptySlotAt s i) = outside s := by simp [emptySlotAt]
@[simp] theorem outside_denySlot (s : State) (i : SlotId) (auto : Bool) :
    outside (denySlot s i auto) = outside s := by simp [denySlot]
@[simp] theorem outside_startWatchdog (s : State) :
    outside (startWatchdog s) = outside s := rfl
@[simp] theorem outside_watchdogWritten (s : State) :
    outside (watchdogWritten s) = outside s := by
  unfold watchdogWritten
  split
  · split
    case h_3 => exact outside_logEvent _ _ _ _ _ _
    all_goals rfl
  · split <;> rfl

@[simp] theorem outside_watchdogLoaded (s : State) :
    outside (watchdogLoaded s) = outside s := by unfold watchdogLoaded; split <;> rfl
@[simp] theorem outside_resolveByDefault (s : State) (i : SlotId) (auto : Bool) (k : EventKind) :
    outside (resolveByDefault s i auto k) = outside s := by
  unfold resolveByDefault
  dsimp only
  split <;> simp
@[simp] theorem outside_lapseSlot (s : State) (i : SlotId) :
    outside (lapseSlot s i) = outside s := by unfold lapseSlot; split <;> simp
@[simp] theorem outside_lapse (s : State) : outside (lapse s) = outside s := by
  simp only [lapse, outside_lapseSlot, outside_logEvent]; rfl
@[simp] theorem outside_redirectSlot (s : State) (i : SlotId) (a : Nat) :
    outside (redirectSlot s i a) = outside s := by simp [redirectSlot]
@[simp] theorem outside_writeSlotBuffer (s : State) (p : Port) (b : Option (Fin 6)) :
    outside (writeSlotBuffer s p b) = outside s := by
  unfold writeSlotBuffer
  repeat' split
  all_goals rfl

/-! ### Requests that join the queue -/

@[simp] theorem outside_takeProgramBuffer (s : State) (p : Port) (k : Kind) :
    outside (takeProgramBuffer s p k) = outside s := by
  unfold takeProgramBuffer; split <;> simp
@[simp] theorem outside_acceptModify (s : State) (p : Port) (k : Kind) (a : Nat) (auto : Bool) :
    outside (acceptModify s p k a auto) = outside s := by simp [acceptModify]
@[simp] theorem outside_startTrapDeadline (s : State) (i : SlotId) :
    outside (startTrapDeadline s i) = outside s := by cases i <;> rfl
@[simp] theorem outside_holdRequest (s : State) (i : SlotId) (k : Kind) (j : Fin 16) (a b : Nat) :
    outside (holdRequest s i k j a b) = outside s := by simp [holdRequest]
@[simp] theorem outside_denyAtOnce (s : State) (k : Kind) (a : Nat) :
    outside (denyAtOnce s k a) = outside s := by simp [denyAtOnce]
@[simp] theorem outside_acceptEntry (s : State) (k : Kind) (t : Target) (b : Option (Fin 6)) :
    outside (acceptEntry s k t b) = outside s := by simp [acceptEntry]
@[simp] theorem outside_cancelEntry (s : State) (p : Port) (e : Entry) :
    outside (cancelEntry s p e) = outside s := by
  simp only [cancelEntry, outside_fillFromMailbox, outside_pushCompletion, outside_releaseBuffer]; rfl
@[simp] theorem outside_cancelSlot (s : State) (i : SlotId) :
    outside (cancelSlot s i) = outside s := by simp [cancelSlot]
@[simp] theorem outside_takeSuspend (s : State) : outside (takeSuspend s) = outside s := by
  unfold takeSuspend; split <;> rfl
@[simp] theorem outside_setResumePending (s : State) :
    outside (setResumePending s) = outside s := rfl

/-! ### The configuration -/

@[simp] theorem outside_setStagingEntry (s : State) (i : Fin 16) (e : PartEntry) :
    outside (setStagingEntry s i e) = outside s := rfl
@[simp] theorem outside_writeLive (s : State) (off : Nat) (v : Byte) :
    outside (writeLive s off v) = outside s := by
  unfold writeLive
  dsimp only
  split
  · exact outside_watchdogWritten _
  · rfl
@[simp] theorem outside_startCommit (s : State) : outside (startCommit s) = outside s := by
  unfold startCommit
  split
  · rfl
  · exact outside_setStoreClass _ _ _
@[simp] theorem outside_applyStaging (s : State) : outside (applyStaging s) = outside s := by
  unfold applyStaging
  dsimp only
  split
  · rfl
  · exact outside_watchdogWritten _
@[simp] theorem outside_applyCommit (s : State) (k : EventKind) (t d : Byte) (a : Word) :
    outside (applyCommit s k t d a) = outside s := by unfold applyCommit; split <;> simp
@[simp] theorem outside_commitResult (s : State) (t : Byte) (stuck : StuckBits) :
    outside (commitResult s t stuck).1 = outside s := by
  unfold commitResult
  dsimp only
  split
  · split
    · exact (outside_applyCommit _ _ _ _ _).trans
        ((outside_setStoreClass _ _ _).trans (outside_setStore _ _ _))
    · simp only [outside_logEvent, outside_setStoreClass, outside_setStore]; rfl
  · exact outside_applyCommit _ _ _ _ _
  · exact outside_applyCommit _ _ _ _ _

/-! ### The engine -/

@[simp] theorem outside_setCurrentJob (s : State) (d : Descriptor) :
    outside (setCurrentJob s d) = outside s := by unfold setCurrentJob; split <;> rfl
@[simp] theorem outside_beginJob (s : State) (i : Nat) :
    outside (beginJob s i) = outside s := by unfold beginJob; split <;> rfl
@[simp] theorem outside_enterIdle (s : State) : outside (enterIdle s) = outside s := rfl
@[simp] theorem outside_endAbort (s : State) : outside (endAbort s) = outside s := rfl
@[simp] theorem outside_drainCheck (s : State) : outside (drainCheck s) = outside s := by
  unfold drainCheck
  repeat' split
  all_goals rfl
@[simp] theorem outside_moveOn (s : State) : outside (moveOn s) = outside s := by
  unfold moveOn
  split
  · split
    · exact outside_beginJob _ _
    · rfl
  all_goals rfl
@[simp] theorem outside_finishJob (s : State) (d : Descriptor) :
    outside (finishJob s d) = outside s := by simp [finishJob]
@[simp] theorem outside_faultJob (s : State) (d : Descriptor) (c : JobFault) (a : Nat) :
    outside (faultJob s d c a) = outside s := by unfold faultJob; split <;> simp
@[simp] theorem outside_issueStep (s : State) (d : Descriptor) (k : Kind) (a : Nat) :
    outside (issueStep s d k a) = outside s := by
  unfold issueStep
  dsimp only
  split
  · exact outside_takeFree _ _ _
  · rfl
@[simp] theorem outside_tryStep (s : State) (d : Descriptor) (k : Kind) (a : Nat) :
    outside (tryStep s d k a) = outside s := by
  unfold tryStep
  repeat' split
  all_goals simp
@[simp] theorem outside_finishIfDone (s : State) (d : Descriptor) :
    outside (finishIfDone s d) = outside s := by unfold finishIfDone; split <;> simp
@[simp] theorem outside_stepCompleted (s : State) (e : Entry) (out : OpOutcome) :
    outside (stepCompleted s e out) = outside s := by
  unfold stepCompleted
  dsimp only
  repeat' split
  all_goals simp
@[simp] theorem outside_afterChunk (s : State) (d : Descriptor) :
    outside (afterChunk s d) = outside s := by unfold afterChunk; split <;> simp
@[simp] theorem outside_digestChunk (s : State) (d : Descriptor) :
    outside (digestChunk s d) = outside s := by
  unfold digestChunk
  dsimp only
  split
  · exact outside_afterChunk _ _
  · rfl
@[simp] theorem outside_verifyChunk (s : State) (d : Descriptor) :
    outside (verifyChunk s d) = outside s := by
  unfold verifyChunk
  dsimp only
  repeat' split
  all_goals simp
theorem outside_foldl_releaseBuffer (es : List Entry) (s : State) :
    outside (es.foldl (fun s e => releaseBuffer s e.buffer) s) = outside s := by
  induction es generalizing s with
  | nil => rfl
  | cons e es ih => rw [List.foldl_cons, ih, outside_releaseBuffer]
@[simp] theorem outside_removeEntries (s : State) (has : Entry → Bool) :
    outside (removeEntries s has) = outside s := outside_foldl_releaseBuffer _ _

/-! ### The sequencer -/

@[simp] theorem outside_startEffect (s : State) (e : Entry) :
    outside (startEffect s e) = outside s := by
  have hq : outside (if isEraseKind e.kind then startQuantum s else { s with quantum := none })
      = outside s := by split <;> rfl
  unfold startEffect
  dsimp only
  split
  · rw [outside_startCommit, hq]
  · exact hq
@[simp] theorem outside_operationResult (s : State) (e : Entry) (stuck : StuckBits) :
    outside (operationResult s e stuck).1 = outside s := by
  unfold operationResult
  split
  case h_4 => exact outside_commitResult _ _ _
  case h_5 =>
    split
    · exact outside_logEvent _ _ _ _ _ _
    · rfl
  case h_7 =>
    split
    · exact outside_logEvent _ _ _ _ _ _
    · rfl
  all_goals rfl
@[simp] theorem outside_logFailed (s : State) (e : Entry) (out : OpOutcome) :
    outside (logFailed s e out) = outside s := by unfold logFailed; split <;> simp
@[simp] theorem outside_reportOutcome (s : State) (e : Entry) (out : OpOutcome) :
    outside (reportOutcome s e out) = outside s := by
  unfold reportOutcome
  dsimp only
  repeat' split
  all_goals simp
@[simp] theorem outside_removeActive (s : State) (e : Entry) :
    outside (removeActive s e) = outside s := outside_releaseBuffer _ _
@[simp] theorem outside_expireHold (s : State) (e : Entry) :
    outside (expireHold s e) = outside s := by
  unfold expireHold
  split
  · rfl
  · exact outside_logEvent _ _ _ _ _ _

/-! ### Resets -/

@[simp] theorem outside_orphanEntries (s : State) (o : Origin) :
    outside (orphanEntries s o) = outside s := outside_removeEntries s _
@[simp] theorem outside_resetEngine (s : State) : outside (resetEngine s) = outside s :=
  outside_orphanEntries s _
@[simp] theorem outside_resetShared (s : State) (p : Port) :
    outside (resetShared s p) = outside s := by cases p <;> simp [resetShared]
@[simp] theorem outside_abortTarget (s : State) (e : Entry) (stuck : StuckBits)
    (slot : Option (List Byte)) : outside (abortTarget s e stuck slot) = outside s := by
  unfold abortTarget
  split
  case h_7 =>
    split
    · exact outside_setStore _ _ _
    · rfl
    · rfl
  case h_5 | h_6 => split <;> rfl
  all_goals rfl
@[simp] theorem outside_abortActive (s : State) (left : Leftover) :
    outside (abortActive s left) = outside s := by unfold abortActive; split <;> simp
@[simp] theorem outside_abortSuspended (s : State) (left : Leftover) :
    outside (abortSuspended s left) = outside s := by unfold abortSuspended; split <;> simp
@[simp] theorem outside_abortOperations (s : State) (left : Leftover) :
    outside (abortOperations s left) = outside s := by unfold abortOperations; split <;> simp
@[simp] theorem outside_logAborted (s : State) (r : Aborted) :
    outside (logAborted s r) = outside s := outside_logEvent _ _ _ _ _ _
@[simp] theorem outside_foldl_logAborted (rs : List Aborted) (s : State) :
    outside (rs.foldl logAborted s) = outside s := by
  induction rs generalizing s with
  | nil => rfl
  | cons r rs ih => rw [List.foldl_cons, ih, outside_logAborted]
@[simp] theorem outside_logTornSlot (s : State) (i : SlotId) :
    outside (logTornSlot s i) = outside s := by unfold logTornSlot; split <;> simp
@[simp] theorem outside_takeImage (s : State) : outside (takeImage s) = outside s := by
  unfold takeImage
  split
  · rfl
  · exact outside_logEvent _ _ _ _ _ _

/-! ### A row of a port: what it may change of the port's own selection and lanes -/

/-- The own port of a row reduced to its selection and its lanes. -/
def Outside.beside (o : Outside) : Port → Outside
  | .a => { o with portA := { PortState.reset with sel := o.portA.sel, driven := o.portA.driven } }
  | .m => { o with portM := { PortState.reset with sel := o.portM.sel, driven := o.portM.driven } }

theorem beside_setPort {s : State} {p : Port} {ps : PortState}
    (hs : ps.sel = (s.port p).sel) (hd : ps.driven = (s.port p).driven) :
    (outside (s.setPort p ps)).beside p = (outside s).beside p := by
  cases p <;>
    simp only [State.port] at hs hd <;>
    simp [Outside.beside, outside, State.setPort, quietPort, serial, hs, hd]

@[simp] theorem beside_refuse (s : State) (p : Port) (code : RefusalCode) :
    (outside (refuse s p code)).beside p = (outside s).beside p := beside_setPort rfl rfl
@[simp] theorem beside_refuseTorn (s : State) (p : Port) (c : Command) :
    (outside (refuseTorn s p c)).beside p = (outside s).beside p := by simp [refuseTorn]
@[simp] theorem beside_refuseModify (s : State) (p : Port) (a : Nat) (code : RefusalCode) :
    (outside (refuseModify s p a code)).beside p = (outside s).beside p := by simp [refuseModify]
@[simp] theorem beside_receiveData (s : State) (p : Port) (n : Nat) (data : List Byte) :
    (outside (receiveData s p n data)).beside p = (outside s).beside p := beside_setPort rfl rfl
@[simp] theorem beside_discardLatch (s : State) (p : Port) :
    (outside (discardLatch s p)).beside p = (outside s).beside p := beside_setPort rfl rfl
@[simp] theorem beside_setContinuation (s : State) (p : Port) (mark : Byte) :
    (outside (setContinuation s p mark)).beside p = (outside s).beside p := beside_setPort rfl rfl
@[simp] theorem beside_clearStatus (s : State) (p : Port) (lost : Bool) :
    (outside (clearStatus s p lost)).beside p = (outside s).beside p := beside_setPort rfl rfl
@[simp] theorem beside_takeDefaults (s : State) (p : Port) :
    (outside (takeDefaults s p)).beside p = (outside s).beside p := by
  cases p <;> rfl

theorem beside_decided {s t : State} {p : Port} {checks : List (Bool × RefusalCode)}
    {accept : State → State} (ht : (outside t).beside p = (outside s).beside p)
    (h : (outside (accept t)).beside p = (outside s).beside p) :
    (outside (decided t p checks accept)).beside p = (outside s).beside p := by
  unfold decided
  split
  · rw [beside_refuse, ht]
  · exact h

theorem beside_armedDecision {s t : State} {p : Port} {decide : State → State}
    (ht : (outside t).beside p = (outside s).beside p)
    (h : ∀ u, (outside u).beside p = (outside s).beside p →
      (outside (decide u)).beside p = (outside s).beside p) :
    (outside (armedDecision t p decide)).beside p = (outside s).beside p := by
  unfold armedDecision
  split
  · refine h _ ((beside_setPort ?_ ?_).trans ht) <;> rfl
  · rw [beside_refuse, ht]

end Sys2Proof.Machine

namespace Sys2Proof.Machine

@[simp] theorem beside_queueModify (s : State) (p : Port) (k : Kind) (a : Nat) :
    (outside (queueModify s p k a)).beside p = (outside s).beside p := by
  unfold queueModify; split <;> simp
@[simp] theorem beside_releaseAtOnce (s : State) (k : Kind) (a : Nat) :
    (outside (releaseAtOnce s k a)).beside .a = (outside s).beside .a := by
  unfold releaseAtOnce; split <;> simp
@[simp] theorem beside_trapStep (s : State) (k : Kind) (i : Fin 16) (a b : Nat) :
    (outside (trapStep s k i a b)).beside .a = (outside s).beside .a := by
  unfold trapStep
  repeat' split
  all_goals simp

theorem modifyTarget_m_none {s : State} {a phys : Nat} {i : Fin 16} :
    modifyTarget s .m a ≠ .ok (phys, some i) := by
  unfold modifyTarget
  dsimp only
  split <;> simp

@[simp] theorem beside_decideModify (s : State) (p : Port) (k : Kind) (f : Frame) :
    (outside (decideModify s p k f)).beside p = (outside s).beside p := by
  unfold decideModify
  dsimp only
  split
  · simp
  · split
    · simp
    · split
      · simp
      · rename_i phys covering hm
        refine beside_decided rfl ?_
        cases covering with
        | none => simp
        | some i =>
          cases p with
          | a => simp
          | m => exact absurd hm modifyTarget_m_none

@[simp] theorem beside_decideCancel (s : State) (p : Port) (t : Byte) :
    (outside (decideCancel s p t)).beside p = (outside s).beside p := by
  unfold decideCancel
  repeat' split
  all_goals simp

@[simp] theorem beside_startNext (s : State) (p : Port) :
    (outside (startNext s p)).beside p = (outside s).beside p := by
  unfold startNext
  split
  · rw [outside_beginJob]; rfl
  · simp

theorem beside_withHeldSlot {s t : State} {p : Port} {field : Byte} {act : SlotId → State}
    (ht : (outside t).beside p = (outside s).beside p)
    (h : ∀ i, (outside (act i)).beside p = (outside s).beside p) :
    (outside (withHeldSlot t p field act)).beside p = (outside s).beside p := by
  unfold withHeldSlot
  repeat' split
  · rw [beside_refuse, ht]
  · exact h _
  · rw [beside_refuse, ht]

theorem beside_softReset (s : State) (p : Port) (hd : (s.port p).driven = none) :
    (outside (softReset s p)).beside p = (outside s).beside p := by
  simp only [softReset, outside_logEvent, outside_resetShared, outside_orphanEntries, resetPortState,
    beside_takeDefaults]
  exact beside_setPort rfl hd.symm

/-! ### What a row of a port may do -/

/-- No transaction has been put in place of the one under way. -/
def TxKept (ps qs : PortState) : Prop :=
  quietSel qs.sel = quietSel ps.sel ∨ (∀ tx, ps.sel ≠ .opened tx) ∨ ∀ tx, qs.sel ≠ .opened tx

/-- No lane is driven that was not driven so before. -/
def LanesKept (ps qs : PortState) : Prop := qs.driven = ps.driven ∨ qs.driven = none

/-- What a row of a port leaves: the waiting commands and interrupt outputs, and all that the other port
keeps for itself. -/
structure RowEffect (p : Port) (s u : State) : Prop where
  serial : serial u = serial s
  other : quietPort (u.port (otherPort p)) = quietPort (s.port (otherPort p))

/-- What a row of a port leaves of the transaction and the lanes of its own port, too. -/
structure CloseEffect (p : Port) (s u : State) : Prop extends RowEffect p s u where
  tx : TxKept (s.port p) (u.port p)
  lanes : LanesKept (s.port p) (u.port p)

/-- The outcome is a next state, with such an effect before the outputs are driven. -/
def Closes (p : Port) (s : State) (o : Host.Outcome State Fault Refusal) : Prop :=
  ∃ u, o = finish u ∧ CloseEffect p s u

theorem beside_eq_iff {p : Port} {s u : State} :
    (outside u).beside p = (outside s).beside p ↔ RowEffect p s u
      ∧ quietSel (u.port p).sel = quietSel (s.port p).sel ∧ (u.port p).driven = (s.port p).driven := by
  cases p <;> constructor
  case a.mp | m.mp =>
    intro h
    simp only [Outside.beside, outside, quietPort_sel, quietPort_driven, Outside.mk.injEq,
      PortState.mk.injEq, true_and] at h
    exact ⟨⟨by simp [h], by simp [otherPort, h]⟩, by simp [h], by simp [h]⟩
  case a.mpr | m.mpr =>
    rintro ⟨⟨hs, ho⟩, hsel, hd⟩
    simp only [otherPort, port_a, port_m] at ho hsel hd
    simp [Outside.beside, outside, hs, ho, hsel, hd]

theorem RowEffect.trans {p : Port} {s t u : State} (h : RowEffect p s t) (h' : RowEffect p t u) :
    RowEffect p s u := ⟨h'.serial.trans h.serial, h'.other.trans h.other⟩

theorem rowEffect_setPort (s : State) (p : Port) (ps : PortState) : RowEffect p s (s.setPort p ps) :=
  ⟨by cases p <;> rfl, by rw [port_setPort_other]⟩

theorem closeEffect_refl (p : Port) (s : State) : CloseEffect p s s :=
  ⟨⟨rfl, rfl⟩, .inl rfl, .inl rfl⟩

/-- The falling edge of SEL_N is its port's alone, and puts no transaction in place of another (R2). -/
theorem closeEffect_beginTransaction (s : State) (p : Port) :
    CloseEffect p s (beginTransaction s p) := by
  unfold beginTransaction
  dsimp only
  split
  · rename_i hs
    have tx : ∀ qs, TxKept (s.port p) qs := fun qs => .inr (.inl (by simp [hs]))
    split <;> refine ⟨rowEffect_setPort _ _ _, tx _, ?_⟩ <;> simp [LanesKept]
  · exact closeEffect_refl p s
  · exact closeEffect_refl p s

/-- The end of a transaction: an effect after which the port is deselected and drives nothing. -/
theorem closeEffect_of_high {p : Port} {s u : State} (h : RowEffect p s u)
    (hs : ∀ tx, (u.port p).sel ≠ .opened tx) (hd : (u.port p).driven = none) : CloseEffect p s u :=
  ⟨h, .inr (.inr hs), .inr hd⟩

theorem closeEffect_deselect {p : Port} {s t : State} (h : RowEffect p s t) :
    CloseEffect p s (deselect t p) :=
  closeEffect_of_high (h.trans (rowEffect_setPort t p _)) (by simp [deselect]) (by simp [deselect])

theorem rowEffect_ended (s : State) (p : Port) : RowEffect p s (ended s p) :=
  (closeEffect_beginTransaction s p).toRowEffect.trans (rowEffect_setPort _ p _)

@[simp] theorem ended_sel (s : State) (p : Port) : ((ended s p).port p).sel = .high := by
  simp [ended, closeTransaction]
@[simp] theorem ended_driven (s : State) (p : Port) : ((ended s p).port p).driven = none := by
  simp [ended, closeTransaction]

@[simp] theorem quietSel_eq_high {sel : Sel} : quietSel sel = .high ↔ sel = .high := by
  cases sel <;> simp [quietSel]

/-- An effect on the ended state that keeps its port's selection and lanes. -/
theorem closeEffect_of_beside {p : Port} {s u : State}
    (h : (outside u).beside p = (outside (ended s p)).beside p) : CloseEffect p s u := by
  obtain ⟨hr, hs, hd⟩ := beside_eq_iff.mp h
  rw [ended_sel, show quietSel .high = .high from rfl, quietSel_eq_high] at hs
  exact closeEffect_of_high ((rowEffect_ended s p).trans hr) (by simp [hs]) (by rw [hd, ended_driven])

theorem closes_endTransaction {s : State} {p : Port} {fits : Tx → Bool} {act : Tx → State → State}
    (h : ∀ tx t, (t.port p).driven = none → (outside (act tx t)).beside p = (outside t).beside p) :
    Closes p s (endTransaction s p fits act) := by
  have hb := closeEffect_beginTransaction s p
  obtain he | he | he | ⟨tx, -, -, he⟩ := endTransaction_cases s p fits act <;> rw [he]
  · exact ⟨_, rfl, closeEffect_refl p s⟩
  · exact ⟨_, rfl, hb⟩
  · exact ⟨_, rfl, closeEffect_deselect hb.toRowEffect⟩
  · exact ⟨_, rfl, closeEffect_of_beside (h tx _ (ended_driven s p))⟩

theorem closes_requestEnd {s : State} {p : Port} {c : Command} {f : Frame}
    {act : Tx → State → State}
    (h : ∀ tx t, (t.port p).driven = none → (outside (act tx t)).beside p = (outside t).beside p) :
    Closes p s (requestEnd s p c f act) := by
  refine closes_endTransaction fun tx t ht => ?_
  split
  · simp
  · split
    · simp
    · exact h tx t ht

theorem closes_readEnd {s : State} {p : Port} {c : Command} {f : Frame}
    {act : Tx → List Byte → State → State}
    (h : ∀ tx bs t, (outside (act tx bs t)).beside p = (outside t).beside p) :
    Closes p s (readEnd s p c f act) := by
  refine closes_endTransaction fun tx t ht => ?_
  split
  · simp
  · split
    · exact h tx _ t
    · rfl

/-! ### Every row of a port, DORMANT and the fetches apart -/

section
variable (p : Port) (f : Frame) (s : State)

theorem closes_armWrite : Closes p s (execArmWrite p f s) :=
  closes_requestEnd fun _ _ _ => beside_setPort rfl rfl
theorem closes_disarmWrite : Closes p s (execDisarmWrite p f s) :=
  closes_requestEnd fun _ _ _ => beside_setPort rfl rfl
theorem closes_setIrqMask : Closes p s (execSetIrqMask p f s) :=
  closes_requestEnd fun _ _ _ => beside_setPort rfl rfl
theorem closes_resetArm : Closes p s (execResetArm p f s) :=
  closes_requestEnd fun _ _ _ => beside_setPort rfl rfl
theorem closes_setLanes : Closes p s (execSetLanes p f s) :=
  closes_requestEnd fun _ _ _ => beside_decided rfl (beside_setPort rfl rfl)
theorem closes_setWait : Closes p s (execSetWait p f s) :=
  closes_requestEnd fun _ _ _ => beside_decided rfl (beside_setPort rfl rfl)
theorem closes_setWrap : Closes p s (execSetWrap p f s) :=
  closes_requestEnd fun _ _ _ => beside_decided rfl (beside_setPort rfl rfl)
theorem closes_pageProgram : Closes p s (execPageProgram p f s) :=
  closes_requestEnd fun _ t _ => (beside_discardLatch _ p).trans
    (beside_armedDecision (beside_receiveData t p _ _) fun _ hu =>
      (beside_decideModify _ p _ f).trans hu)
theorem closes_sectorErase : Closes p s (execSectorErase p f s) :=
  closes_requestEnd fun _ _ _ => (beside_discardLatch _ p).trans
    (beside_armedDecision rfl fun _ hu => (beside_decideModify _ p _ f).trans hu)
theorem closes_blockErase : Closes p s (execBlockErase p f s) :=
  closes_requestEnd fun _ _ _ => (beside_discardLatch _ p).trans
    (beside_armedDecision rfl fun _ hu => (beside_decideModify _ p _ f).trans hu)
theorem closes_suspend : Closes p s (execSuspend p f s) := by
  refine closes_requestEnd fun _ t _ => ?_
  split
  · simp
  · exact beside_decided rfl (by simp)
theorem closes_resume : Closes p s (execResume p f s) := by
  refine closes_requestEnd fun _ t _ => ?_
  split
  · simp
  · exact beside_decided rfl (by simp)
theorem closes_cancel : Closes p s (execCancel p f s) :=
  closes_requestEnd fun _ t _ => beside_decideCancel t p _
theorem closes_resetPort : Closes p s (execResetPort p f s) := by
  refine closes_requestEnd fun _ t ht => ?_
  split
  · exact beside_softReset t p ht
  · simp
theorem closes_tableWriteEntry : Closes p s (execTableWriteEntry p f s) := by
  refine closes_requestEnd fun _ t _ => beside_decided rfl ?_
  split <;> simp
theorem closes_tableClearEntry : Closes p s (execTableClearEntry p f s) := by
  refine closes_requestEnd fun _ t _ => beside_decided rfl ?_
  split <;> simp
theorem closes_stageFromActive : Closes p s (execStageFromActive p f s) :=
  closes_requestEnd fun _ _ _ => beside_decided rfl rfl
theorem closes_settingsWriteStaged : Closes p s (execSettingsWriteStaged p f s) :=
  closes_requestEnd fun _ _ _ => beside_decided rfl rfl
theorem closes_settingsWriteLive : Closes p s (execSettingsWriteLive p f s) :=
  closes_requestEnd fun _ _ _ => beside_decided rfl (by simp)
theorem closes_swapViews : Closes p s (execSwapViews p f s) := by
  refine closes_requestEnd fun _ t _ => beside_decided rfl ?_
  split
  · split
    · rfl
    · simp
  · simp
theorem closes_lockSession : Closes p s (execLockSession p f s) := by
  refine closes_requestEnd fun _ t _ => ?_
  split
  · rfl
  · rw [outside_logEvent]; rfl
theorem closes_commit : Closes p s (execCommit p f s) := by
  refine closes_requestEnd fun _ t _ => beside_armedDecision rfl fun u hu =>
    beside_decided hu (beside_decided hu ?_)
  rw [outside_acceptEntry]
  exact hu
theorem closes_guardFuse : Closes p s (execGuardFuse p f s) := by
  refine closes_requestEnd fun _ t _ => beside_armedDecision rfl fun u hu => beside_decided hu ?_
  rw [outside_acceptEntry]
  exact hu
theorem closes_sealLock : Closes p s (execSealLock p f s) := by
  refine closes_requestEnd fun _ t _ => beside_armedDecision rfl fun u hu => beside_decided hu ?_
  rw [outside_acceptEntry]
  exact hu
theorem closes_sealProgram : Closes p s (execSealProgram p f s) := by
  refine closes_requestEnd fun _ t _ => (beside_discardLatch _ p).trans
    (beside_armedDecision (beside_receiveData t p _ _) fun u hu =>
      beside_decided hu ?_)
  rw [outside_acceptEntry, outside_takeFree]
  exact hu
theorem closes_mailboxRelease : Closes p s (execMailboxRelease p f s) :=
  closes_requestEnd fun _ t _ => beside_withHeldSlot rfl fun i => by simp
theorem closes_mailboxRedirect : Closes p s (execMailboxRedirect p f s) := by
  refine closes_requestEnd fun _ t _ => beside_withHeldSlot rfl fun i => ?_
  dsimp only
  repeat' split
  all_goals simp
theorem closes_mailboxDeny : Closes p s (execMailboxDeny p f s) :=
  closes_requestEnd fun _ t _ => beside_withHeldSlot rfl fun i => by simp
theorem closes_mailboxDataWrite : Closes p s (execMailboxDataWrite p f s) :=
  closes_requestEnd fun _ t _ => (beside_discardLatch _ p).trans
    (beside_withHeldSlot (beside_receiveData t p _ _) fun i =>
      beside_decided (beside_receiveData t p _ _) (by simp))
theorem closes_heartbeat : Closes p s (execHeartbeat p f s) := by
  refine closes_requestEnd fun _ t _ => ?_
  split <;> simp
theorem closes_jobLoad : Closes p s (execJobLoad p f s) := by
  refine closes_requestEnd fun _ t _ => ?_
  repeat' split
  · simp
  · simp
  · exact beside_decided rfl rfl
theorem closes_jobStart : Closes p s (execJobStart p f s) := by
  refine closes_requestEnd fun _ t _ => ?_
  split
  case h_1 | h_2 => simp
  case h_3 =>
    split
    · rfl
    · simp
  all_goals simp
theorem closes_jobPause : Closes p s (execJobPause p f s) := by
  refine closes_requestEnd fun _ t _ => ?_
  split
  · rw [outside_drainCheck]; rfl
  · simp
theorem closes_jobAbort : Closes p s (execJobAbort p f s) := by
  refine closes_requestEnd fun _ t _ => ?_
  split
  case h_1 | h_2 | h_3 | h_4 =>
    rw [outside_drainCheck, outside_fillFromMailbox, outside_removeEntries]; rfl
  all_goals simp
theorem closes_jobClear : Closes p s (execJobClear p f s) := by
  refine closes_requestEnd fun _ t _ => ?_
  split
  case h_1 | h_2 => rfl
  all_goals simp

theorem closes_streamRead : Closes p s (execStreamRead p f s) :=
  closes_readEnd fun _ _ t => beside_setContinuation t p _
theorem closes_readPortStatus : Closes p s (execReadPortStatus p f s) := by
  refine closes_readEnd fun _ _ t => ?_
  split <;> simp
theorem closes_eventRead : Closes p s (execEventRead p f s) := by
  refine closes_readEnd fun _ _ t => ?_
  split <;> rfl
theorem closes_continuationTransaction : Closes p s (execContinuationTransaction p f s) := by
  refine closes_endTransaction fun _ t _ => ?_
  repeat' split
  all_goals simp
theorem closes_unknownCommand (code : Byte) : Closes p s (execUnknownCommand p code f s) :=
  closes_endTransaction fun _ t _ => beside_refuse t p _
theorem closes_transactionBegin : Closes p s (execTransactionBegin p s) :=
  ⟨_, rfl, closeEffect_beginTransaction s p⟩
theorem closes_ignoredTransactionEnd : Closes p s (execIgnoredTransactionEnd p s) := by
  unfold execIgnoredTransactionEnd
  repeat' split
  case h_2 | h_3.isFalse => exact ⟨_, rfl, closeEffect_deselect ⟨rfl, rfl⟩⟩
  all_goals exact ⟨_, rfl, closeEffect_refl p s⟩

/-- The wake is its port's own, the power state and the watchdog apart (R169). -/
theorem beside_wakeUp : (outside (wakeUp s p)).beside p = (outside s).beside p := by
  unfold wakeUp
  dsimp only
  repeat' split
  all_goals exact beside_setPort (s := s) rfl rfl

theorem closes_wake : Closes p s (execWake p f s) := by
  have hb := closeEffect_beginTransaction s p
  unfold execWake
  dsimp only
  split
  · exact ⟨_, rfl, hb⟩
  · exact ⟨_, rfl, closeEffect_deselect hb.toRowEffect⟩
  · split
    · exact ⟨_, rfl, closeEffect_deselect hb.toRowEffect⟩
    · split
      · refine ⟨_, rfl, ?_⟩
        unfold wakeEnd
        split
        · split
          · exact closeEffect_deselect hb.toRowEffect
          · exact closeEffect_of_beside (beside_refuseTorn _ _ _)
        · exact closeEffect_of_beside (beside_wakeUp _ _)
      · exact ⟨_, rfl, closeEffect_refl p s⟩

end

end Sys2Proof.Machine

namespace Sys2Proof.Machine

/-! ### The fetch, the pops and DORMANT -/

/-- A consumption changes at most the delivery of its port's transaction, the port's FIFO and the log
(R155, R157). -/
theorem consumeDelivery_cases (s : State) (p : Port) : consumeDelivery s p = s
    ∨ ∃ tx fifo log, (s.port p).sel = .opened tx
      ∧ consumeDelivery s p = State.setPort { s with log := log } p
        { s.port p with sel := .opened { tx with delivery := none }, fifo := fifo } := by
  unfold consumeDelivery
  dsimp only
  split
  case h_2 | h_3 => exact .inl rfl
  case h_1 tx hs =>
    split
    case h_1 =>
      split
      · exact .inr ⟨tx, _, s.log, hs, rfl⟩
      · exact .inl rfl
    case h_2 =>
      split
      · exact .inr ⟨tx, (s.port p).fifo, _, hs, by cases p <;> rfl⟩
      · exact .inl rfl
    case h_3 => exact .inl rfl

theorem rowEffect_setLog_setPort (s : State) (l : List Event) (p : Port) (ps : PortState) :
    RowEffect p s (State.setPort { s with log := l } p ps) :=
  ⟨by cases p <;> rfl, by cases p <;> rfl⟩

/-- A consumption is its port's own and the log's, and leaves the lanes (R155, R157). -/
theorem consumeDelivery_effect (s : State) (p : Port) :
    RowEffect p s (consumeDelivery s p)
      ∧ ((consumeDelivery s p).port p).driven = (s.port p).driven := by
  obtain h | ⟨tx, fifo, log, -, h⟩ := consumeDelivery_cases s p <;> rw [h]
  · exact ⟨⟨rfl, rfl⟩, rfl⟩
  · exact ⟨rowEffect_setLog_setPort s log p _, by rw [port_setPort_same]⟩

/-- The state that a byte's fetch leaves differs in a read flag of its port at most (R30). -/
theorem dataByte_snd (s : State) (p : Port) (tx : Tx) (r : ReadOp) :
    ∃ flags, (dataByte s p tx r).2 = s.setPort p { s.port p with flags := flags } := by
  have keep : ∃ flags, s = s.setPort p { s.port p with flags := flags } :=
    ⟨(s.port p).flags, (setPort_port_self s p).symm⟩
  have array : ∀ a b, ∃ flags,
      (arrayFetch s p a b).2 = s.setPort p { s.port p with flags := flags } := by
    intro a b
    unfold arrayFetch
    split
    · split
      · exact keep
      · exact ⟨_, rfl⟩
    · exact ⟨_, rfl⟩
  cases r with
  | read a => exact array _ _
  | wrapRead a => exact array _ _
  | streamRead a c => exact array _ _
  | readSeal page offset =>
    simp only [dataByte]
    unfold sealFetch
    split
    · exact keep
    · exact ⟨_, rfl⟩
  | _ => exact keep

/-- A byte that a fetch puts out travels as a data-out byte of the transaction. -/
def DrivesByte (ps : PortState) : Prop :=
  ∃ tx b, ps.sel = .opened tx ∧ ps.driven = some (byteSignal tx.lane .dataOut b)

theorem fetchByte_effect (s : State) (p : Port) (r : ReadOp) :
    RowEffect p s (fetchByte s p r)
      ∧ (((fetchByte s p r).port p).driven = (s.port p).driven
        ∨ DrivesByte ((fetchByte s p r).port p)) := by
  obtain ⟨hr, hd⟩ := consumeDelivery_effect s p
  unfold fetchByte
  dsimp only
  split
  · rename_i tx hs
    obtain ⟨flags, ho⟩ := dataByte_snd (consumeDelivery s p) p
      (chooseDelivery (consumeDelivery s p) p r tx) r
    rw [ho, setPort_setPort, port_setPort_same]
    exact ⟨hr.trans (rowEffect_setPort _ p _), .inr ⟨_, _, by rw [port_setPort_same],
      by rw [port_setPort_same]⟩⟩
  · exact ⟨hr, .inl hd⟩
  · exact ⟨hr, .inl hd⟩

theorem execDataByteFetch_effect (p : Port) (w : List Byte) (s : State) :
    ∃ u, execDataByteFetch p w s = finish u ∧ RowEffect p s u
      ∧ (LanesKept (s.port p) (u.port p) ∨ DrivesByte (u.port p)) := by
  have hb := closeEffect_beginTransaction s p
  have hself : ∃ u, finish s = finish u ∧ RowEffect p s u
      ∧ (LanesKept (s.port p) (u.port p) ∨ DrivesByte (u.port p)) :=
    ⟨s, rfl, ⟨rfl, rfl⟩, .inl (.inl rfl)⟩
  have fetch : ∀ t r, RowEffect p s t → LanesKept (s.port p) (t.port p) →
      ∃ u, finish (fetchByte t p r) = finish u ∧ RowEffect p s u
        ∧ (LanesKept (s.port p) (u.port p) ∨ DrivesByte (u.port p)) := by
    intro t r ht hl
    obtain ⟨hr, hd | hd⟩ := fetchByte_effect t p r
    · exact ⟨_, rfl, ht.trans hr, .inl (by rwa [LanesKept, hd])⟩
    · exact ⟨_, rfl, ht.trans hr, .inr hd⟩
  unfold execDataByteFetch
  dsimp only
  split
  · exact hself
  · exact hself
  · rename_i tx hs
    split
    · exact hself
    · split
      · exact fetch _ _ hb.toRowEffect hb.lanes
      · unfold firstFetch
        dsimp only
        split
        · refine fetch _ _ ((hb.toRowEffect.trans (rowEffect_setPort _ p _)).trans
            (rowEffect_setPort _ p _)) ?_
          simpa [startRead, LanesKept] using hb.lanes
        · exact ⟨_, rfl, hb.toRowEffect.trans (rowEffect_setPort _ p _), 
            .inl (by simpa [LanesKept] using hb.lanes)⟩

theorem execCompletionPop_effect (p : Port) (s : State) :
    ∃ u, execCompletionPop p s = finish u ∧ RowEffect p s u
      ∧ (u.port p).driven = (s.port p).driven := by
  unfold execCompletionPop
  split
  · exact ⟨_, rfl, consumeDelivery_effect s p⟩
  · exact ⟨s, rfl, ⟨rfl, rfl⟩, rfl⟩

theorem execEventPop_effect (s : State) :
    ∃ u, execEventPop s = finish u ∧ RowEffect .m s u ∧ u.portM.driven = s.portM.driven := by
  unfold execEventPop
  split
  · exact ⟨_, rfl, consumeDelivery_effect s .m⟩
  · exact ⟨s, rfl, ⟨rfl, rfl⟩, rfl⟩

/-! ### Events that may end the transaction of either port -/

/-- What such an event leaves: the waiting commands and the interrupt outputs, and on neither port a
transaction in place of another or a lane that was not driven so. -/
structure SettleEffect (s u : State) : Prop where
  serial : serial u = serial s
  tx : ∀ q, TxKept (s.port q) (u.port q)
  lanes : ∀ q, LanesKept (s.port q) (u.port q)

theorem eq_or_otherPort (p q : Port) : q = p ∨ q = otherPort p := by
  cases p <;> cases q <;> simp [otherPort]

theorem CloseEffect.settle {p : Port} {s u : State} (h : CloseEffect p s u) : SettleEffect s u := by
  have ho := h.other
  refine ⟨h.serial, fun q => ?_, fun q => ?_⟩ <;> obtain rfl | rfl := eq_or_otherPort p q
  · exact h.tx
  · exact .inl (by simpa using congrArg PortState.sel ho)
  · exact h.lanes
  · exact .inl (by simpa using congrArg PortState.driven ho)

theorem settleEffect_of_outside {s u : State} (h : outside u = outside s) : SettleEffect s u := by
  simp only [outside, Outside.mk.injEq] at h
  obtain ⟨ha, hm, hs⟩ := h
  refine ⟨hs, fun q => ?_, fun q => ?_⟩ <;> cases q
  · exact .inl (by simpa using congrArg PortState.sel ha)
  · exact .inl (by simpa using congrArg PortState.sel hm)
  · exact .inl (by simpa using congrArg PortState.driven ha)
  · exact .inl (by simpa using congrArg PortState.driven hm)

/-- No port is in a transaction, and no lane is driven. -/
def Dark (u : State) : Prop := ∀ q, (∀ tx, (u.port q).sel ≠ .opened tx) ∧ (u.port q).driven = none

theorem Dark.settle {s u : State} (hs : Machine.serial u = Machine.serial s) (h : Dark u) :
    SettleEffect s u :=
  ⟨hs, fun q => .inr (.inr (h q).1), fun q => .inr (h q).2⟩

/-- What Port A becomes at an accepted DORMANT: as it was, or deselected with no lane driven (R167). -/
theorem abandonPortA_cases (ps : PortState) (w : List Byte) : abandonPortA ps w = ps
    ∨ (abandonPortA ps w).sel = .ignored ∧ (abandonPortA ps w).driven = none := by
  unfold abandonPortA
  split
  · exact .inl rfl
  · exact .inl rfl
  · rename_i tx hs
    split <;> exact .inr ⟨by simp [abandonTx, settledSel, hs], rfl⟩

theorem settleEffect_enterDormant {s t : State} (h : SettleEffect s t) (w : List Byte) :
    SettleEffect s (enterDormant t w) := by
  have ha : (enterDormant t w).port .a = abandonPortA (t.port .a) w := rfl
  refine ⟨h.serial, fun q => ?_, fun q => ?_⟩ <;> cases q
  · obtain he | ⟨he, -⟩ := abandonPortA_cases (t.port .a) w
    · rw [ha, he]; exact h.tx .a
    · rw [ha]; exact .inr (.inr fun tx h => by rw [he] at h; cases h)
  · exact h.tx .m
  · obtain he | ⟨-, he⟩ := abandonPortA_cases (t.port .a) w
    · rw [ha, he]; exact h.lanes .a
    · rw [ha]; exact .inr he
  · exact h.lanes .m

theorem execDormant_effect (p : Port) (f : Frame) (w : List Byte) (s : State) :
    ∃ u, execDormant p f w s = finish u ∧ SettleEffect s u := by
  have hb := closeEffect_beginTransaction s p
  have hc : ∀ code, SettleEffect s (refuse (ended s p) p code) := fun code =>
    (closeEffect_of_beside (beside_refuse _ p code)).settle
  unfold execDormant requestEnd
  obtain he | he | he | ⟨tx, -, -, he⟩ := endTransaction_cases s p (txFits .dormant) _ <;> rw [he]
  · exact ⟨_, rfl, (closeEffect_refl p s).settle⟩
  · exact ⟨_, rfl, hb.settle⟩
  · exact ⟨_, rfl, (closeEffect_deselect hb.toRowEffect).settle⟩
  · refine ⟨_, rfl, ?_⟩
    dsimp only
    split
    · exact hc _
    · split
      · exact (closeEffect_of_beside (beside_refuseTorn _ p _)).settle
      · unfold decided
        split
        · exact hc _
        · exact settleEffect_enterDormant (closeEffect_of_beside (p := p) rfl).settle w

/-! ### The supply and RESET_N -/

theorem settledSel_ne_opened (sel : Sel) (tx : Tx) : settledSel sel ≠ .opened tx := by
  cases sel <;> simp [settledSel]

theorem dark_volatileReset (s : State) : Dark (volatileReset s) := by
  intro q
  cases q <;> exact ⟨settledSel_ne_opened _, rfl⟩

@[simp] theorem quietSel_eq_opened {sel : Sel} :
    (∃ tx, quietSel sel = .opened tx) ↔ ∃ tx, sel = .opened tx := by
  cases sel <;> simp [quietSel]

theorem Dark.of_outside {s u : State} (hs : Dark s) (h : outside u = outside s) : Dark u := by
  have key : ∀ ps qs : PortState, quietPort qs = quietPort ps →
      (∀ tx, ps.sel ≠ .opened tx) ∧ ps.driven = none → (∀ tx, qs.sel ≠ .opened tx) ∧ qs.driven = none := by
    intro ps qs he ⟨h1, h2⟩
    have e1 : quietSel qs.sel = quietSel ps.sel := congrArg PortState.sel he
    have e2 : (quietPort qs).driven = (quietPort ps).driven := congrArg PortState.driven he
    refine ⟨not_exists.mp ?_, e2.trans h2⟩
    rw [← quietSel_eq_opened, e1, quietSel_eq_opened]
    exact not_exists.mpr h1
  simp only [outside, Outside.mk.injEq] at h
  intro q
  cases q
  · exact key _ _ h.1 (hs .a)
  · exact key _ _ h.2.1 (hs .m)

theorem Dark.takeDefaults {s : State} (h : Dark s) (p : Port) : Dark (takeDefaults s p) := by
  intro q
  cases p <;> cases q
  case a.a | m.a => exact h .a
  case a.m | m.m => exact h .m

@[simp] theorem serial_takeDefaults (s : State) (p : Port) :
    serial (takeDefaults s p) = serial s := by cases p <;> rfl

theorem serial_of_outside {s u : State} (h : outside u = outside s) : serial u = serial s :=
  congrArg Outside.serial h

/-- The configuration load without the ports' settings is none of the ports' (R139). -/
theorem loadConfig_eq (s : State) : ∃ t, outside t = outside s
    ∧ loadConfig s = takeDefaults (takeDefaults t .a) .m :=
  ⟨_, by simp only [outside_watchdogLoaded, outside_takeImage, outside_logTornSlot]; rfl, rfl⟩

theorem powerOnStep_effect (s : State) :
    serial (powerOnStep s) = serial s ∧ Dark (powerOnStep s) := by
  obtain ⟨t, ho, ht⟩ := loadConfig_eq { volatileReset s with power := .active }
  have hd : Dark t := Dark.of_outside (dark_volatileReset s) ho
  rw [powerOnStep, ht]
  refine ⟨?_, (hd.takeDefaults .a).takeDefaults .m⟩
  rw [serial_takeDefaults, serial_takeDefaults, serial_of_outside ho]
  rfl

theorem execPowerOn_effect (left : Leftover) (s : State) :
    ∃ u, execPowerOn left s = finish u ∧ SettleEffect s u := by
  have hs : serial (abortOperations s left) = serial s :=
    serial_of_outside (outside_abortOperations s left)
  unfold execPowerOn
  dsimp only
  split
  · obtain ⟨h1, h2⟩ := powerOnStep_effect { abortOperations s left with sessionLock := false }
    exact ⟨_, rfl, h2.settle (h1.trans hs)⟩
  · exact ⟨_, rfl, Dark.settle hs (dark_volatileReset (abortOperations s left))⟩

theorem execPowerLoss_effect (left : Leftover) (s : State) :
    ∃ u, execPowerLoss left s = finish u ∧ SettleEffect s u := by
  have hs : serial (abortOperations s left) = serial s :=
    serial_of_outside (outside_abortOperations s left)
  unfold execPowerLoss
  split
  · exact ⟨_, rfl, settleEffect_of_outside rfl⟩
  all_goals exact ⟨_, rfl, Dark.settle hs (dark_volatileReset (abortOperations s left))⟩

theorem dark_enterReset (s : State) (left : Leftover) : Dark (enterReset s left) := by
  intro q
  cases q <;> exact ⟨settledSel_ne_opened _, rfl⟩

theorem execResetNAssert_effect (left : Leftover) (s : State) :
    ∃ u, execResetNAssert left s = finish u ∧ SettleEffect s u := by
  have hs : serial (enterReset s left) = serial s := by
    have h := serial_of_outside
      ((outside_removeEntries (abortOperations s left) fun e => !isWaiting e).trans
        (outside_abortOperations s left))
    exact h
  unfold execResetNAssert
  split
  case h_1 | h_2 => exact ⟨_, rfl, Dark.settle hs (dark_enterReset s left)⟩
  all_goals exact ⟨_, rfl, settleEffect_of_outside rfl⟩

theorem execResetNRelease_effect (s : State) :
    ∃ u, execResetNRelease s = finish u ∧ SettleEffect s u := by
  unfold execResetNRelease
  split
  · obtain ⟨h1, h2⟩ := powerOnStep_effect { s with resetN := true }
    have ho := outside_foldl_logAborted s.aborted (powerOnStep { s with resetN := true })
    exact ⟨_, rfl, (h2.of_outside ho).settle ((serial_of_outside ho).trans h1)⟩
  · obtain ⟨h1, h2⟩ := powerOnStep_effect { s with resetN := true, sessionLock := false }
    exact ⟨_, rfl, h2.settle h1⟩
  all_goals exact ⟨_, rfl, settleEffect_of_outside rfl⟩

end Sys2Proof.Machine

namespace Sys2Proof.Machine

/-! ### The events inside the device -/

/-- The outcome is a next state that differs in nothing of the outside before the outputs are driven. -/
def Inside (s : State) (o : Host.Outcome State Fault Refusal) : Prop :=
  ∃ u, o = finish u ∧ outside u = outside s

theorem inside_refl (s : State) : Inside s (finish s) := ⟨s, rfl, rfl⟩

section
variable (s : State)

theorem inside_releasingSlotEntry : Inside s (execReleasingSlotEntry s) := by
  unfold execReleasingSlotEntry
  split
  · exact ⟨_, rfl, outside_fillFromMailbox s⟩
  · exact inside_refl s
theorem inside_entryStart : Inside s (execEntryStart s) := by
  unfold execEntryStart
  split
  · split
    · exact ⟨_, rfl, outside_startEffect _ _⟩
    · exact inside_refl s
  · exact inside_refl s
theorem inside_entryRestart : Inside s (execEntryRestart s) := by
  unfold execEntryRestart
  split
  · split
    · split
      · exact ⟨_, rfl, rfl⟩
      · exact inside_refl s
    · exact inside_refl s
  · exact inside_refl s
theorem inside_operationCompletion (stuck : StuckBits) :
    Inside s (execOperationCompletion stuck s) := by
  unfold execOperationCompletion
  split
  · split
    · exact inside_refl s
    · exact ⟨_, rfl, by simp⟩
  · exact inside_refl s
theorem inside_suspendTaken : Inside s (execSuspendTaken s) := by
  unfold execSuspendTaken
  split
  · exact ⟨_, rfl, rfl⟩
  · exact inside_refl s
theorem inside_runQuantumExpiry : Inside s (execRunQuantumExpiry s) := by
  unfold execRunQuantumExpiry
  split
  · exact ⟨_, rfl, rfl⟩
  · exact inside_refl s
theorem inside_holdDeadlineExpiry : Inside s (execHoldDeadlineExpiry s) := by
  unfold execHoldDeadlineExpiry
  split
  · split
    · exact ⟨_, rfl, outside_expireHold _ _⟩
    · exact inside_refl s
  · exact inside_refl s
theorem inside_trapDeadlineExpiry (i : SlotId) : Inside s (execTrapDeadlineExpiry i s) := by
  unfold execTrapDeadlineExpiry
  split
  · exact ⟨_, rfl, outside_resolveByDefault _ _ _ _⟩
  · exact inside_refl s
theorem inside_watchdogWarningPoint : Inside s (execWatchdogWarningPoint s) := by
  unfold execWatchdogWarningPoint
  split
  · exact ⟨_, rfl, rfl⟩
  · exact inside_refl s
theorem inside_watchdogLapse : Inside s (execWatchdogLapse s) := by
  unfold execWatchdogLapse
  split
  · exact ⟨_, rfl, outside_lapse s⟩
  · exact inside_refl s
theorem inside_jobStepIssue : Inside s (execJobStepIssue s) := by
  unfold execJobStepIssue
  split
  · split
    · exact inside_refl s
    · split
      · exact inside_refl s
      · exact ⟨_, rfl, outside_tryStep _ _ _ _⟩
  · exact inside_refl s
theorem inside_chunkRead : Inside s (execChunkRead s) := by
  unfold execChunkRead
  split
  · split
    · exact inside_refl s
    · split
      · exact ⟨_, rfl, outside_verifyChunk _ _⟩
      · exact ⟨_, rfl, outside_digestChunk _ _⟩
      all_goals exact inside_refl s
  · exact inside_refl s
theorem inside_tick : Inside s (execTick s) := by
  unfold execTick
  split
  · exact ⟨_, rfl, rfl⟩
  · exact inside_refl s
theorem inside_guardNChange (high : Bool) : Inside s (execGuardNChange high s) := ⟨_, rfl, rfl⟩

end

/-! ### What every command does -/

/-- The commands by what they may change of the outside: a row of a port other than DORMANT, a fetch or a
pop; one of these; an event of the supply or RESET_N, or DORMANT; and an event inside the device. -/
inductive ExecEffect (i : Instr) (s u : State) : Prop
  | closes (p : Port) (hp : rowPort i = some p) (h : CloseEffect p s u)
  | consumes (p : Port) (hp : rowPort i = some p) (hi : i = .completionPop p ∨ p = .m ∧ i = .eventPop)
      (h : RowEffect p s u) (hd : (u.port p).driven = (s.port p).driven)
  | fetches (p : Port) (hp : rowPort i = some p) (w : List Byte) (hi : i = .dataByteFetch p w)
      (h : RowEffect p s u) (hd : LanesKept (s.port p) (u.port p) ∨ DrivesByte (u.port p))
  | settles (hp : rowPort i = none ∨ ∃ p f w, i = .dormant p f w) (h : SettleEffect s u)
  | inside (hp : rowPort i = none) (h : outside u = outside s)

/-- Every command answers a next state, with one of these effects before the outputs are driven (R10). -/
theorem exec_effect (i : Instr) (s : State) : ∃ u, exec i s = finish u ∧ ExecEffect i s u := by
  have closes : ∀ {p : Port}, rowPort i = some p → Closes p s (exec i s) →
      ∃ u, exec i s = finish u ∧ ExecEffect i s u :=
    fun hp ⟨u, hu, h⟩ => ⟨u, hu, .closes _ hp h⟩
  have inside : rowPort i = none → Inside s (exec i s) →
      ∃ u, exec i s = finish u ∧ ExecEffect i s u := fun hp ⟨u, hu, h⟩ => ⟨u, hu, .inside hp h⟩
  have settles : (rowPort i = none ∨ ∃ p f w, i = .dormant p f w) →
      (∃ u, exec i s = finish u ∧ SettleEffect s u) →
      ∃ u, exec i s = finish u ∧ ExecEffect i s u := fun hp ⟨u, hu, h⟩ => ⟨u, hu, .settles hp h⟩
  have quiet : ∀ {p : Port} {c : Command} {f : Frame}, rowPort i = some p →
      exec i s = readEnd s p c f (fun _ _ s' => s') →
      ∃ u, exec i s = finish u ∧ ExecEffect i s u := by
    intro p c f hp h
    exact closes hp (by rw [h]; exact closes_readEnd fun _ _ _ => rfl)
  cases i
  case dataByteFetch p w =>
    obtain ⟨u, hu, h, hd⟩ := execDataByteFetch_effect p w s
    exact ⟨u, hu, .fetches p rfl w rfl h hd⟩
  case completionPop p =>
    obtain ⟨u, hu, h, hd⟩ := execCompletionPop_effect p s
    exact ⟨u, hu, .consumes p rfl (.inl rfl) h hd⟩
  case eventPop =>
    obtain ⟨u, hu, h, hd⟩ := execEventPop_effect s
    exact ⟨u, hu, .consumes .m rfl (.inr ⟨rfl, rfl⟩) h hd⟩
  case dormant p f w => exact settles (.inr ⟨p, f, w, rfl⟩) (execDormant_effect p f w s)
  case powerOn left => exact settles (.inl rfl) (execPowerOn_effect left s)
  case powerLoss left => exact settles (.inl rfl) (execPowerLoss_effect left s)
  case resetNAssert left => exact settles (.inl rfl) (execResetNAssert_effect left s)
  case resetNRelease => exact settles (.inl rfl) (execResetNRelease_effect s)
  case releasingSlotEntry => exact inside rfl (inside_releasingSlotEntry s)
  case entryStart => exact inside rfl (inside_entryStart s)
  case entryRestart => exact inside rfl (inside_entryRestart s)
  case operationCompletion stuck => exact inside rfl (inside_operationCompletion s stuck)
  case suspendTaken => exact inside rfl (inside_suspendTaken s)
  case runQuantumExpiry => exact inside rfl (inside_runQuantumExpiry s)
  case holdDeadlineExpiry => exact inside rfl (inside_holdDeadlineExpiry s)
  case trapDeadlineExpiry slot => exact inside rfl (inside_trapDeadlineExpiry s slot)
  case watchdogWarningPoint => exact inside rfl (inside_watchdogWarningPoint s)
  case watchdogLapse => exact inside rfl (inside_watchdogLapse s)
  case jobStepIssue => exact inside rfl (inside_jobStepIssue s)
  case chunkRead => exact inside rfl (inside_chunkRead s)
  case tick => exact inside rfl (inside_tick s)
  case guardNChange high => exact inside rfl (inside_guardNChange s high)
  case armWrite p f => exact closes rfl (closes_armWrite p f s)
  case disarmWrite p f => exact closes rfl (closes_disarmWrite p f s)
  case pageProgram p f => exact closes rfl (closes_pageProgram p f s)
  case sectorErase p f => exact closes rfl (closes_sectorErase p f s)
  case blockErase p f => exact closes rfl (closes_blockErase p f s)
  case suspend p f => exact closes rfl (closes_suspend p f s)
  case resume p f => exact closes rfl (closes_resume p f s)
  case cancel p f => exact closes rfl (closes_cancel p f s)
  case setLanes p f => exact closes rfl (closes_setLanes p f s)
  case setWait p f => exact closes rfl (closes_setWait p f s)
  case setWrap p f => exact closes rfl (closes_setWrap p f s)
  case setIrqMask p f => exact closes rfl (closes_setIrqMask p f s)
  case resetArm p f => exact closes rfl (closes_resetArm p f s)
  case resetPort p f => exact closes rfl (closes_resetPort p f s)
  case wake p f => exact closes rfl (closes_wake p f s)
  case tableWriteEntry p f => exact closes rfl (closes_tableWriteEntry p f s)
  case tableClearEntry p f => exact closes rfl (closes_tableClearEntry p f s)
  case stageFromActive p f => exact closes rfl (closes_stageFromActive p f s)
  case commit p f => exact closes rfl (closes_commit p f s)
  case swapViews p f => exact closes rfl (closes_swapViews p f s)
  case settingsWriteStaged p f => exact closes rfl (closes_settingsWriteStaged p f s)
  case settingsWriteLive p f => exact closes rfl (closes_settingsWriteLive p f s)
  case lockSession p f => exact closes rfl (closes_lockSession p f s)
  case mailboxRelease p f => exact closes rfl (closes_mailboxRelease p f s)
  case mailboxRedirect p f => exact closes rfl (closes_mailboxRedirect p f s)
  case mailboxDeny p f => exact closes rfl (closes_mailboxDeny p f s)
  case mailboxDataWrite p f => exact closes rfl (closes_mailboxDataWrite p f s)
  case heartbeat p f => exact closes rfl (closes_heartbeat p f s)
  case jobLoad p f => exact closes rfl (closes_jobLoad p f s)
  case jobStart p f => exact closes rfl (closes_jobStart p f s)
  case jobPause p f => exact closes rfl (closes_jobPause p f s)
  case jobAbort p f => exact closes rfl (closes_jobAbort p f s)
  case jobClear p f => exact closes rfl (closes_jobClear p f s)
  case sealProgram p f => exact closes rfl (closes_sealProgram p f s)
  case sealLock p f => exact closes rfl (closes_sealLock p f s)
  case guardFuse p f => exact closes rfl (closes_guardFuse p f s)
  case streamRead p f => exact closes rfl (closes_streamRead p f s)
  case readPortStatus p f => exact closes rfl (closes_readPortStatus p f s)
  case eventRead p f => exact closes rfl (closes_eventRead p f s)
  case continuationTransaction p f => exact closes rfl (closes_continuationTransaction p f s)
  case unknownCommand p code f => exact closes rfl (closes_unknownCommand p f s code)
  case transactionBegin p => exact closes rfl (closes_transactionBegin p s)
  case ignoredTransactionEnd p => exact closes rfl (closes_ignoredTransactionEnd p s)
  all_goals exact quiet rfl rfl

theorem ExecEffect.serial {i : Instr} {s u : State} (h : ExecEffect i s u) :
    serial u = serial s := by
  cases h with
  | closes p hp h => exact h.serial
  | consumes p hp hi h hd => exact h.serial
  | fetches p hp w hi h hd => exact h.serial
  | settles hp h => exact h.serial
  | inside hp h => exact serial_of_outside h

/-- A row of a port, but for DORMANT, leaves what the other port keeps for itself (R1). -/
theorem ExecEffect.other {i : Instr} {s u : State} {p : Port} (h : ExecEffect i s u)
    (hp : rowPort i = some p) (hd : ∀ q f w, i ≠ .dormant q f w) :
    quietPort (u.port (otherPort p)) = quietPort (s.port (otherPort p)) := by
  cases h with
  | closes q hq h => obtain rfl := Option.some.inj (hp.symm.trans hq); exact h.other
  | consumes q hq hi h _ => obtain rfl := Option.some.inj (hp.symm.trans hq); exact h.other
  | fetches q hq w hi h _ => obtain rfl := Option.some.inj (hp.symm.trans hq); exact h.other
  | settles hq h =>
    obtain hq | ⟨q, f, w, rfl⟩ := hq
    · rw [hq] at hp; cases hp
    · exact absurd rfl (hd q f w)
  | inside hq h => rw [hq] at hp; cases hp

/-- The items of a port's framing are all kept by an effect that leaves the port quiet (R1, R4). -/
theorem samePortFraming_of_quietPort {ps qs : PortState} (h : quietPort qs = quietPort ps) :
    SamePortFraming ps qs := by
  have hx : ∀ rs : PortState, txState (quietPort rs) = txState rs := by
    intro rs
    unfold txState quietPort
    cases rs.sel <;> rfl
  refine ⟨by rw [← hx ps, ← h, hx qs], ?_⟩
  simp only [quietPort, PortState.mk.injEq] at h
  simp [h]

theorem exec_eq_finish {i : Instr} {s t : State} (h : exec i s = .next t) :
    ∃ u, t = driveIrq u ∧ ExecEffect i s u := by
  obtain ⟨u, hu, he⟩ := exec_effect i s
  rw [h] at hu
  exact ⟨u, by cases hu; rfl, he⟩

/-- Settles O12: by `exec_effect` a row of one port reaches the other only through what the operations
inside the device report in it, and through DORMANT. -/
theorem portsAreIndependent : Obligations.PortsAreIndependent := by
  unfold Obligations.PortsAreIndependent
  intro i s t p hp hd h
  obtain ⟨u, rfl, he⟩ := exec_eq_finish h
  rw [port_driveIrq]
  refine samePortFraming_of_quietPort (he.other hp fun q f w hi => ?_)
  obtain rfl : q = p := by subst hi; exact Option.some.inj hp
  exact hd f w hi

end Sys2Proof.Machine

namespace Sys2Proof.Machine

/-! ## The end of every command: the interrupt outputs and their causes (R159) -/

/-- Out of an operating device every instant is over at once, with the outputs released (R161, R162). -/
theorem driveIrq_of_not_operating {u : State} (h : operating u = false) :
    (driveIrq u).irqA = false ∧ (driveIrq u).irqM = false := by
  simp [driveIrq, instantEnds, irqLow, h]

/-- A byte made of eight flags shows each at its bit. -/
theorem bits_of_flags : ∀ a b c d e f g h : Bool,
    (List.range 8).map (BitVec.ofNat 8 (bit a + 2 * bit b + 4 * bit c + 8 * bit d + 16 * bit e
      + 32 * bit f + 64 * bit g + 128 * bit h)).getLsbD = [a, b, c, d, e, f, g, h] := by
  decide +kernel

/-- The eight causes by their mask bits, the last four Port M's alone (R159). -/
theorem irqCauses_bits (s : State) (p : Port) :
    (List.range 8).map (irqCauses s p).getLsbD
      = [!(s.port p).fifo.isEmpty, (s.port p).refusalNew, anyReadFlag (s.port p).flags,
        s.watchdog.state == .lapsed,
        p == .m && (s.slot0.state == .held || s.slot1.state == .held),
        p == .m && !s.log.isEmpty, p == .m && s.jobAttn, p == .m && s.watchdog.warn] := by
  rw [← bits_of_flags]
  cases p <;> simp [irqCauses, bit]

/-- Port A has only the first four causes (R159). -/
theorem irqCauses_a_high (s : State) {n : Nat} (h : 4 ≤ n) : (irqCauses s .a).getLsbD n = false := by
  have hb := irqCauses_bits s .a
  simp only [List.range, List.range.loop, List.map_cons, List.cons.injEq] at hb
  obtain ⟨-, -, -, -, h4, h5, h6, h7, -⟩ := hb
  by_cases h8 : 8 ≤ n
  · exact BitVec.getLsbD_of_ge _ _ h8
  · obtain rfl | rfl | rfl | rfl : n = 4 ∨ n = 5 ∨ n = 6 ∨ n = 7 := by omega
    · exact h4
    · exact h5
    · exact h6
    · exact h7

theorem bitVec_ne_zero_iff {w : Nat} (x : BitVec w) : x ≠ 0 ↔ ∃ n < w, x.getLsbD n = true := by
  constructor
  · intro hx
    by_contra hn
    push Not at hn
    exact hx (BitVec.eq_of_getLsbD_eq fun i hi => by simpa using hn i hi)
  · rintro ⟨n, -, hn⟩ rfl
    simp at hn

/-- An output is low just while a cause and its mask bit are 1 in an operating device (R159). -/
theorem irqLow_iff (s : State) (p : Port) : irqLow s p = true ↔ (s.power = .active ∨ s.power = .dormant)
    ∧ ∃ n < 8, (irqCauses s p).getLsbD n = true ∧ (s.port p).irqMask.getLsbD n = true := by
  have h := bitVec_ne_zero_iff (irqCauses s p &&& (s.port p).irqMask)
  simp only [BitVec.getLsbD_and, Bool.and_eq_true] at h
  simp [irqLow, operating, ← h]

/-- Settles O2, by `exec_effect`: every command ends in `driveIrq`, the serial part untouched before. -/
theorem everyCommandAnswers : Obligations.EveryCommandAnswers := by
  unfold Obligations.EveryCommandAnswers
  refine ⟨fun i s => ?_, fun s p => ⟨?_, ?_⟩⟩
  · obtain ⟨u, hu, he⟩ := exec_effect i s
    have hs := he.serial
    simp only [serial, Serial.mk.injEq] at hs
    obtain ⟨hpend, harr, hleft, hA, hM⟩ := hs
    refine ⟨driveIrq u, hu, hpend, harr, by simp [driveIrq, hleft], fun h1 => ?_, fun h1 ho => ?_,
      fun ho => driveIrq_of_not_operating ((operating_driveIrq u).symm.trans ho)⟩
    · have hend : instantEnds u = true := by simp [instantEnds, hleft, h1]
      exact ⟨outputsRight_driveIrq hend, by simp [driveIrq, hend]⟩
    · rw [operating_driveIrq] at ho
      have hend : instantEnds u = false := by simp [instantEnds, hleft, ho]; omega
      obtain ⟨h2, h3⟩ := driveIrq_within hend
      exact ⟨h2.trans hA, h3.trans hM⟩
  · have hlog : s.log.isEmpty = decide (s.log = []) := by cases s.log <;> rfl
    rw [irqCauses_bits]
    cases p <;> simp [anyReadFlag, Bool.beq_eq_decide_eq, hlog]
  · rw [irqLow_iff]
    cases p with
    | m => rfl
    | a =>
      refine and_congr_right fun _ => exists_congr fun n => ?_
      constructor
      · rintro ⟨-, hc, hm⟩
        refine ⟨Nat.lt_of_not_le fun h => ?_, hc, hm⟩
        rw [irqCauses_a_high s h] at hc
        cases hc
      · rintro ⟨hn, hc⟩
        exact ⟨Nat.lt_trans hn (by decide), hc⟩

end Sys2Proof.Machine

namespace Sys2Proof.Machine

/-! ## The request order of an instant (R17, R18) -/

section
variable {α : Type} (place : α → Nat) (l : List α)

/-- Sorting a list into its places below `n` keeps just the members with such a place. -/
theorem flatMap_place_perm (n : Nat) :
    ((List.range n).flatMap fun k => l.filter fun a => place a == k).Perm
      (l.filter fun a => decide (place a < n)) := by
  induction n with
  | zero => simp
  | succ n ih =>
    have hlow : (l.filter fun a => decide (place a < n + 1)).filter (fun a => decide (place a < n))
        = l.filter fun a => decide (place a < n) := by
      rw [List.filter_filter]
      refine List.filter_congr fun a _ => ?_
      rw [Bool.eq_iff_iff]
      simp only [Bool.and_eq_true, decide_eq_true_eq]
      omega
    have htop : (l.filter fun a => decide (place a < n + 1)).filter (fun a => !decide (place a < n))
        = l.filter fun a => place a == n := by
      rw [List.filter_filter]
      refine List.filter_congr fun a _ => ?_
      rw [Bool.eq_iff_iff]
      simp only [Bool.and_eq_true, Bool.not_eq_true', decide_eq_false_iff_not, decide_eq_true_eq,
        beq_iff_eq]
      omega
    have hsplit := List.filter_append_perm (fun a => decide (place a < n))
      (l.filter fun a => decide (place a < n + 1))
    rw [hlow, htop] at hsplit
    rw [List.range_succ, List.flatMap_append, List.flatMap_singleton]
    exact (ih.append_right _).trans hsplit

/-- Sorted into places, the members of one place stand as they were. -/
theorem filter_flatMap_place (k n : Nat) :
    ((List.range n).flatMap fun j => l.filter fun a => place a == j).filter (fun a => place a == k)
      = if k < n then l.filter (fun a => place a == k) else [] := by
  induction n with
  | zero => rfl
  | succ n ih =>
    have apart (h : k ≠ n) : l.filter (fun a => place a == k && place a == n) = [] := by
      refine List.filter_eq_nil_iff.mpr fun a _ => ?_
      simp only [Bool.and_eq_true, beq_iff_eq]
      omega
    rw [List.range_succ, List.flatMap_append, List.flatMap_singleton, List.filter_append, ih,
      List.filter_filter]
    obtain h | rfl | h := Nat.lt_trichotomy k n
    · rw [if_pos h, if_pos (by omega), apart (by omega), List.append_nil]
    · simp
    · rw [if_neg (by omega), if_neg (by omega), apart (by omega), List.append_nil]

/-- Sorted into places, no member stands before one of a lower place. -/
theorem pairwise_flatMap_place (n : Nat) :
    ((List.range n).flatMap fun k => l.filter fun a => place a == k).Pairwise
      fun a b => place a ≤ place b := by
  rw [List.pairwise_flatMap]
  constructor
  · intro k _
    refine List.Pairwise.imp_of_mem ?_ (List.pairwise_of_forall (R := fun _ _ => True) fun _ _ => trivial)
    intro a b ha hb _
    simp only [List.mem_filter, beq_iff_eq] at ha hb
    omega
  · refine List.pairwise_lt_range.imp fun hjk a ha b hb => ?_
    simp only [List.mem_filter, beq_iff_eq] at ha hb
    omega

end

theorem inRequestOrder_perm (events : List Instr) : (inRequestOrder events).Perm events := by
  have h := flatMap_place_perm instantPlace events 18
  rwa [List.filter_eq_self.mpr fun i _ => decide_eq_true (instantPlace_lt i)] at h

theorem inRequestOrder_filter (events : List Instr) (k : Nat) :
    (inRequestOrder events).filter (fun i => instantPlace i == k)
      = events.filter fun i => instantPlace i == k := by
  unfold inRequestOrder
  rw [filter_flatMap_place]
  split
  · rfl
  · refine (List.filter_eq_nil_iff.mpr fun i _ => ?_).symm
    have := instantPlace_lt i
    simp only [beq_iff_eq]
    omega

/-- Every instant with an event or an engine's action holds the device's own ten events (R17). -/
theorem length_inRequestOrder_append (events : List Instr) :
    (inRequestOrder (events ++ deviceEvents)).length = events.length + 10 := by
  rw [(inRequestOrder_perm _).length_eq, List.length_append]
  rfl

theorem instantOf_of_some {s : State} {events : List Instr}
    (h : events ≠ [] ∨ engineReady s = true) :
    instantOf s events = inRequestOrder (events ++ deviceEvents) := by
  refine if_neg ?_
  cases events <;> simp_all

theorem instantOf_nil {s : State} (h : engineReady s = false) : instantOf s [] = [] := by
  simp [instantOf, h]

/-- A step on an empty queue: the next instant with events, a further one for the engine, or none (R17). -/
theorem step_nextInstant {s : State} (hp : s.pending = []) :
    (∀ events later, s.arriving = events :: later → events ≠ [] ∨ engineReady s = true →
        step s = .next { s with
          arriving := later, pending := inRequestOrder (events ++ deviceEvents)
          instantLeft := events.length + 10 })
      ∧ (∀ later, s.arriving = [] :: later → engineReady s = false →
        step s = .next { s with arriving := later, instantLeft := 0 })
      ∧ (s.arriving = [] → engineReady s = true →
        step s = .next { s with pending := inRequestOrder deviceEvents, instantLeft := 10 })
      ∧ (s.arriving = [] → engineReady s = false → step s = .next s) := by
  have hr : ∀ later, engineReady { s with arriving := later } = engineReady s := fun _ => rfl
  refine ⟨fun events later ha he => ?_, fun later ha he => ?_, fun ha he => ?_, fun ha he => ?_⟩ <;>
    rw [step_of_idle hp, nextInstant, ha]
  · rw [← hr later] at he
    simp [beginInstant, instantOf_of_some he, length_inRequestOrder_append]
  · rw [← hr later] at he
    dsimp only
    rw [beginInstant, instantOf_nil he]
    simp [hp]
  · have hl : (inRequestOrder deviceEvents).length = 10 := length_inRequestOrder_append []
    simp [he, beginInstant, instantOf_of_some (.inr he), hl, ha]
  · simp [he]

/-- Port M's rows stand in step 2 of the request order, a consumption first (R17). -/
theorem instantPlace_of_rowPort {i : Instr} {p : Port} (h : rowPort i = some p) :
    instantPlace i = portPlace p (decide (i = .completionPop p ∨ p = .m ∧ i = .eventPop)) := by
  cases i <;> simp only [rowPort, requestOf, readOf, Option.some.injEq, reduceCtorEq] at h <;>
    subst h <;> simp [instantPlace]

/-- A step keeps the commands of the present instant in the wait for its end (R17). -/
theorem step_instantSound {s t : State} (hs : InstantSound s) (h : step s = .next t) :
    InstantSound t := by
  cases hp : s.pending with
  | nil =>
    rw [step_of_idle hp] at h
    cases h
    unfold nextInstant
    split
    · exact le_refl _
    · split
      · exact le_refl _
      · exact hs
  | cons c rest =>
    rw [step_of_pending hp] at h
    obtain ⟨u, rfl, he⟩ := exec_eq_finish h
    have hser := he.serial
    simp only [serial, Serial.mk.injEq] at hser
    obtain ⟨hpend, -, hleft, -, -⟩ := hser
    simp only [InstantSound, hp, List.length_cons] at hs
    simp only [InstantSound, driveIrq, hpend, hleft]
    omega

/-- Settles O3: an instant is sorted by place, and every step keeps its commands waiting. -/
theorem instantsFollowTheRequestOrder : Obligations.InstantsFollowTheRequestOrder := by
  unfold Obligations.InstantsFollowTheRequestOrder
  refine ⟨fun s => step_nextInstant, fun events => ⟨inRequestOrder_perm events,
    pairwise_flatMap_place instantPlace events 18, inRequestOrder_filter events⟩, fun stuck => ?_,
    fun i hi => ?_, fun i hi => ?_, ⟨rfl, rfl, fun _ => rfl⟩, fun s t => step_instantSound⟩
  · exact ⟨Nat.lt_succ_self 2, rfl, rfl, rfl, fun _ => rfl, fun _ => ⟨rfl, rfl⟩⟩
  · rw [instantPlace_of_rowPort hi]
    by_cases hc : i = .completionPop .m ∨ i = .eventPop <;> simp [hc, portPlace]
  · rw [instantPlace_of_rowPort hi]
    by_cases hc : i = .completionPop .a <;> simp [hc, portPlace]

end Sys2Proof.Machine

namespace Sys2Proof.Machine

/-! ## Begin and end of a transaction, refusals, reads and settings (chapter 1) -/

/-- Settles O1, by the dispatch's own equation. -/
theorem stepRunsFrontCommand : Obligations.StepRunsFrontCommand :=
  fun _ _ _ => step_of_pending rfl

/-- TRANSACTION_BEGIN by the selection and the power state (R2, R3, R168). -/
theorem beginTransaction_active {s : State} {p : Port} (hs : (s.port p).sel = .high)
    (hp : s.power = .active) : beginTransaction s p = s.setPort p { s.port p with
      sel := .opened (sampleTx (s.port p) false), latch := [], received := 0, driven := none } := by
  simp [beginTransaction, hs, hp]

theorem beginTransaction_dormant {s : State} {p : Port} (hs : (s.port p).sel = .high)
    (hp : s.power = .dormant) : beginTransaction s p
      = s.setPort p { s.port p with sel := .opened (sampleTx (s.port p) true) } := by
  simp [beginTransaction, hs, hp]

theorem beginTransaction_dark {s : State} {p : Port} (hs : (s.port p).sel = .high)
    (ha : s.power ≠ .active) (hd : s.power ≠ .dormant) :
    beginTransaction s p = s.setPort p { s.port p with sel := .ignored } := by
  unfold beginTransaction
  cases hp : s.power <;> simp_all

theorem beginTransaction_selected {s : State} {p : Port} (hs : (s.port p).sel ≠ .high) :
    beginTransaction s p = s := by
  cases h : (s.port p).sel with
  | high => exact absurd h hs
  | ignored => exact beginTransaction_of_ignored h
  | opened tx => exact beginTransaction_of_opened h

/-- What the end of a live transaction leaves: of a whole one the empty latch, else the latch as it
was (R2, R7). -/
theorem ended_of_high {s : State} {p : Port} (hs : (s.port p).sel = .high) (hp : s.power = .active) :
    ended s p = s.setPort p { s.port p with
      sel := .high, driven := none, contArmed := false, resetArmed := false, latch := []
      received := 0 } := by
  simp [ended, closeTransaction, beginTransaction_active hs hp]

theorem ended_of_opened {s : State} {p : Port} {tx : Tx} (hs : (s.port p).sel = .opened tx) :
    ended s p = s.setPort p { s.port p with
      sel := .high, driven := none, contArmed := false, resetArmed := false } := by
  simp [ended, closeTransaction, beginTransaction_of_opened hs]

theorem ended_latch {s : State} {p : Port} {tx : Tx} (h : Live s p tx) : ∃ latch received,
    ended s p = s.setPort p { s.port p with
        sel := .high, driven := none, contArmed := false, resetArmed := false
        latch := latch, received := received }
      ∧ ((s.port p).sel = .high → latch = [] ∧ received = 0)
      ∧ ((s.port p).sel ≠ .high → latch = (s.port p).latch ∧ received = (s.port p).received) := by
  obtain ⟨hp, ⟨hs, -⟩ | ⟨hs, -⟩⟩ := h
  · exact ⟨[], 0, ended_of_high hs hp, fun _ => ⟨rfl, rfl⟩, fun hn => absurd hs hn⟩
  · refine ⟨_, _, ended_of_opened hs, fun hh => ?_, fun _ => ⟨rfl, rfl⟩⟩
    rw [hs] at hh
    cases hh

/-- Settles O18, by the selection and the power state at the edge. -/
theorem transactionBeginAndEnd : Obligations.TransactionBeginAndEnd := by
  unfold Obligations.TransactionBeginAndEnd
  refine ⟨⟨fun s p hs hp => ?_, fun s p hs hp => ⟨sampleTx (s.port p) true, rfl, ?_⟩,
    fun s p hs ha hd => ?_, fun s p hs => ?_, fun s p h => ?_⟩, fun s p tx => ended_latch⟩
  · exact congrArg finish (beginTransaction_active hs hp)
  · exact congrArg finish (beginTransaction_dormant hs hp)
  · exact congrArg finish (beginTransaction_dark hs ha hd)
  · exact congrArg finish (beginTransaction_selected hs)
  · simp only [exec, execIgnoredTransactionEnd]
    obtain hs | ⟨tx, hs, hr, hw⟩ := h
    · rw [hs]; rfl
    · rw [hs]; simp [hasCarried, hr, hw, finish, deselect]

/-! ### Refusals -/

/-- Settles O19: every request and read ends by `requestEnd` or `readEnd`, whose refusals come first. -/
theorem tornAndUnrecognisedCommands : Obligations.TornAndUnrecognisedCommands := by
  unfold Obligations.TornAndUnrecognisedCommands
  refine ⟨fun i s p c f tx hi hd hr ht => ?_, ⟨fun i s p c f tx hi hd hr => ?_,
    fun s p code f tx hl hro hdec hlead => ?_⟩, fun s p code => rfl⟩
  · obtain ⟨act, ha⟩ := exec_request hi
    rw [ha, requestEnd_of_delivered hd, hr, ht]
    simp [finish, refuseTorn, refuse, noAddress]
  · obtain hi | hi := hi
    · obtain ⟨act, ha⟩ := exec_request hi
      rw [ha, requestEnd_of_delivered hd, if_pos hr]
      rfl
    · obtain ⟨act, ha⟩ := exec_read hi
      rw [ha, readEnd_of_delivered hd, if_pos hr]
      rfl
  · have hn : (tx.contArmed && isAddressLead code) = false := by
      cases hc : tx.contArmed
      · rfl
      · simpa [isAddressLead] using hlead hc
    simp only [exec, execUnknownCommand]
    rw [endTransaction_of_live hl, if_pos (by simp [hro, hdec, hn])]
    rfl

/-! ### The ends of the reads -/

/-- The reads whose end has no effect of its own (R10, R19). -/
theorem exec_read_quiet {i : Instr} {p : Port} {c : Command} {f : Frame}
    (h : readOf i = some (p, c, f)) (h1 : c ≠ .streamRead) (h2 : c ≠ .readPortStatus)
    (h3 : c ≠ .eventRead) (s : State) : exec i s = readEnd s p c f fun _ _ s' => s' := by
  cases i <;> simp only [readOf, Option.some.injEq, Prod.mk.injEq, reduceCtorEq] at h <;>
    obtain ⟨rfl, rfl, rfl⟩ := h
  case streamRead => exact absurd rfl h1
  case readPortStatus => exact absurd rfl h2
  case eventRead => exact absurd rfl h3
  all_goals rfl

/-- The end of a whole read and of a torn one on a port that recognises it (R9, R10). -/
theorem readEnd_of_whole {s : State} {p : Port} {c : Command} {tx : Tx} {f : Frame}
    (h : Delivered s p c tx) (hr : recognises p c = true) (hw : readWhole tx c f)
    (act : Tx → List Byte → State → State) :
    readEnd s p c f act = finish (act tx (readFrame tx 1 f) (ended s p)) := by
  rw [readWhole] at hw
  rw [readEnd_of_delivered h, if_neg (by simp [hr]), if_pos hw]

theorem readEnd_of_torn {s : State} {p : Port} {c : Command} {tx : Tx} {f : Frame}
    (h : Delivered s p c tx) (hr : recognises p c = true) (hw : ¬ readWhole tx c f)
    (act : Tx → List Byte → State → State) : readEnd s p c f act = finish (ended s p) := by
  rw [readWhole] at hw
  rw [readEnd_of_delivered h, if_neg (by simp [hr]), if_neg hw]

/-- The end of a read whose effect the selector withholds, torn or not (R152, R157). -/
theorem readEnd_of_withheld {s : State} {p : Port} {c : Command} {tx : Tx} {f : Frame}
    (h : Delivered s p c tx) (hr : recognises p c = true) {act : Tx → List Byte → State → State}
    (ha : readWhole tx c f → act tx (readFrame tx 1 f) (ended s p) = ended s p) :
    readEnd s p c f act = finish (ended s p) := by
  by_cases hw : readWhole tx c f
  · rw [readEnd_of_whole h hr hw, ha hw]
  · rw [readEnd_of_torn h hr hw]

theorem recognises_shared {c : Command} (h : portMOnly c = false) (p : Port) :
    recognises p c = true := by cases p <;> simp [recognises, h]

/-- The end of a transaction keeps the note of a lost completion record (R152). -/
theorem ended_completionLost {s : State} {p : Port} {tx : Tx} (h : Live s p tx) :
    ((ended s p).port p).completionLost = (s.port p).completionLost := by
  obtain ⟨l, r, he⟩ := ended_of_live h
  simp [he]

theorem setContinuation_eq (s : State) (p : Port) (mark : Byte) : setContinuation s p mark
    = s.setPort p { s.port p with contArmed := decide (mark = 0xA5) } := by
  simp [setContinuation, Config.continuationMark, Bool.beq_eq_decide_eq]

/-- The end of a continuation transaction: by the continuation state at its start and the length of its
frame (R12, R13). -/
theorem execContinuationTransaction_of_live {s : State} {p : Port} {f : Frame} {tx : Tx}
    (hl : Live s p tx) (hf : continuationFits f tx = true) :
    exec (.continuationTransaction p f) s = finish
      (if tx.contArmed = false then refuse (ended s p) p .unknownCommand
       else if 5 ≤ (readFrame tx 0 f).length then
         setContinuation (ended s p) p (byteAt (readFrame tx 0 f) 4)
       else ended s p) := by
  simp only [exec, execContinuationTransaction]
  rw [endTransaction_of_live hl, if_pos hf]
  have hw : frameComplete .streamRead (readFrame tx 0 f) = decide (5 ≤ (readFrame tx 0 f).length) := rfl
  cases tx.contArmed <;> simp [hw]

/-- Settles O20: every read ends by `readEnd`, whose effect its mark or its selector decides. -/
theorem readEnds : Obligations.ReadEnds := by
  unfold Obligations.ReadEnds
  refine ⟨fun i s p c f tx hi h1 h2 h3 hd hr => ?_,
    ⟨fun s p f tx hd hw => ?_, fun s p f tx hd hw => ?_, fun s p f tx hl hf hc h5 => ?_,
      fun s p f tx hl hf hc h5 => ?_, fun s p f tx hl hf hc => ?_⟩,
    fun s p f tx hd hw h1 => ?_, fun s p f tx hd h1 => ?_, fun s f tx hd hw h1 => ?_,
    fun s f tx hd h1 => ?_⟩
  · rw [exec_read_quiet hi h1 h2 h3, readEnd_of_withheld hd hr fun _ => rfl]; rfl
  · simp only [exec, execStreamRead]
    rw [readEnd_of_whole hd (recognises_shared rfl p) hw, setContinuation_eq]
    rfl
  · simp only [exec, execStreamRead]
    rw [readEnd_of_torn hd (recognises_shared rfl p) hw]
    rfl
  · rw [execContinuationTransaction_of_live hl hf, if_neg (by simp [hc]), if_pos h5,
      setContinuation_eq]
    rfl
  · rw [execContinuationTransaction_of_live hl hf, if_neg (by simp [hc]), if_neg (by omega)]; rfl
  · rw [execContinuationTransaction_of_live hl hf, if_pos hc]; rfl
  · simp only [exec, execReadPortStatus]
    rw [readEnd_of_whole hd (recognises_shared rfl p) hw, if_pos h1, clearStatus,
      ended_completionLost hd.1]
    rfl
  · simp only [exec, execReadPortStatus]
    rw [readEnd_of_withheld hd (recognises_shared rfl p) fun hw => if_neg (h1 hw)]
    rfl
  · simp only [exec, execEventRead]
    rw [readEnd_of_whole hd rfl hw, if_pos h1]
    rfl
  · simp only [exec, execEventRead]
    rw [readEnd_of_withheld hd rfl fun hw => if_neg (h1 hw)]
    rfl

/-! ### Settings -/

theorem decided_pass {s : State} {p : Port} {b : Bool} {code : RefusalCode}
    {rest : List (Bool × RefusalCode)} {accept : State → State} (h : b = false) :
    decided s p ((b, code) :: rest) accept = decided s p rest accept := by
  simp [decided, firstFailure, h]

theorem decided_fail {s : State} {p : Port} {b : Bool} {code : RefusalCode}
    {rest : List (Bool × RefusalCode)} {accept : State → State} (h : b = true) :
    decided s p ((b, code) :: rest) accept = refuse s p code := by
  simp [decided, firstFailure, h]

@[simp] theorem decided_nil (s : State) (p : Port) (accept : State → State) :
    decided s p [] accept = accept s := rfl

theorem toNat_le_two {v : Byte} (h : v.toNat ≤ 2) : v = 0 ∨ v = 1 ∨ v = 2 := by
  have : v.toNat = 0 ∨ v.toNat = 1 ∨ v.toNat = 2 := by omega
  exact this.imp BitVec.eq_of_toNat_eq (Or.imp BitVec.eq_of_toNat_eq BitVec.eq_of_toNat_eq)

theorem laneCode_laneOf {v : Byte} (h : v.toNat ≤ 2) : laneCode (laneOf v) = v.toNat := by
  obtain rfl | rfl | rfl := toNat_le_two h <;> rfl

theorem wrapCode_wrapOf {v : Byte} (h : v.toNat ≤ 3) : wrapCode (wrapOf v) = v.toNat := by
  obtain h | h : v.toNat ≤ 2 ∨ v.toNat = 3 := by omega
  · obtain rfl | rfl | rfl := toNat_le_two h <;> rfl
  · obtain rfl : v = 3 := BitVec.eq_of_toNat_eq h
    rfl

theorem setWidth_four (v : Byte) : v.setWidth 4 = BitVec.ofNat 4 v.toNat := by
  exact BitVec.eq_of_toNat_eq (by simp)

/-- Settles O27: each setting's request reaches its decision, whose one check is the value's range. -/
theorem portSettings : Obligations.PortSettings := by
  unfold Obligations.PortSettings
  refine ⟨⟨rfl, rfl, fun v => ⟨laneCode_laneOf, wrapCode_wrapOf⟩⟩, fun s p f v hv => ?_⟩
  subst hv
  refine ⟨fun h hr => ⟨_, laneCode_laneOf hr, ?_⟩, fun h hr => ?_, fun h hr => ?_, fun h hr => ?_,
    fun h hr => ⟨_, wrapCode_wrapOf hr, ?_⟩, fun h hr => ?_, fun h => ?_, fun h => ?_⟩ <;>
    simp only [exec, execSetLanes, execSetWait, execSetWrap, execSetIrqMask, execResetArm] <;>
    rw [requestEnd_of_arrives h] <;> refine congrArg finish ?_
  · exact decided_pass (decide_eq_false (by omega))
  · exact decided_fail (decide_eq_true hr)
  · rw [decided_pass (decide_eq_false (by omega)), decided_nil, setWidth_four]
  · exact decided_fail (decide_eq_true hr)
  · exact decided_pass (decide_eq_false (by omega))
  · exact decided_fail (decide_eq_true hr)
  · rfl
  · rfl

end Sys2Proof.Machine

namespace Sys2Proof.Machine

/-! ## Lanes (R3, R6, R13) -/

theorem lanesOf_single {m : LaneMode} {part : FramePart} (h : onFourLanes m part = false) :
    lanesOf m part = [singleLane part] := by simp [lanesOf, h]

theorem lanesOf_four {m : LaneMode} {part : FramePart} (h : onFourLanes m part = true) :
    lanesOf m part = [0, 1, 2, 3] := by simp only [lanesOf, h, if_true]; rfl

/-- A byte on one lane: the most significant bit first (R3). -/
theorem byteSignal_single {m : LaneMode} {part : FramePart} (h : onFourLanes m part = false)
    (b : Byte) : byteSignal m part b
      = (List.range 8).map fun n => [(singleLane part, b.getLsbD (7 - n))] := by
  simp [byteSignal, h]

/-- A byte on four lanes: the high nibble first, IO3 carrying bit 3 of a nibble (R3). -/
theorem byteSignal_four {m : LaneMode} {part : FramePart} (h : onFourLanes m part = true)
    (b : Byte) : byteSignal m part b
      = [[(0, b.getLsbD 4), (1, b.getLsbD 5), (2, b.getLsbD 6), (3, b.getLsbD 7)],
         [(0, b.getLsbD 0), (1, b.getLsbD 1), (2, b.getLsbD 2), (3, b.getLsbD 3)]] := by
  simp only [byteSignal, h, if_true]; rfl

/-- The signal of a byte has its clocks, each with the part's lanes and no other (R2, R3). -/
theorem byteSignal_shape (m : LaneMode) (part : FramePart) (b : Byte) :
    clocksOf m part * (lanesOf m part).length = 8
      ∧ (byteSignal m part b).length = clocksOf m part
      ∧ ∀ clock ∈ byteSignal m part b, clock.map Prod.fst = lanesOf m part := by
  cases h : onFourLanes m part
  · rw [lanesOf_single h, byteSignal_single h]
    simp [clocksOf, h]
  · rw [lanesOf_four h, byteSignal_four h]
    simp [clocksOf, h]

/-- A byte reads back from its levels (R3). -/
theorem byteSignal_injective (m : LaneMode) (part : FramePart) {b c : Byte}
    (h : byteSignal m part b = byteSignal m part c) : b = c := by
  refine BitVec.eq_of_getLsbD_eq fun i hi => ?_
  cases hf : onFourLanes m part
  · rw [byteSignal_single hf, byteSignal_single hf, List.map_inj_left] at h
    have hi' := h (7 - i) (by simp; omega)
    rw [show 7 - (7 - i) = i by omega] at hi'
    simpa using hi'
  · rw [byteSignal_four hf, byteSignal_four hf] at h
    simp only [List.cons.injEq, Prod.mk.injEq, true_and, and_true] at h
    obtain ⟨⟨h4, h5, h6, h7⟩, h0, h1, h2, h3⟩ := h
    obtain rfl | rfl | rfl | rfl | rfl | rfl | rfl | rfl :
      i = 0 ∨ i = 1 ∨ i = 2 ∨ i = 3 ∨ i = 4 ∨ i = 5 ∨ i = 6 ∨ i = 7 := by omega
    all_goals assumption

/-- No command but a port's own fetch drives its lanes anew (R3). -/
theorem ExecEffect.lanes {i : Instr} {s u : State} (h : ExecEffect i s u) (p : Port) :
    LanesKept (s.port p) (u.port p) ∨ ∃ w, i = .dataByteFetch p w ∧ DrivesByte (u.port p) := by
  have other : ∀ {q : Port}, RowEffect q s u → p ≠ q → LanesKept (s.port p) (u.port p) := by
    intro q hr hpq
    obtain rfl := (eq_or_otherPort q p).resolve_left hpq
    exact .inl (by simpa using congrArg PortState.driven hr.other)
  cases h with
  | closes q hq h => exact .inl (h.settle.lanes p)
  | consumes q hq hi h hd =>
    by_cases hpq : p = q
    · subst hpq; exact .inl (.inl hd)
    · exact .inl (other h hpq)
  | fetches q hq w hi h hd =>
    by_cases hpq : p = q
    · subst hpq
      exact hd.imp id fun hd => ⟨w, hi, hd⟩
    · exact .inl (other h hpq)
  | settles hq h => exact .inl (h.lanes p)
  | inside hq h => exact .inl ((settleEffect_of_outside h).lanes p)

/-- Settles O22: the lanes by cases on part and mode, the levels bit by bit, sampling and driving by the
transaction's state. -/
theorem lanesCarryBytes : Obligations.LanesCarryBytes := by
  unfold Obligations.LanesCarryBytes
  refine ⟨⟨rfl, rfl, rfl, rfl, rfl, rfl, fun part => lanesOf_four (by cases part <;> rfl)⟩,
    fun m part b => ?_, fun m part b c => byteSignal_injective m part, fun m ps d => ?_,
    fun tx h => ?_, fun i s t p h hd => ?_⟩
  · obtain ⟨h1, h2, h3⟩ := byteSignal_shape m part b
    refine ⟨h1, h2, h3, fun l hl => ?_, fun hl => ?_⟩ <;> cases hf : onFourLanes m part
    · rw [lanesOf_single hf, List.cons.injEq] at hl
      rw [byteSignal_single hf, hl.1]
    · simp [lanesOf_four hf] at hl
    · simp [lanesOf_single hf] at hl
    · exact byteSignal_four hf b
  · constructor <;> intro hc <;> simp [sampledLanes, sampleTx, inputPart, hc]
  · exact if_pos (h.imp id Option.isSome_iff_ne_none.mpr)
  · obtain ⟨u, rfl, he⟩ := exec_eq_finish h
    rw [port_driveIrq] at hd ⊢
    obtain (hk | hk) | ⟨w, hi, tx, b, hs, hb⟩ := he.lanes p
    · exact .inl hk
    · exact absurd hk hd
    · exact .inr ⟨w, tx, b, hi, hs, hb⟩

/-! ## The states of a transaction (R4) -/

/-- The frame of a command other than JOB_LOAD is whole with its fixed fields (R5). -/
theorem frameComplete_iff {c : Command} (hc : c ≠ .jobLoad) (bs : List Byte) :
    frameComplete c bs = true ↔ fixedLen c ≤ bs.length := by
  unfold frameComplete
  split
  · exact absurd rfl hc
  · exact decide_eq_true_iff

/-- Option records that are whole stay so with more bytes (R5). -/
theorem parseOptions_append (n : Nat) (bs : List Byte) (b : Byte)
    (h : (parseOptions n bs).isSome = true) : (parseOptions n (bs ++ [b])).isSome = true := by
  induction n generalizing bs with
  | zero => cases bs <;> rfl
  | succ n ih =>
    cases bs with
    | nil => cases h
    | cons t bs =>
      have drop : ∀ k, k ≤ bs.length → (bs ++ [b]).drop k = bs.drop k ++ [b] :=
        fun k hk => List.drop_append_of_le_length hk
      simp only [parseOptions, List.cons_append] at h ⊢
      split
      · rw [if_pos ‹_›] at h
        simpa using ih bs (by simpa using h)
      · rw [if_neg ‹_›] at h
        split
        · rw [if_pos ‹_›] at h
          split at h
          · cases h
          · rw [if_neg (by simp), drop 1 (by omega)]
            simpa using ih _ (by simpa using h)
        · rw [if_neg ‹_›] at h
          split
          · rw [if_pos ‹_›] at h
            split at h
            · cases h
            · rw [if_neg (by simp), drop 1 (by omega)]
              simpa using ih _ (by simpa using h)
          · rw [if_neg ‹_›] at h
            split
            · rw [if_pos ‹_›] at h
              split at h
              · cases h
              · rw [if_neg (by simp; omega), drop 4 (by omega)]
                simpa using ih _ (by simpa using h)
            · rfl

theorem byteAt_append {bs : List Byte} {i : Nat} (h : i < bs.length) (cs : List Byte) :
    byteAt (bs ++ cs) i = byteAt bs i := by
  simp only [byteAt, List.getD_eq_getElem?_getD, List.getElem?_append_left h]

/-- A whole frame stays whole with more bytes (R5). -/
theorem frameComplete_append {c : Command} {bs : List Byte} (b : Byte)
    (h : frameComplete c bs = true) : frameComplete c (bs ++ [b]) = true := by
  by_cases hc : c = .jobLoad
  · subst hc
    simp only [frameComplete, jobOptionsOf] at h ⊢
    split at h
    · cases h
    · rw [if_neg (by simp; omega), byteAt_append (by omega),
        List.drop_append_of_le_length (by omega)]
      exact parseOptions_append _ _ b h
  · rw [frameComplete_iff hc] at h ⊢
    simp only [List.length_append, List.length_singleton]
    omega

/-- A byte more after the first leaves the command, and stands at the end of its bytes (R8, R13). -/
theorem framing_append (p : Port) (cont : Bool) {w : List Byte} (hw : w ≠ []) (b : Byte) :
    framing p cont (w ++ [b])
      = (framing p cont w).map fun fr => { fr with bytes := fr.bytes ++ [b] } := by
  cases w with
  | nil => exact absurd rfl hw
  | cons a w =>
    simp only [framing, List.cons_append]
    split
    · rfl
    · cases decodeFor p a <;> rfl

/-- Only memory reads have wait bytes, and each has fixed fields (R5). -/
theorem memoryRead_fixedLen {c : Command} (h : commandClass c = .memoryRead) :
    c ≠ .jobLoad ∧ fixedLen c ≠ 0 := by
  cases c <;> simp [commandClass, fixedLen] at h ⊢

/-- The state that the bytes `bs` after a command byte have brought a port to (R4, R6). -/
def phaseAfter (c : Command) (wait : Nat) (bs : List Byte) : TxState :=
  if frameComplete c bs = false then
    (if c = .streamRead ∧ bs.length = 4 then .mark else .address)
  else if commandClass c = .memoryRead ∧ bs.length < fixedLen c + wait then .wait
  else .data

/-- The command byte alone (R4). -/
theorem phaseAfter_nil (c : Command) (wait : Nat) :
    phaseAfter c wait [] = if fixedLen c = 0 then .data else .address := by
  by_cases hc : c = .jobLoad
  · subst hc; rfl
  · have hw := frameComplete_iff hc []
    simp only [List.length_nil, Nat.le_zero] at hw
    by_cases h0 : fixedLen c = 0
    · have hm : commandClass c ≠ .memoryRead := fun h => (memoryRead_fixedLen h).2 h0
      simp [phaseAfter, hw.mpr h0, h0, hm]
    · simp [phaseAfter, Bool.eq_false_iff.mpr (mt hw.mp h0), h0]

/-- In ADDRESS the next byte is one of the fixed fields (R4). -/
theorem phaseAfter_of_address {c : Command} {wait : Nat} {bs : List Byte} (b : Byte)
    (h : frameComplete c bs = false) :
    phaseAfter c wait (bs ++ [b]) = afterField c wait (bs ++ [b]) := by
  unfold phaseAfter afterField afterFields
  cases hb : frameComplete c (bs ++ [b])
  · simp
  · have hlen : commandClass c = .memoryRead → (bs ++ [b]).length = fixedLen c := by
      intro hm
      have h1 := mt (frameComplete_iff (memoryRead_fixedLen hm).1 bs).mpr (Bool.eq_false_iff.mp h)
      have h2 := (frameComplete_iff (memoryRead_fixedLen hm).1 (bs ++ [b])).mp hb
      simp only [List.length_append, List.length_singleton] at h2 ⊢
      omega
    by_cases hm : commandClass c = .memoryRead
    · simp [hm, hlen hm, Nat.pos_iff_ne_zero]
    · simp [hm]

/-- In MARK the next byte is the mark of a STREAM_READ, its last fixed field (R4). -/
theorem phaseAfter_of_mark {wait : Nat} {bs : List Byte} (b : Byte) (h : bs.length = 4) :
    phaseAfter .streamRead wait (bs ++ [b]) = afterFields .streamRead wait := by
  have hw : frameComplete .streamRead (bs ++ [b]) = true :=
    (frameComplete_iff (by decide) _).mpr (by simp [h, fixedLen])
  unfold phaseAfter afterFields
  rw [hw]
  simp [h, fixedLen, commandClass, Nat.pos_iff_ne_zero]

/-- After its fixed fields a memory read takes in its wait bytes, and nothing leads out of DATA (R4, R6). -/
theorem phaseAfter_of_complete {c : Command} {wait : Nat} {bs : List Byte} (b : Byte)
    (h : frameComplete c bs = true) : phaseAfter c wait (bs ++ [b]) =
      if commandClass c = .memoryRead ∧ bs.length < fixedLen c + wait then
        afterWait c wait (bs ++ [b]) else .data := by
  unfold phaseAfter afterWait
  rw [if_neg (by simp [frameComplete_append b h])]
  simp only [List.length_append, List.length_singleton]
  by_cases hm : commandClass c = .memoryRead
  · by_cases h1 : bs.length + 1 < fixedLen c + wait
    · rw [if_pos ⟨hm, h1⟩, if_pos ⟨hm, by omega⟩, if_neg (by omega)]
    · rw [if_neg (fun h => h1 h.2), if_pos (Nat.le_of_not_lt h1), ite_self]
  · rw [if_neg (fun h => hm h.1), if_neg (fun h => hm h.1)]

/-- The state that the bytes of a transaction have brought its port to (R4). -/
def phaseOf (p : Port) (tx : Tx) (w : List Byte) : TxState :=
  match framing p tx.contArmed w with
  | none => .command
  | some fr => phaseAfter fr.command tx.wait.toNat fr.bytes

/-- The first byte is the command byte, or with continuation ARMED one that leads an address (R13). -/
theorem phaseOf_first (p : Port) (tx : Tx) (b : Byte) : phaseOf p tx [b] =
    match framing p tx.contArmed [b] with
    | none => .command
    | some fr => if fixedLen fr.command = 0 then .data else .address := by
  unfold phaseOf
  cases hf : framing p tx.contArmed [b] with
  | none => rfl
  | some fr =>
    simp only [framing] at hf
    split at hf
    · cases hf; rfl
    · obtain ⟨c, -, rfl⟩ := Option.map_eq_some_iff.mp hf
      exact phaseAfter_nil c _

/-- Each byte takes the port from its state to the one that the table of R4 gives. -/
theorem nextTxState_phaseOf (p : Port) (tx : Tx) (w : List Byte) (b : Byte) {tx' : Tx}
    (hc : tx'.contArmed = tx.contArmed) (hn : tx'.wait = tx.wait) (hp : tx'.phase = phaseOf p tx w) :
    nextTxState p tx' (w ++ [b]) = phaseOf p tx (w ++ [b]) := by
  unfold nextTxState
  rw [hp, hc, hn]
  cases w with
  | nil =>
    rw [List.nil_append, phaseOf_first]
    rfl
  | cons a w =>
    unfold phaseOf
    rw [framing_append p tx.contArmed (List.cons_ne_nil a w) b]
    cases framing p tx.contArmed (a :: w) with
    | none => rfl
    | some fr =>
      obtain ⟨c, bs, cont⟩ := fr
      simp only [Option.map_some]
      cases hcomp : frameComplete c bs
      · by_cases hm : c = .streamRead ∧ bs.length = 4
        · obtain ⟨rfl, h4⟩ := hm
          rw [phaseAfter_of_mark b h4]
          simp [phaseAfter, hcomp, h4]
        · rw [phaseAfter_of_address b hcomp]
          simp [phaseAfter, hcomp, hm]
      · rw [phaseAfter_of_complete b hcomp]
        by_cases hm : commandClass c = .memoryRead ∧ bs.length < fixedLen c + tx.wait.toNat
        · simp [phaseAfter, hcomp, hm]
        · simp [phaseAfter, hcomp, hm]

/-- The bytes of a transaction, taken in from its command byte on, bring the port to their state (R4). -/
theorem foldl_receiveByte_phase (p : Port) {tx : Tx} (hp : tx.phase = .command) (hw : tx.wire = [])
    (w : List Byte) : w.foldl (receiveByte p) tx = { tx with wire := w, phase := phaseOf p tx w } := by
  induction w using List.reverseRecOn with
  | nil =>
    rw [List.foldl_nil, show phaseOf p tx [] = tx.phase from hp.symm, ← hw]
  | append_singleton w b ih =>
    have hn := nextTxState_phaseOf p tx w b (tx' := { tx with wire := w, phase := phaseOf p tx w })
      rfl rfl rfl
    rw [List.foldl_append, ih, List.foldl_cons, List.foldl_nil, receiveByte, hn]

theorem receiveWire_of_command (p : Port) {tx : Tx} (hp : tx.phase = .command) (hw : tx.wire = [])
    (w : List Byte) : receiveWire p tx w = { tx with wire := w, phase := phaseOf p tx w } := by
  rw [receiveWire, hw]
  exact foldl_receiveByte_phase p hp hw w

/-! ### The read that the received bytes make (R5, R13) -/

/-- Taking in bytes keeps what the transaction sampled at its start. -/
theorem receiveWire_sampled (p : Port) (tx : Tx) (w : List Byte) :
    (receiveWire p tx w).contArmed = tx.contArmed ∧ (receiveWire p tx w).dormant = tx.dormant := by
  obtain ⟨phase, h⟩ := receiveWire_eq p tx w
  rw [h]
  exact ⟨rfl, rfl⟩

theorem leavesContinuation_eq (tx : Tx) : leavesContinuation tx
    = (tx.contArmed && decide (∃ b, tx.wire.head? = some b ∧ b ≠ 0 ∧ b ≠ 1)) := by
  unfold leavesContinuation
  cases tx.wire.head? <;> simp [isAddressLead, Bool.beq_eq_decide_eq]

/-- The fetch of a selected port goes on with its read, or begins one (R6). -/
theorem exec_dataByteFetch {s : State} {p : Port} {tx : Tx} (hp : s.power = .active)
    (hs : (s.port p).sel = .opened tx) (hd : tx.dormant = false) (w : List Byte) :
    exec (.dataByteFetch p w) s = finish (match tx.readOp with
      | some r => fetchByte s p r
      | none => firstFetch s p tx w) := by
  simp only [exec, execDataByteFetch, beginTransaction_of_opened hs, hs, hd, hp]
  cases tx.readOp <;> rfl

/-- The first fetch whose bytes open a data-out phase fetches as one of that read; any other only takes
the bytes in (R3, R4, R6). -/
theorem exec_firstFetch {s : State} {p : Port} {tx : Tx} (hp : s.power = .active)
    (hs : (s.port p).sel = .opened tx) (hd : tx.dormant = false) (hr : tx.readOp = none)
    (w : List Byte) :
    (∀ r, openedRead p (receiveWire p tx w) = some r → exec (.dataByteFetch p w) s
        = exec (.dataByteFetch p w)
          (startRead (receiveBytes s p tx w) p (receiveWire p tx w) r))
      ∧ (openedRead p (receiveWire p tx w) = none →
        exec (.dataByteFetch p w) s = finish (receiveBytes s p tx w)) := by
  rw [exec_dataByteFetch hp hs hd, hr]
  refine ⟨fun r h => ?_, fun h => ?_⟩
  · rw [exec_dataByteFetch (tx := { receiveWire p tx w with readOp := some r })
      (by simpa [startRead, receiveBytes] using hp) (by simp [startRead])
      ((receiveWire_sampled p tx w).2.trans hd)]
    simp [firstFetch, h]
  · simp [firstFetch, h]

/-- Each command's code reads back as that command (chapter 11.2). -/
theorem decodeCommand_commandCode (c : Command) : decodeCommand (commandCode c) = some c := by
  cases c <;> rfl

/-- A port reads a command's code just where it recognises the command (R8). -/
theorem decodeFor_commandCode (p : Port) (c : Command) :
    decodeFor p (commandCode c) = if recognises p c then some c else none := by
  simp [decodeFor, decodeCommand_commandCode]

/-- A read's command byte with its fixed fields makes the read (R5). -/
theorem decodeRead_command {c : Command} (hs : portMOnly c = false) (hc : c ≠ .jobLoad)
    (hl : isAddressLead (commandCode c) = false) (p : Port) (cont : Bool) {bs : List Byte}
    (hw : fixedLen c ≤ bs.length) : decodeRead p cont (commandCode c :: bs) = readOpOf c bs := by
  simp [decodeRead, framing, hl, decodeFor_commandCode, recognises_shared hs,
    (frameComplete_iff hc bs).mpr hw]

/-- With continuation ARMED an address lead is the first byte of a STREAM_READ's fields (R13). -/
theorem decodeRead_continuation (p : Port) {b : Byte} (hl : isAddressLead b = true) {bs : List Byte}
    (hw : 5 ≤ (b :: bs).length) :
    decodeRead p true (b :: bs) = some (.streamRead (be32 (b :: bs) 0) true) := by
  have h := (frameComplete_iff (c := .streamRead) (by decide) (b :: bs)).mpr hw
  simp [decodeRead, framing, hl, h]

/-- Settles O21: the codes by cases on the command, the states by the bytes taken in, the first fetch by
the read that those bytes open. -/
theorem framesDecode : Obligations.FramesDecode := by
  unfold Obligations.FramesDecode
  refine ⟨fun c => ⟨decodeCommand_commandCode c, decodeFor_commandCode .m c, ?_⟩,
    fun p tx w hp hw => ?_,
    fun s p tx w hp hs hd hr => ?_, fun p cont b0 b1 b2 b3 m rest => ?_, fun p b1 b2 b3 m rest => ?_⟩
  · rw [decodeFor_commandCode]
    cases hm : portMOnly c <;> simp [recognises, hm]
  · rw [receiveWire_of_command p hp hw]
    refine ⟨rfl, fun hf => ?_, fun c bs cont hf => ?_⟩ <;> simp only [phaseOf, hf]
    rfl
  · have hcont := (receiveWire_sampled p tx w).1
    have hleave : (tx.contArmed && decide (∃ b, (receiveWire p tx w).wire.head? = some b ∧ b ≠ 0 ∧ b ≠ 1))
        = leavesContinuation (receiveWire p tx w) := by rw [leavesContinuation_eq, hcont]
    obtain ⟨hopen, hnone⟩ := exec_firstFetch hp hs hd hr w
    refine ⟨fun r hph hdec => ?_, fun h => ?_⟩ <;> dsimp only <;> rw [hleave]
    · rw [hopen r (by rw [openedRead, if_pos hph, hcont, hdec])]
      simp [startRead, receiveBytes]
    · rw [hnone (by rw [openedRead, hcont]; split <;> simp_all)]
      rfl
  · refine ⟨?_, ?_, ?_, ?_⟩
    · exact decodeRead_command (c := .read) rfl (by decide) rfl p cont (Nat.le_add_left 4 _)
    · exact decodeRead_command (c := .wrapRead) rfl (by decide) rfl p cont (Nat.le_add_left 4 _)
    · exact decodeRead_command (c := .streamRead) rfl (by decide) rfl p cont (Nat.le_add_left 5 _)
    · exact decodeRead_command (c := .readSeal) rfl (by decide) rfl p cont (Nat.le_add_left 3 _)
  · refine ⟨decodeRead_continuation p rfl (Nat.le_add_left 5 _), ?_⟩
    have hd : decodeFor p 1#8 = none := by cases p <;> rfl
    simp [decodeRead, framing, hd]

end Sys2Proof.Machine

namespace Sys2Proof.Machine

/-! ## Deliveries of completion and event records (R155, R157, R158) -/

/-- Nothing is consumed while a delivery is not over (R155, R157). -/
theorem consumeDelivery_of_not_fetched {s : State} {p : Port} {tx : Tx} {r : ReadOp}
    (hs : (s.port p).sel = .opened tx) (hr : tx.readOp = some r)
    (h : ∀ len, deliveryBytes r = some len → r ≠ .peek → deliveryFetched tx len = false) :
    consumeDelivery s p = s := by
  unfold consumeDelivery
  simp only [hs, hr]
  cases r with
  | completions => simp [h 4 rfl]
  | events sel => simp [h 10 rfl]
  | _ => rfl

/-- A delivery of READ_COMPLETIONS that is over takes its record out of the FIFO, if it is there (R155). -/
theorem consumeDelivery_completions {s : State} {p : Port} {tx : Tx} {d : Delivery}
    (hs : (s.port p).sel = .opened tx) (hr : tx.readOp = some .completions)
    (hd : tx.delivery = some d) (h0 : 0 < tx.fetched) (hm : tx.fetched % 4 = 0) :
    consumeDelivery s p = s.setPort p { s.port p with
      sel := .opened { tx with delivery := none }
      fifo := if d.present then (s.port p).fifo.drop 1 else (s.port p).fifo } := by
  simp [consumeDelivery, hs, hr, deliveryFetched, hd, h0, hm]

/-- A delivery of EVENT_READ that is over takes its record out of the log, if it is there (R157). -/
theorem consumeDelivery_events {s : State} {p : Port} {tx : Tx} {d : Delivery} {selector : Byte}
    (hs : (s.port p).sel = .opened tx) (hr : tx.readOp = some (.events selector))
    (hd : tx.delivery = some d) (h0 : 0 < tx.fetched) (hm : tx.fetched % 10 = 0) :
    consumeDelivery s p = State.setPort { s with log := if d.present then s.log.drop 1 else s.log } p
      { s.port p with sel := .opened { tx with delivery := none } } := by
  simp [consumeDelivery, hs, hr, deliveryFetched, hd, h0, hm]

theorem consumeDelivery_of_none {s : State} {p : Port} {tx : Tx}
    (hs : (s.port p).sel = .opened tx) (hd : tx.delivery = none) : consumeDelivery s p = s := by
  unfold consumeDelivery
  simp only [hs, deliveryFetched, hd]
  split <;> rfl

/-- What is consumed once is not consumed again (assumption 7). -/
theorem consumeDelivery_idem (s : State) (p : Port) :
    consumeDelivery (consumeDelivery s p) p = consumeDelivery s p := by
  obtain h | ⟨tx, fifo, log, hs, h⟩ := consumeDelivery_cases s p
  · rw [h, h]
  · rw [h]
    exact consumeDelivery_of_none (by rw [port_setPort_same]) rfl

/-- A fetch that finds a delivery over is its pop and then the fetch (R17; assumption 7). -/
theorem fetchByte_consumeDelivery (s : State) (p : Port) (r : ReadOp) :
    fetchByte (consumeDelivery s p) p r = fetchByte s p r := by
  unfold fetchByte
  rw [consumeDelivery_idem]

/-- The fetch of a byte of a delivery: the chosen record's byte, and nothing but the transaction
changes (R155, R157, R158). -/
theorem fetchByte_delivered {s : State} {p : Port} {tx : Tx} {r : ReadOp} {len : Nat}
    (hk : consumeDelivery s p = s) (hs : (s.port p).sel = .opened tx)
    (hl : deliveryBytes r = some len) {tx1 : Tx} (hc : chooseDelivery s p r tx = tx1) :
    fetchByte s p r = s.setPort p { s.port p with
      driven := some (byteSignal tx1.lane .dataOut (deliveredByte tx1 len))
      sel := .opened { tx1 with fetched := tx1.fetched + 1, phase := .data } } := by
  have hd : dataByte s p tx1 r = (deliveredByte tx1 len, s) := by
    cases r <;> simp only [deliveryBytes, Option.some.injEq, reduceCtorEq] at hl <;> subst hl <;> rfl
  unfold fetchByte
  rw [hk]
  simp only [hs, hc, hd]

/-- The next fetch of a read under way (R6). -/
theorem exec_nextFetch {s : State} {p : Port} {tx : Tx} {r : ReadOp} (hp : s.power = .active)
    (hs : (s.port p).sel = .opened tx) (hd : tx.dormant = false) (hr : tx.readOp = some r)
    (w : List Byte) : exec (.dataByteFetch p w) s = finish (fetchByte s p r) := by
  rw [exec_dataByteFetch hp hs hd, hr]

theorem consumeDelivery_power (s : State) (p : Port) : (consumeDelivery s p).power = s.power := by
  obtain h | ⟨tx, fifo, log, -, h⟩ := consumeDelivery_cases s p <;> rw [h]
  exact State.setPort_power _ _ _

/-- A fetch on the state that the consumption leaves is the fetch itself (R17; assumption 7). -/
theorem exec_dataByteFetch_consumed {s : State} {p : Port} {tx tx1 : Tx} {r : ReadOp}
    (hp : s.power = .active) (hs : (s.port p).sel = .opened tx) (hd : tx.dormant = false)
    (hr : tx.readOp = some r) (hs1 : ((consumeDelivery s p).port p).sel = .opened tx1)
    (hd1 : tx1.dormant = false) (hr1 : tx1.readOp = some r) (w : List Byte) :
    exec (.dataByteFetch p w) s = exec (.dataByteFetch p w) (consumeDelivery s p) := by
  rw [exec_nextFetch hp hs hd hr, exec_nextFetch ((consumeDelivery_power s p).trans hp) hs1 hd1 hr1,
    fetchByte_consumeDelivery]

/-- A further byte of a delivery leaves the choice as it is. -/
theorem chooseDelivery_of_inside {s : State} {p : Port} {tx : Tx} {r : ReadOp} {len : Nat}
    (hl : deliveryBytes r = some len) (h : tx.fetched % len ≠ 0) : chooseDelivery s p r tx = tx := by
  cases r <;> simp only [deliveryBytes, Option.some.injEq, reduceCtorEq] at hl <;> subst hl <;>
    exact if_neg h

theorem delivered_eq (len : Nat) (chosen : Option (List Byte)) : delivered len chosen
    = { bytes := chosen.getD (List.replicate len 0), present := chosen.isSome } := by
  cases chosen <;> rfl

/-- The fetch of byte 0 chooses the oldest record, or of a peek the one at its position (R155, R157,
R158). -/
theorem chooseDelivery_of_first {s : State} {p : Port} {tx : Tx} {r : ReadOp}
    {chosen : Option (List Byte)} {len at' : Nat} (h : tx.fetched % len = 0)
    (hc : r = .completions ∧ len = 4 ∧ at' = tx.peekAt
        ∧ chosen = (s.port p).fifo.head?.map completionBytes
      ∨ (∃ selector, r = .events selector) ∧ len = 10 ∧ at' = tx.peekAt
        ∧ chosen = s.log.head?.map eventBytes
      ∨ r = .peek ∧ len = 10 ∧ at' = (if tx.peekAt < s.log.length then tx.peekAt + 1 else 0)
        ∧ chosen = s.log[tx.peekAt]?.map eventBytes) :
    deliveryBytes r = some len ∧ chooseDelivery s p r tx
      = { tx with delivery := some (delivered len chosen), peekAt := at' } := by
  obtain ⟨rfl, rfl, rfl, rfl⟩ | ⟨⟨selector, rfl⟩, rfl, rfl, rfl⟩ | ⟨rfl, rfl, rfl, rfl⟩ := hc <;>
    exact ⟨rfl, if_pos h⟩

/-- No command but a port's own fetch and pop touches the delivery under way on it. -/
theorem ExecEffect.txKept {i : Instr} {s u : State} (h : ExecEffect i s u) {p : Port}
    (hw : ∀ w, i ≠ .dataByteFetch p w) (hc : i ≠ .completionPop p) (he : p = .m → i ≠ .eventPop) :
    TxKept (s.port p) (u.port p) := by
  have other : ∀ {q : Port}, RowEffect q s u → p ≠ q → TxKept (s.port p) (u.port p) := by
    intro q hr hpq
    obtain rfl := (eq_or_otherPort q p).resolve_left hpq
    exact .inl (by simpa using congrArg PortState.sel hr.other)
  cases h with
  | closes q hq h => exact h.settle.tx p
  | consumes q hq hi h hd =>
    refine other h ?_
    rintro rfl
    obtain hi | ⟨hm, hi⟩ := hi
    · exact hc hi
    · exact he hm hi
  | fetches q hq w hi h hd =>
    refine other h ?_
    rintro rfl
    exact hw w hi
  | settles hq h => exact h.tx p
  | inside hq h => exact (settleEffect_of_outside h).tx p

/-- A transaction that goes on keeps its fetch count and the bytes of its delivery. -/
theorem TxKept.delivery {ps qs : PortState} (h : TxKept ps qs) {tx tx' : Tx} {d : Delivery}
    (hs : ps.sel = .opened tx) (hd : tx.delivery = some d) (ht : qs.sel = .opened tx') :
    tx'.fetched = tx.fetched ∧ ∃ d', tx'.delivery = some d' ∧ d'.bytes = d.bytes := by
  obtain h | h | h := h
  · rw [hs, ht] at h
    simp only [quietSel, Sel.opened.injEq, Tx.mk.injEq, hd, Option.map_some] at h
    obtain ⟨-, -, -, -, -, -, -, -, -, hf, hm, -⟩ := h
    obtain ⟨d', hd', he⟩ := Option.map_eq_some_iff.mp hm
    exact ⟨hf, d', hd', (Delivery.mk.inj he).1⟩
  · exact absurd hs (h tx)
  · exact absurd ht (h tx')

theorem outcomeCode_toNat (o : OpOutcome) : (outcomeCode o).toNat
    = match o with | .done => 0 | .failed => 1 | .denied => 2 | .cancelled => 3 := by
  cases o <;> rfl

theorem bits_of_two_flags : ∀ a b : Bool,
    (List.range 8).map (BitVec.ofNat 8 (bit a + 2 * bit b)).getLsbD
      = [a, b, false, false, false, false, false, false] := by decide

/-- Settles O26: a fetch of a delivery by whether it is over, its pops, and the frame of every other
command. -/
theorem recordDeliveries : Obligations.RecordDeliveries := by
  unfold Obligations.RecordDeliveries
  refine ⟨fun s p tx w r chosen len at' hp hs hd hr hfree hm hc => ?_,
    fun s p tx w r len d hp hs hd hr hl hdel => ⟨fun hm => ?_, fun hm h0 hrc => ?_,
      fun selector hm h0 hre => ?_⟩,
    fun i s t p tx tx' d hs hd h ht hw hcp hep => ?_,
    ⟨fun s p tx d hs hr hd h0 hm => ?_, fun s tx d selector hs hr hd h0 hm => ?_⟩,
    fun r => ⟨rfl, rfl, rfl, outcomeCode_toNat r.outcome, bits_of_two_flags _ _⟩,
    fun e => ⟨rfl, be16_bytes16 e.seq _, rfl, rfl, rfl, rfl, be32_bytes32 e.address []⟩,
    rfl, rfl, rfl, rfl⟩
  · obtain ⟨hl, hch⟩ := chooseDelivery_of_first (p := p) hm hc
    have hk : consumeDelivery s p = s := by
      obtain hn | rfl := hfree
      · exact consumeDelivery_of_none hs hn
      · exact consumeDelivery_of_not_fetched hs hr fun _ _ hne => absurd rfl hne
    rw [exec_nextFetch hp hs hd hr]
    simp only [fetchByte_delivered hk hs hl hch, deliveredByte, hm, delivered_eq, Option.map_some,
      Option.getD_some]
    rfl
  · have hk : consumeDelivery s p = s := by
      refine consumeDelivery_of_not_fetched hs hr fun len' hl' _ => ?_
      obtain rfl := Option.some.inj (hl.symm.trans hl')
      simp [deliveryFetched, hm]
    rw [exec_nextFetch hp hs hd hr]
    simp only [fetchByte_delivered hk hs hl (chooseDelivery_of_inside hl hm), deliveredByte, hdel,
      Option.map_some, Option.getD_some]
    rfl
  · subst hrc
    obtain rfl : 4 = len := Option.some.inj hl
    have hk := consumeDelivery_completions hs hr hdel h0 hm
    rw [← hk]
    exact exec_dataByteFetch_consumed hp hs hd hr (by rw [hk, port_setPort_same])
      (by exact hd) (by exact hr) w
  · subst hre
    obtain rfl : 10 = len := Option.some.inj hl
    have hk := consumeDelivery_events hs hr hdel h0 hm
    rw [← hk]
    exact exec_dataByteFetch_consumed hp hs hd hr (by rw [hk, port_setPort_same])
      (by exact hd) (by exact hr) w
  · obtain ⟨u, rfl, he⟩ := exec_eq_finish h
    rw [port_driveIrq] at ht
    exact (he.txKept hw hcp hep).delivery hs hd ht
  · rw [← consumeDelivery_completions hs hr hd h0 hm]
    exact if_pos (by simp [readUnderWay, hs, hr])
  · have hk := consumeDelivery_events (p := .m) hs hr hd h0 hm
    refine (if_pos (by simp [readUnderWay, hs, hr, isEventRead])).trans ?_
    rw [hk]
    rfl

end Sys2Proof.Machine

namespace Sys2Proof.Machine

/-! ## The inbound latch (R7) -/

/-- Positions of a latch stand in rising order (R7). -/
def LatchSorted (l : Latch) : Prop := l.Pairwise fun c d => c.1 < d.1

theorem lookup_cons_eq (c : Host.Cell) (l : Latch) (i : Nat) :
    List.lookup i (c :: l) = if i = c.1 then some c.2 else l.lookup i := by
  obtain ⟨k, v⟩ := c
  rw [List.lookup_cons]
  by_cases h : i = k
  · simp [h]
  · rw [beq_eq_false_iff_ne.mpr h, if_neg h]

/-- A byte put at a position is what the latch holds there, and every other position is as it was (R7). -/
theorem lookup_latchPut (l : Latch) (i j : Nat) (b : Byte) :
    (latchPut l i b).lookup j = if j = i then some b else l.lookup j := by
  induction l with
  | nil => exact lookup_cons_eq (i, b) [] j
  | cons c l ih =>
    unfold latchPut
    split
    · exact lookup_cons_eq (i, b) (c :: l) j
    · split
      · rename_i h'
        rw [lookup_cons_eq, lookup_cons_eq, ← h']
        split <;> rfl
      · rename_i hne
        rw [lookup_cons_eq, lookup_cons_eq, ih]
        by_cases h : j = c.1
        · rw [if_pos h, if_neg (by omega), if_pos h]
        · rw [if_neg h, if_neg h]

theorem mem_latchPut {l : Latch} {i : Nat} {b : Byte} {c : Host.Cell} (h : c ∈ latchPut l i b) :
    c = (i, b) ∨ c ∈ l := by
  induction l with
  | nil => simpa [latchPut] using h
  | cons d l ih =>
    unfold latchPut at h
    split at h
    · simpa using h
    · split at h
      · rw [List.mem_cons] at h ⊢
        exact h.imp id .inr
      · rw [List.mem_cons] at h ⊢
        obtain h | h := h
        · exact .inr (.inl h)
        · exact (ih h).imp id .inr

theorem latchPut_sorted {l : Latch} (i : Nat) (b : Byte) (h : LatchSorted l) :
    LatchSorted (latchPut l i b) := by
  induction l with
  | nil => simp [latchPut, LatchSorted]
  | cons c l ih =>
    obtain ⟨hc, hl⟩ := List.pairwise_cons.mp h
    unfold latchPut
    split
    · rename_i hlt
      refine List.pairwise_cons.mpr ⟨fun d hd => ?_, h⟩
      obtain rfl | hd := List.mem_cons.mp hd
      · exact hlt
      · exact Nat.lt_trans hlt (hc d hd)
    · split
      · rename_i heq
        subst heq
        exact List.pairwise_cons.mpr ⟨hc, hl⟩
      · refine List.pairwise_cons.mpr ⟨fun d hd => ?_, ih hl⟩
        obtain rfl | hd := mem_latchPut hd
        · simp only; omega
        · exact hc d hd

theorem latchFill_sorted {l : Latch} (s : Nat) (data : List Byte) (h : LatchSorted l) :
    LatchSorted (latchFill l s data) := by
  induction data generalizing l s with
  | nil => exact h
  | cons b bs ih => exact ih _ (latchPut_sorted _ b h)

theorem lookup_of_sorted_lt {l : Latch} {i : Nat} (h : ∀ c ∈ l, i < c.1) : l.lookup i = none := by
  induction l with
  | nil => rfl
  | cons c l ih =>
    have hc := h c (List.mem_cons_self ..)
    rw [lookup_cons_eq, if_neg (by omega)]
    exact ih fun d hd => h d (List.mem_cons_of_mem _ hd)

/-- The n-th data byte lands at a position of the latch (R7). -/
def Lands (start : Nat) (data : List Byte) (i n : Nat) : Prop :=
  n < data.length ∧ (start + n) % 256 = i

theorem lands_succ {start : Nat} {b : Byte} {bs : List Byte} {i n : Nat} :
    Lands start (b :: bs) i (n + 1) ↔ Lands (start + 1) bs i n := by
  simp only [Lands, List.length_cons, Nat.add_lt_add_iff_right, Nat.add_assoc, Nat.add_comm 1 n]

/-- A position of the latch holds the last data byte for it, and is as it was where there was none (R7). -/
theorem lookup_latchFill (l : Latch) (start : Nat) (data : List Byte) (i : Nat) :
    ((∀ n, ¬ Lands start data i n) → (latchFill l start data).lookup i = l.lookup i)
      ∧ ∀ n, Lands start data i n → (∀ m, n < m → ¬ Lands start data i m) →
        (latchFill l start data).lookup i = some (byteAt data n) := by
  induction data generalizing l start with
  | nil => exact ⟨fun _ => rfl, fun n hn => absurd hn.1 (Nat.not_lt_zero n)⟩
  | cons b bs ih =>
    obtain ⟨hfree, hlast⟩ := ih (latchPut l (start % 256) b) (start + 1)
    refine ⟨fun hn => ?_, fun n hn hm => ?_⟩
    · have h0 : ¬ i = start % 256 := fun h => hn 0 ⟨Nat.succ_pos _, h.symm⟩
      rw [latchFill, hfree fun n h => hn (n + 1) (lands_succ.mpr h), lookup_latchPut, if_neg h0]
    · cases n with
      | zero =>
        rw [latchFill, hfree fun n h => hm (n + 1) (Nat.succ_pos n) (lands_succ.mpr h),
          lookup_latchPut, if_pos (show i = start % 256 from hn.2.symm)]
        rfl
      | succ n =>
        exact hlast n (lands_succ.mp hn) fun m h hl => hm (m + 1) (by omega) (lands_succ.mpr hl)

/-- A buffer's byte is the latch's where the latch holds one, and as it was elsewhere (R37, R103). -/
theorem memRead_latchCopy {l : Latch} (hl : LatchSorted l) {buf : Memory} (hb : buf.wf = true)
    (i : Nat) : memRead (latchCopy l buf) i = (l.lookup i).getD (memRead buf i) := by
  induction l generalizing buf with
  | nil => rfl
  | cons c l ih =>
    obtain ⟨hc, htail⟩ := List.pairwise_cons.mp hl
    have hstep : latchCopy (c :: l) buf = latchCopy l (memWrite buf c.1 c.2) := rfl
    rw [hstep, ih htail (memWrite_wf c.1 c.2 hb), memRead_memWrite hb, lookup_cons_eq]
    by_cases h : i = c.1
    · subst h
      rw [lookup_of_sorted_lt hc]
      simp
    · simp [h]

/-- A buffer filled from a data-in phase: each byte is the last data byte for its position (R7, R37,
R103). -/
theorem memRead_latchCopy_latchFill (start : Nat) (data : List Byte) {buf : Memory}
    (hb : buf.wf = true) (i : Nat) :
    ((∀ n, ¬ Lands start data i n) →
        memRead (latchCopy (latchFill [] start data) buf) i = memRead buf i)
      ∧ ∀ n, Lands start data i n → (∀ m, n < m → ¬ Lands start data i m) →
        memRead (latchCopy (latchFill [] start data) buf) i = byteAt data n := by
  obtain ⟨hfree, hlast⟩ := lookup_latchFill [] start data i
  rw [memRead_latchCopy (latchFill_sorted start data List.Pairwise.nil) hb]
  exact ⟨fun h => by rw [hfree h]; rfl, fun n hn hm => by rw [hlast n hn hm]; rfl⟩

/-- A byte put at a position that holds none makes the latch one longer (R7). -/
theorem length_latchPut {l : Latch} (hl : LatchSorted l) (i : Nat) (b : Byte) :
    (latchPut l i b).length = if (l.lookup i).isSome then l.length else l.length + 1 := by
  induction l with
  | nil => rfl
  | cons c l ih =>
    obtain ⟨hc, htail⟩ := List.pairwise_cons.mp hl
    rw [lookup_cons_eq, latchPut]
    obtain hlt | heq | hgt := Nat.lt_trichotomy i c.1
    · rw [if_pos hlt, if_neg (show ¬ i = c.1 by omega), 
        lookup_of_sorted_lt fun d hd => Nat.lt_trans hlt (hc d hd)]
      rfl
    · rw [if_neg (by omega), if_pos heq, if_pos heq]
      rfl
    · have hne : ¬ i = c.1 := by omega
      rw [if_neg (by omega), if_neg hne, if_neg hne, List.length_cons, ih htail]
      split <;> rfl

theorem latchFill_append (l : Latch) (start : Nat) (data : List Byte) (b : Byte) :
    latchFill l start (data ++ [b])
      = latchPut (latchFill l start data) ((start + data.length) % 256) b := by
  induction data generalizing l start with
  | nil => rfl
  | cons c cs ih =>
    rw [List.cons_append, latchFill, ih, latchFill, List.length_cons]
    congr 2
    omega

/-- The latch holds one position for each of the first 256 data bytes (R7, R37). -/
theorem length_latchFill (start : Nat) (data : List Byte) :
    (latchFill [] start data).length = min data.length 256 := by
  induction data using List.reverseRecOn with
  | nil => rfl
  | append_singleton data b ih =>
    obtain ⟨hfree, hlast⟩ := lookup_latchFill [] start data ((start + data.length) % 256)
    rw [latchFill_append, length_latchPut (latchFill_sorted start data List.Pairwise.nil), ih,
      List.length_append, List.length_singleton]
    by_cases h : data.length < 256
    · rw [hfree fun n hn => ?_]
      · simp; omega
      · have := hn.1
        have := hn.2
        omega
    · rw [hlast (data.length - 256) ⟨by omega, by omega⟩ fun m hm hl => ?_]
      · simp; omega
      · have := hl.1
        have := hl.2
        omega

end Sys2Proof.Machine

namespace Sys2Proof.Machine

/-! ## Accepted and trapped modify requests (R36 to R52, R95, R96, R109) -/

/-- A falling edge changes its port's own state at most (R2). -/
theorem beginTransaction_eq (s : State) (p : Port) : ∃ ps, beginTransaction s p = s.setPort p ps := by
  have keep : ∃ ps, s = s.setPort p ps := ⟨s.port p, (setPort_port_self s p).symm⟩
  unfold beginTransaction
  dsimp only
  split
  · split <;> exact ⟨_, rfl⟩
  · exact keep
  · exact keep

theorem ended_eq (s : State) (p : Port) : ∃ ps, ended s p = s.setPort p ps := by
  obtain ⟨ps, h⟩ := beginTransaction_eq s p
  exact ⟨_, by rw [ended, closeTransaction, h, setPort_setPort]⟩

theorem endedWith_eq (s : State) (p : Port) (start : Nat) (data : List Byte) :
    ∃ ps, endedWith s p start data = s.setPort p ps := by
  obtain ⟨ps, h⟩ := ended_eq s p
  exact ⟨_, by rw [endedWith, receiveData, h, setPort_setPort]⟩

theorem modifyBase_eq (s : State) (p : Port) (k : Kind) (f : Frame) :
    ∃ ps, modifyBase s p k f = s.setPort p ps := by
  unfold modifyBase consumed
  split
  · obtain ⟨ps, h⟩ := endedWith_eq s p (byteAt f.bytes 3).toNat (f.bytes.drop 4)
    exact ⟨_, by rw [h, setPort_setPort]⟩
  · obtain ⟨ps, h⟩ := ended_eq s p
    exact ⟨_, by rw [h, setPort_setPort]⟩

@[simp] theorem endedWith_latch (s : State) (p : Port) (start : Nat) (data : List Byte) :
    ((endedWith s p start data).port p).latch = latchFill [] start data := by
  simp [endedWith, receiveData]

/-! ### Buffers -/

/-- The free buffer of lowest number (R52). -/
theorem freeBuffer?_eq_some (s : State) (i : Fin 6) : freeBuffer? s = some i ↔
    s.pool[i] = none ∧ ∀ j : Fin 6, j < i → s.pool[j] ≠ none := by
  unfold freeBuffer?
  rw [List.find?_eq_some_iff_getElem]
  simp only [List.getElem_finRange, List.length_finRange, Option.isNone_iff_eq_none]
  refine and_congr_right fun _ => ⟨?_, fun h => ⟨i.val, i.isLt, rfl, fun j hj => ?_⟩⟩
  · rintro ⟨n, hn, rfl, h⟩ j hj
    simpa [Option.isSome_iff_ne_none] using h j.val hj
  · simpa [Option.isSome_iff_ne_none] using h ⟨j, by omega⟩ hj

/-- The pool that a taken buffer leaves depends on the pool alone (R52). -/
theorem takeFree_pool_congr {s t : State} (h : s.pool = t.pool) (o : Origin) (d : Memory) :
    (takeFree s o d).pool = (takeFree t o d).pool := by
  have hf : freeBuffer? s = freeBuffer? t := by simp only [freeBuffer?, h]
  unfold takeFree
  rw [hf]
  split
  · simp only [takeBuffer, h]
  · exact h

theorem takeFree_eq (s : State) (o : Origin) (d : Memory) :
    takeFree s o d = { s with pool := (takeFree s o d).pool } := by
  unfold takeFree
  split <;> rfl

/-- A program's buffer is taken and filled after the tag has been noted, with the pool as before (R37,
R52). -/
theorem takeProgramBuffer_noteTag (s : State) (p : Port) (k : Kind) (t : Byte) :
    takeProgramBuffer (noteTag s p t) p k
      = { s.setPort p (tagged (s.port p) t) with pool := poolAfter s p k } := by
  have hn : noteTag s p t = s.setPort p (tagged (s.port p) t) := rfl
  have hb : bufferFromLatch (noteTag s p t) p = bufferFromLatch s p := by
    simp [bufferFromLatch, noteTag]
  unfold takeProgramBuffer poolAfter
  split
  · rw [takeFree_eq, hb, takeFree_pool_congr (t := s) (by simp [noteTag]), hn]
  · rw [hn]
    cases p <;> rfl

/-! ### The decision -/

/-- An accepted request of step 12 (R46, R48, R49, R52). -/
theorem acceptModify_eq (s : State) (p : Port) (k : Kind) (a : Nat) (auto : Bool) :
    acceptModify s p k a auto = { s.setPort p (tagged (s.port p) (tagFor s p)) with
      pool := poolAfter s p k
      queue := s.queue ++ [newEntry (tagFor s p) (portOrigin p) k (granule k a) (bufferChoice s k)
        false auto] } := by
  simp only [acceptModify, takeProgramBuffer_noteTag, enqueue, State.setPort_queue]

theorem modifyTarget_of_found {s : State} {p : Port} {a phys : Nat} {cov : Option (Fin 16)}
    (h : TargetFound s p a phys cov) : modifyTarget s p a = .ok (phys, cov) := by
  obtain ⟨rfl, rfl, rfl, h⟩ | ⟨rfl, j, rfl, h, hr⟩ := h
  · simp only [modifyTarget, h]
  · simp only [modifyTarget, h, hr, if_true]

theorem modifyTarget_setPort (s : State) (p q : Port) (ps : PortState) (a : Nat) :
    modifyTarget (s.setPort q ps) p a = modifyTarget s p a := by cases p <;> cases q <;> rfl

/-- What follows the checks of a modify request: a trap step where an entry covers the address, and
else the queue. -/
def trapOrQueue (b : State) (p : Port) (k : Kind) (a phys : Nat) : Option (Fin 16) → State
  | some i => trapStep b k i a phys
  | none => queueModify b p k phys

/-- A request that passes steps 3 to 9 of R40 comes to its trap step, or at once to the queue. -/
theorem decideModify_of_room {s b : State} {p : Port} {k : Kind} {f : Frame} {phys : Nat}
    {cov : Option (Fin 16)} {ps : PortState} (hb : b = s.setPort p ps)
    (ha : addressInSpace (be32 f.bytes 0) = true) (hd : k = .pageProgram → 4 < f.bytes.length)
    (ht : TargetFound s p (be32 f.bytes 0).toNat phys cov) (hr : RoomFound s p k) :
    decideModify b p k f = trapOrQueue b p k (be32 f.bytes 0).toNat phys cov := by
  subst hb
  obtain ⟨hbar, hout, hbuf⟩ := hr
  have hdata : (k == .pageProgram && (f.bytes.drop 4).isEmpty) = false := by
    by_cases hk : k = .pageProgram
    · simpa [hk] using hd hk
    · simp [hk]
  have hbuf' : (k == .pageProgram && bufferShort s (portOrigin p)) = false := by
    by_cases hk : k = .pageProgram
    · simpa [hk] using hbuf hk
    · simp [hk]
  unfold decideModify
  rw [if_neg (by simp [ha]), if_neg (by simp [hdata]), modifyTarget_setPort,
    modifyTarget_of_found ht]
  dsimp only
  rw [modifyChecks, decided_pass (by simpa using hbar), decided_pass (by simpa using hout),
    decided_pass (by simpa using hbuf'), decided_nil]
  cases cov <;> rfl

/-- The queue has eight entries (R46, R73). -/
theorem queueFull_eq_false {s : State} : queueFull s = false ↔ s.queue.length < 8 := by
  rw [queueFull, decide_eq_false_iff_not]
  exact Nat.not_le

theorem queueFull_eq_true {s : State} : queueFull s = true ↔ 8 ≤ s.queue.length := decide_eq_true_iff

/-- Step 11 and 12 for an untrapped request (R46). -/
theorem queueModify_of_room {s : State} {p : Port} {k : Kind} {a : Nat} (h : s.queue.length < 8) :
    queueModify s p k a = acceptModify s p k a false :=
  if_neg (Bool.eq_false_iff.mp (queueFull_eq_false.mpr h))

theorem trapStep_of_untrapped {s : State} {k : Kind} {i : Fin 16} {a phys : Nat}
    (h : trapCovers s.activeImage.entries[i].trapPolicy k = false) :
    trapStep s k i a phys = queueModify s .a k phys :=
  if_neg (Bool.eq_false_iff.mp h)

@[simp] theorem bufferChoice_setPort (s : State) (p : Port) (ps : PortState) (k : Kind) :
    bufferChoice (s.setPort p ps) k = bufferChoice s k := by simp [bufferChoice]

/-- An accepted request of step 12, in the state in which it is decided. -/
theorem acceptModify_modifyBase {s : State} {p : Port} {k : Kind} {f : Frame} {c : Command}
    (h : Arrives s p c f) (a : Nat) (auto : Bool) :
    acceptModify (modifyBase s p k f) p k a auto
      = { (modifyBase s p k f).setPort p (tagged ((modifyBase s p k f).port p) (tagFor s p)) with
          pool := poolAfter (modifyBase s p k f) p k
          queue := s.queue ++ [newEntry (tagFor s p) (portOrigin p) k (granule k a)
            (bufferChoice s k) false auto] } := by
  obtain ⟨ps, hb, htag, -, -⟩ := modifyBase_of_arrives (k := k) h
  rw [acceptModify_eq, hb, tagFor_setPort htag, State.setPort_queue, bufferChoice_setPort]

/-- A buffer as an acceptance fills it: each byte is the last data byte for its position, FFh where there
was none (R7, R37). -/
theorem memRead_bufferFromLatch (s : State) (p : Port) (start : Nat) (data : List Byte) (i : Nat) :
    ((∀ n, ¬ Lands start data i n) →
        memRead (bufferFromLatch (endedWith s p start data) p) i = 0xFF)
      ∧ ∀ n, Lands start data i n → (∀ m, n < m → ¬ Lands start data i m) →
        memRead (bufferFromLatch (endedWith s p start data) p) i = byteAt data n := by
  rw [bufferFromLatch, endedWith_latch]
  exact memRead_latchCopy_latchFill start data rfl i

/-- The pool after a program depends on the data that its transaction received, not on its port's other
items (R37, R52). -/
theorem poolAfter_modifyBase (s : State) (p : Port) (f : Frame) :
    poolAfter (modifyBase s p .pageProgram f) p .pageProgram = (takeFree s (portOrigin p)
      (bufferFromLatch (endedWith s p (byteAt f.bytes 3).toNat (f.bytes.drop 4)) p)).pool := by
  obtain ⟨ps, hb⟩ := modifyBase_eq s p .pageProgram f
  have hl : bufferFromLatch (modifyBase s p .pageProgram f) p
      = bufferFromLatch (endedWith s p (byteAt f.bytes 3).toNat (f.bytes.drop 4)) p := by
    simp [modifyBase, consumed, bufferFromLatch]
  rw [poolAfter, if_pos rfl, hl]
  exact takeFree_pool_congr (by rw [hb, State.setPort_pool]) _ _

theorem poolAfter_erase (s : State) (p : Port) (f : Frame) {k : Kind} (h : k ≠ .pageProgram) :
    poolAfter (modifyBase s p k f) p k = s.pool := by
  obtain ⟨ps, hb⟩ := modifyBase_eq s p k f
  rw [poolAfter, if_neg h, hb, State.setPort_pool]

/-- Settles O29: the request passes every step of R40, and step 12 is `acceptModify`. -/
theorem modifyRequestIsQueued : Obligations.ModifyRequestIsQueued := by
  unfold Obligations.ModifyRequestIsQueued
  refine ⟨⟨rfl, freeBuffer?_eq_some, fun s o data i h => by simp [takeFree, takeBuffer, h],
    fun s p f => ⟨poolAfter_modifyBase s p f, fun k hk => poolAfter_erase s p f hk⟩,
    fun s p start data i _ => memRead_bufferFromLatch s p start data i⟩,
    fun i s p k f phys cov hi hm ht hn hr hq => ?_⟩
  obtain ⟨ha, hw, hsp, hd⟩ := hm
  obtain ⟨ps, hb⟩ := modifyBase_eq s p k f
  have hqueue : queueModify (modifyBase s p k f) p k phys
      = acceptModify (modifyBase s p k f) p k phys false :=
    queueModify_of_room (by rw [hb, State.setPort_queue]; exact hq)
  rw [exec_modify hi ha hw, decideModify_of_room hb hsp hd ht hr]
  cases cov with
  | none =>
    rw [trapOrQueue, hqueue, acceptModify_modifyBase ha]
    rfl
  | some j =>
    obtain ⟨-, -, h, -⟩ | ⟨rfl, -⟩ := ht
    · cases h
    · rw [trapOrQueue, trapStep_of_untrapped (by rw [hb]; exact hn j rfl), hqueue,
        acceptModify_modifyBase ha]
      rfl

/-! ### The trap -/

/-- A trapped request, by the watchdog and the default action of its partition (R95, R96, R109). -/
theorem trapStep_of_trapped {s : State} {k : Kind} {i : Fin 16} {a phys : Nat}
    (h : trapCovers s.activeImage.entries[i].trapPolicy k = true) : trapStep s k i a phys =
      if s.watchdog.state = .lapsed then
        (if s.activeImage.entries[i].defaultAction = 1 then releaseAtOnce s k phys
         else denyAtOnce s k phys)
      else match emptySlotId s with
        | some slot => holdRequest s slot k i a phys
        | none => refuse s .a .trapFull := if_pos h

/-- The lowest-numbered EMPTY slot (R95). -/
theorem emptySlotId_of_empty {s : State} {slot : SlotId} (h : (s.slot slot).state = .empty)
    (h0 : slot = .s1 → s.slot0.state ≠ .empty) : emptySlotId s = some slot := by
  cases slot with
  | s0 => exact if_pos h
  | s1 => exact (if_neg (h0 rfl)).trans (if_pos h)

/-- The kinds that a trap_policy covers (chapter 6.1). -/
theorem trapCovers_iff (policy : Byte) (k : Kind) : trapCovers policy k = true ↔
    (k = .sectorErase ∨ k = .blockErase) ∧ (policy = 1 ∨ policy = 2)
      ∨ k = .pageProgram ∧ policy = 2 := by
  cases k <;> simp [trapCovers]

/-- A trapped request that arrives with room for it is decided by its trap step (R95). -/
theorem exec_trapped {i : Instr} {s : State} {k : Kind} {f : Frame} {phys : Nat}
    {cov : Option (Fin 16)} {j : Fin 16} (hi : modifyOf i = some (.a, k, f))
    (hm : ModifyArrives s .a k f) (ht : TargetFound s .a (be32 f.bytes 0).toNat phys cov)
    (htr : Trapped s k cov j) (hr : RoomFound s .a k) :
    exec i s = finish (discardLatch
      (if s.watchdog.state = .lapsed then
        (if s.activeImage.entries[j].defaultAction = 1 then releaseAtOnce (modifyBase s .a k f) k phys
         else denyAtOnce (modifyBase s .a k f) k phys)
       else match emptySlotId s with
        | some slot => holdRequest (modifyBase s .a k f) slot k j (be32 f.bytes 0).toNat phys
        | none => refuse (modifyBase s .a k f) .a .trapFull) .a) := by
  obtain ⟨ha, hw, hsp, hd⟩ := hm
  obtain ⟨rfl, hcov⟩ := htr
  obtain ⟨ps, hb⟩ := modifyBase_eq s .a k f
  have himg : (modifyBase s .a k f).activeImage = s.activeImage := by rw [hb, State.setPort_activeImage]
  have hwd : (modifyBase s .a k f).watchdog = s.watchdog := by rw [hb, State.setPort_watchdog]
  have hsl : emptySlotId (modifyBase s .a k f) = emptySlotId s := by rw [hb, emptySlotId_setPort]
  rw [exec_modify hi ha hw, decideModify_of_room hb hsp hd ht hr]
  rw [trapOrQueue, trapStep_of_trapped (by rw [himg]; exact hcov), himg, hwd, hsl]
  rfl

end Sys2Proof.Machine

namespace Sys2Proof.Machine

theorem tagFor_modifyBase {s : State} {p : Port} {k : Kind} {f : Frame} {c : Command}
    (h : Arrives s p c f) : tagFor (modifyBase s p k f) p = tagFor s p := by
  obtain ⟨ps, hb, htag, -, -⟩ := modifyBase_of_arrives (k := k) h
  rw [hb, tagFor_setPort htag]

theorem queueFull_modifyBase (s : State) (p : Port) (k : Kind) (f : Frame) :
    queueFull (modifyBase s p k f) = queueFull s := by
  obtain ⟨ps, hb⟩ := modifyBase_eq s p k f
  rw [hb, queueFull_setPort]

/-- The slot that a trapped request fills, as the arrival's state gives it (R96). -/
theorem heldSlot_modifyBase {s : State} {k : Kind} {f : Frame} {c : Command}
    (h : Arrives s .a c f) (j : Fin 16) (a phys : Nat) :
    heldSlot (modifyBase s .a k f) k j a phys =
      { state := .held, tag := tagFor s .a, kind := k, entry := j.val, logical := a, physical := phys
        deadline := trapDeadline s
        release := decide (s.activeImage.entries[j].defaultAction = 1)
        count := if k = .pageProgram then (modifyBase s .a k f).portA.latch.length else 0
        redirected := false, auto := false, buffer := bufferChoice s k } := by
  obtain ⟨ps, hb⟩ := modifyBase_eq s .a k f
  have htd : trapDeadline (modifyBase s .a k f) = trapDeadline s := by rw [hb, trapDeadline_setPort]
  have hbc : bufferChoice (modifyBase s .a k f) k = bufferChoice s k := by
    rw [hb, bufferChoice_setPort]
  have him : (modifyBase s .a k f).activeImage = s.activeImage := by
    rw [hb, State.setPort_activeImage]
  rw [heldSlot, tagFor_modifyBase h, htd, hbc, him, Bool.beq_eq_decide_eq]
  rfl

/-- A held request (R96): its slot, tag and buffer, and the mark of the deadline that starts. -/
theorem holdRequest_modifyBase {s : State} {k : Kind} {f : Frame} {c : Command}
    (h : Arrives s .a c f) (slot : SlotId) (j : Fin 16) (a phys : Nat) :
    holdRequest (modifyBase s .a k f) slot k j a phys = State.setSlot
      { (modifyBase s .a k f).setPort .a (tagged (modifyBase s .a k f).portA (tagFor s .a)) with
        pool := poolAfter (modifyBase s .a k f) .a k
        started := if slot = .s0 then { s.started with trap0 := true }
          else { s.started with trap1 := true } } slot
      (heldSlot (modifyBase s .a k f) k j a phys) := by
  obtain ⟨ps, hb⟩ := modifyBase_eq s .a k f
  have hst : (modifyBase s .a k f).started = s.started := by rw [hb, State.setPort_started]
  rw [holdRequest, tagFor_modifyBase h, takeProgramBuffer_noteTag, ← hst]
  cases slot <;> rfl

/-- Settles O30: the request comes to its trap step, which the watchdog and the default action decide. -/
theorem trappedRequests : Obligations.TrappedRequests := by
  unfold Obligations.TrappedRequests
  refine ⟨fun i s k f phys cov j slot hi hm ht htr hr hwd hs h0 => ?_,
    fun i s k f phys cov j hi hm ht htr hr hwd => ⟨fun hda => ?_, fun hda hq => ?_, fun hda hq => ?_⟩,
    trapCovers_iff, fun s p f => ?_⟩
  · rw [exec_trapped hi hm ht htr hr, if_neg hwd, emptySlotId_of_empty hs h0]
    dsimp only
    rw [holdRequest_modifyBase hm.1, heldSlot_modifyBase hm.1]
    rfl
  · rw [exec_trapped hi hm ht htr hr, if_pos hwd, if_neg hda]
    rw [denyAtOnce, tagFor_modifyBase hm.1]
    rfl
  · have hfull : ¬ queueFull (modifyBase s .a k f) = true := by
      rw [queueFull_modifyBase, queueFull_eq_false.mpr hq]; decide
    rw [exec_trapped hi hm ht htr hr, if_pos hwd, if_pos hda, releaseAtOnce, if_neg hfull,
      acceptModify_modifyBase hm.1, tagFor_modifyBase hm.1]
    rfl
  · have hfull : queueFull (modifyBase s .a k f) = true := by
      rw [queueFull_modifyBase, queueFull_eq_true.mpr hq]
    rw [exec_trapped hi hm ht htr hr, if_pos hwd, if_pos hda, releaseAtOnce, if_pos hfull,
      discardLatch_refuse]
    rfl
  · simp [modifyBase, consumed, length_latchFill]

end Sys2Proof.Machine

namespace Sys2Proof.Machine

/-! ## SEAL_PROGRAM and SEAL_LOCK (R146, R148) -/

/-- A request with WEL 1 is decided with the latch consumed (R35). -/
theorem armedDecision_of_armed {s : State} {p : Port} (h : (s.port p).wel = true)
    (decide : State → State) : armedDecision s p decide = decide (consumed s p) := if_pos h

/-- The state in which an armed request is decided differs from the arrival's in its port alone. -/
theorem consumed_ended_of_arrives {s : State} {p : Port} {c : Command} {f : Frame}
    (h : Arrives s p c f) : ∃ ps, consumed (ended s p) p = s.setPort p ps
      ∧ ps.tagNext = (s.port p).tagNext := by
  obtain ⟨l, r, he⟩ := ended_of_arrives h
  exact ⟨_, by rw [consumed, he, setPort_setPort], by rw [port_setPort_same]⟩

theorem consumed_endedWith_of_arrives {s : State} {p : Port} {c : Command} {f : Frame}
    (h : Arrives s p c f) (start : Nat) (data : List Byte) :
    ∃ ps, consumed (endedWith s p start data) p = s.setPort p ps
      ∧ ps.tagNext = (s.port p).tagNext := by
  obtain ⟨l, r, he⟩ := ended_of_arrives h
  refine ⟨_, by rw [consumed, endedWith, receiveData, he, setPort_setPort, setPort_setPort], ?_⟩
  simp

/-- The checks of SEAL_PROGRAM (R146), in their order. -/
def sealProgramChecks (s : State) (page offset : Nat) (data : List Byte) : List (Bool × RefusalCode) :=
  [(s.sessionLock, .guarded),
   (!(decide (page < 3) && decide (offset < 512)), .badArgument),
   (data.isEmpty, .noData), (sealLocked s page, .sealLocked),
   (decide (4 ≤ outstanding s .m), .portLimit),
   (bufferShort s .m, .noBuffer), (queueFull s, .queueFull)]

/-- The checks of SEAL_LOCK (R148), in their order. -/
def sealLockChecks (s : State) (page : Nat) : List (Bool × RefusalCode) :=
  [(s.sessionLock, .guarded), (decide (3 ≤ page), .badArgument),
   (sealLocked s page, .sealLocked),
   (decide (4 ≤ outstanding s .m), .portLimit), (queueFull s, .queueFull)]

/-- A SEAL_PROGRAM with WEL 1: decided by its checks on the arrival's state, the latch then discarded. -/
theorem exec_sealProgram {s : State} {f : Frame} (h : Arrives s .m .sealProgram f)
    (hw : s.portM.wel = true) {b : State}
    (hb : b = consumed (endedWith s .m (byteAt f.bytes 2).toNat (f.bytes.drop 3)) .m) :
    exec (.sealProgram .m f) s = finish (discardLatch (decided b .m
      (sealProgramChecks s (byteAt f.bytes 0).toNat (be16 f.bytes 1).toNat (f.bytes.drop 3)) fun t =>
        acceptEntry (takeFree t .m (bufferFromLatch t .m)) .sealProgram
          (.sealPage (byteAt f.bytes 0).toNat (sealHalf (be16 f.bytes 1))) (freeBuffer? t)) .m) := by
  have hw' : ((endedWith s .m (byteAt f.bytes 2).toNat (f.bytes.drop 3)).port .m).wel = true := by
    rw [endedWith, receiveData, port_setPort_same]
    exact (ended_wel h).trans hw
  obtain ⟨ps, he, -⟩ :=
    consumed_endedWith_of_arrives h (byteAt f.bytes 2).toNat (f.bytes.drop 3)
  simp only [exec, execSealProgram]
  rw [requestEnd_of_arrives h]
  rw [← endedWith, armedDecision_of_armed hw', ← hb, sealProgramChecks]
  rw [← hb] at he
  simp only [he, State.setPort_sessionLock, sealLocked_setPort, outstanding_setPort,
    bufferShort_setPort, queueFull_setPort, Config.sealPages, Config.sealPageBytes,
    Config.outstandingCap]
  rfl

/-- A SEAL_LOCK with WEL 1: decided by its checks on the arrival's state. -/
theorem exec_sealLock {s : State} {f : Frame} (h : Arrives s .m .sealLock f)
    (hw : s.portM.wel = true) {b : State} (hb : b = consumed (ended s .m) .m) :
    exec (.sealLock .m f) s = finish (decided b .m (sealLockChecks s (byteAt f.bytes 0).toNat)
      fun t => acceptEntry t .sealLock (.sealPage (byteAt f.bytes 0).toNat 0) none) := by
  have hw' : ((ended s .m).port .m).wel = true := (ended_wel h).trans hw
  obtain ⟨ps, he, -⟩ := consumed_ended_of_arrives h
  simp only [exec, execSealLock]
  rw [requestEnd_of_arrives h, armedDecision_of_armed hw', ← hb, sealLockChecks]
  rw [← hb] at he
  simp only [he, State.setPort_sessionLock, sealLocked_setPort, outstanding_setPort,
    queueFull_setPort, roomChecks, Config.sealPages, Config.outstandingCap, List.cons_append,
    List.nil_append]
  rfl

/-- A request of Port M that joins the queue (R140, R146, R148). -/
theorem acceptEntry_setPort {s b : State} {ps : PortState} (hb : b = s.setPort .m ps)
    (ht : ps.tagNext = s.portM.tagNext) (k : Kind) (target : Target) (buffer : Option (Fin 6)) :
    acceptEntry b k target buffer = { b.setPort .m (tagged b.portM (tagFor s .m)) with
      queue := s.queue ++ [newEntry (tagFor s .m) .m k target buffer false false] } := by
  have htag : tagFor b .m = tagFor s .m := by rw [hb, tagFor_setPort ht]
  have hq : b.queue = s.queue := by rw [hb, State.setPort_queue]
  rw [acceptEntry, htag, ← hq]
  rfl

/-- One that also takes a buffer (R52). -/
theorem acceptEntry_takeFree {s b : State} {ps : PortState} (hb : b = s.setPort .m ps)
    (ht : ps.tagNext = s.portM.tagNext) (d : Memory) (k : Kind) (target : Target)
    (buffer : Option (Fin 6)) :
    acceptEntry (takeFree b .m d) k target buffer
      = { b.setPort .m (tagged b.portM (tagFor s .m)) with
          pool := (takeFree b .m d).pool
          queue := s.queue ++ [newEntry (tagFor s .m) .m k target buffer false false] } := by
  have htag : tagFor b .m = tagFor s .m := by rw [hb, tagFor_setPort ht]
  have hq : b.queue = s.queue := by rw [hb, State.setPort_queue]
  rw [takeFree_eq, ← hq, ← htag]
  rfl

/-- The half of a seal page that contains an offset (R146). -/
theorem sealHalf_eq {offset : Half} (h : offset.toNat < 512) :
    sealHalf offset = if 256 ≤ offset.toNat then 256 else 0 := by
  have hbit : offset.getLsbD 8 = decide (256 ≤ offset.toNat) := by
    rw [BitVec.getLsbD, Nat.testBit_eq_decide_div_mod_eq]
    exact decide_eq_decide.mpr (by omega)
  simp only [sealHalf, hbit, decide_eq_true_eq]

/-- A page is locked by its lock bit or by a SEAL_LOCK in the queue (R146, R148). -/
theorem sealLocked_iff (s : State) (page : Nat) : sealLocked s page = true ↔
    s.sealLocks.getLsbD page = true
      ∨ ∃ e half, e ∈ s.queue ∧ e.kind = .sealLock ∧ e.target = .sealPage page half := by
  have hov : ∀ t : Target, targetsOverlap t (.sealPage page 0) = true ↔
      ∃ half, t = .sealPage page half := by
    intro t
    cases t <;> simp [targetsOverlap]
  simp only [sealLocked, Bool.or_eq_true, List.any_eq_true, Bool.and_eq_true, beq_iff_eq, hov]
  refine or_congr_right ⟨?_, ?_⟩
  · rintro ⟨e, he, hk, half, ht⟩
    exact ⟨e, half, he, hk, ht⟩
  · rintro ⟨e, half, he, hk, ht⟩
    exact ⟨e, he, hk, half, ht⟩

/-- Settles O37: both requests run down their checks in order. -/
theorem sealRequests : Obligations.SealRequests := by
  unfold Obligations.SealRequests
  intro s f hw
  dsimp only
  refine ⟨fun h => ?_, fun h => ?_, sealLocked_iff s _⟩
  · obtain ⟨ps, hb, ht⟩ :=
      consumed_endedWith_of_arrives h (byteAt f.bytes 2).toNat (f.bytes.drop 3)
    have range : (byteAt f.bytes 0).toNat ≤ 2 → (be16 f.bytes 1).toNat < 512 →
        (!(decide ((byteAt f.bytes 0).toNat < 3) && decide ((be16 f.bytes 1).toNat < 512)))
          = false := by
      intro h1 h2
      rw [decide_eq_true (show (byteAt f.bytes 0).toNat < 3 by omega), decide_eq_true h2]
      rfl
    have data : 3 < f.bytes.length → (f.bytes.drop 3).isEmpty = false := by
      intro h3
      rw [List.isEmpty_eq_false_iff, ← List.length_pos_iff, List.length_drop]
      omega
    rw [exec_sealProgram h hw rfl]
    unfold sealProgramChecks
    refine ⟨fun hl => ?_, fun hl hr => ?_, fun hl hp ho hd => ?_, fun hl hp ho hd hk => ?_,
      fun hl hp ho hd hk => ⟨fun hc => ?_, fun hc hs => ?_, fun hc hs hq => ?_⟩,
      fun hl hp ho hd hk hc hs hq => ?_⟩
    · rw [decided_fail hl, discardLatch_refuse]; rfl
    · rw [decided_pass hl, decided_fail, discardLatch_refuse]
      · rfl
      · simp only [Bool.not_eq_true', Bool.and_eq_false_iff, decide_eq_false_iff_not]
        exact hr.imp Nat.not_lt.mpr Nat.not_lt.mpr
    · rw [decided_pass hl, decided_pass (range hp ho),
        decided_fail (List.isEmpty_iff.mpr (List.drop_eq_nil_of_le hd.le)), discardLatch_refuse]
      rfl
    · rw [decided_pass hl, decided_pass (range hp ho), decided_pass (data hd), decided_fail hk,
        discardLatch_refuse]
      rfl
    · rw [decided_pass hl, decided_pass (range hp ho), decided_pass (data hd), decided_pass hk,
        decided_fail (decide_eq_true hc), discardLatch_refuse]
      rfl
    · rw [decided_pass hl, decided_pass (range hp ho), decided_pass (data hd), decided_pass hk,
        decided_pass (decide_eq_false (Nat.not_le.mpr hc)), decided_fail hs, discardLatch_refuse]
      rfl
    · rw [decided_pass hl, decided_pass (range hp ho), decided_pass (data hd), decided_pass hk,
        decided_pass (decide_eq_false (Nat.not_le.mpr hc)), decided_pass hs,
        decided_fail (queueFull_eq_true.mpr hq), discardLatch_refuse]
      rfl
    · have hfree : freeBuffer? (consumed (endedWith s .m (byteAt f.bytes 2).toNat
          (f.bytes.drop 3)) .m) = freeBuffer? s := by rw [hb, freeBuffer?_setPort]
      rw [decided_pass hl, decided_pass (range hp ho), decided_pass (data hd), decided_pass hk,
        decided_pass (decide_eq_false (Nat.not_le.mpr hc)), decided_pass hs,
        decided_pass (queueFull_eq_false.mpr hq), decided_nil, acceptEntry_takeFree hb ht,
        sealHalf_eq ho, hfree]
      rfl
  · obtain ⟨ps, hb, ht⟩ := consumed_ended_of_arrives h
    have range : (byteAt f.bytes 0).toNat ≤ 2 →
        decide (3 ≤ (byteAt f.bytes 0).toNat) = false :=
      fun hp => decide_eq_false (by omega)
    rw [exec_sealLock h hw rfl]
    unfold sealLockChecks
    refine ⟨fun hl => ?_, fun hl hp => ?_, fun hl hp hk => ?_, fun hl hp hk hc => ?_,
      fun hl hp hk hc hq => ?_, fun hl hp hk hc hq => ?_⟩
    · rw [decided_fail hl]; rfl
    · rw [decided_pass hl, decided_fail (decide_eq_true hp)]; rfl
    · rw [decided_pass hl, decided_pass (range hp), decided_fail hk]; rfl
    · rw [decided_pass hl, decided_pass (range hp), decided_pass hk,
        decided_fail (decide_eq_true hc)]
      rfl
    · rw [decided_pass hl, decided_pass (range hp), decided_pass hk,
        decided_pass (decide_eq_false (Nat.not_le.mpr hc)), decided_fail (queueFull_eq_true.mpr hq)]
      rfl
    · rw [decided_pass hl, decided_pass (range hp), decided_pass hk,
        decided_pass (decide_eq_false (Nat.not_le.mpr hc)),
        decided_pass (queueFull_eq_false.mpr hq), decided_nil, acceptEntry_setPort hb ht]
      rfl

end Sys2Proof.Machine

namespace Sys2Proof.Machine

/-! ## MAILBOX_DATA_WRITE and RELEASING slots (R17, R100, R103) -/

/-- What a MAILBOX_DATA_WRITE does once its slot is known to be HELD (R103). -/
def writeHeldProgram (b : State) (data : List Byte) (i : SlotId) : State :=
  decided b .m [((b.slot i).kind != .pageProgram, .slotState), (data.isEmpty, .noData)]
    fun t => writeSlotBuffer t .m (t.slot i).buffer

/-- The write with its data taken in, on a port whose request is whole (R103). -/
theorem exec_mailboxDataWrite {s : State} {f : Frame} (h : Arrives s .m .mailboxDataWrite f)
    {b : State} (hb : b = endedWith s .m (byteAt f.bytes 1).toNat (f.bytes.drop 2)) :
    exec (.mailboxDataWrite .m f) s = finish (discardLatch
      (withHeldSlot b .m (byteAt f.bytes 0) (writeHeldProgram b (f.bytes.drop 2))) .m) := by
  simp only [exec, execMailboxDataWrite]
  rw [requestEnd_of_arrives h, hb]
  rfl

/-- A request about a slot that is named by a valid field (R99). -/
theorem withHeldSlot_of_named {b : State} {p : Port} {field : Byte} {slot : SlotId}
    (hf : slotOfField field = some slot) (act : SlotId → State) :
    withHeldSlot b p field act
      = if (b.slot slot).state = .held then act slot else refuse b p .slotState := by
  rw [withHeldSlot, hf]

theorem slotOfField_eq_none {field : Byte} (h : 2 ≤ field.toNat) : slotOfField field = none := by
  have ne (b : Byte) (hb : b.toNat < 2) : field ≠ b := by
    rintro rfl
    omega
  rw [slotOfField, if_neg (ne 0 (by decide)), if_neg (ne 1 (by decide))]

/-- The latch goes into the buffer that the slot holds (R103). -/
theorem writeSlotBuffer_of_held {b : State} {p : Port} {n : Fin 6} {pb : PageBuf}
    (hp : b.pool[n] = some pb) : writeSlotBuffer b p (some n)
      = { b with pool := b.pool.set n (some ⟨pb.origin, latchCopy (b.port p).latch pb.data⟩) } := by
  simp only [writeSlotBuffer, hp]

/-! ### RELEASING slots take queue entries -/

/-- The queue and the slot once a slot has had its turn: a RELEASING one enters where there is room
(R17, R100). -/
def queueAfter (q : List Entry) (sl : MailSlot) : List Entry :=
  if sl.state = .releasing ∧ q.length < 8 then q ++ [slotEntry sl] else q

def slotAfter (q : List Entry) (sl : MailSlot) : MailSlot :=
  if sl.state = .releasing ∧ q.length < 8 then emptySlot else sl

/-- A slot's turn, as a queue and a slot. -/
theorem slotTakesEntry_eq (s : State) (i : SlotId) : slotTakesEntry s i =
    State.setSlot { s with queue := queueAfter s.queue (s.slot i) } i
      (slotAfter s.queue (s.slot i)) := by
  have guard : ((s.slot i).state == .releasing && !queueFull s) = true ↔
      (s.slot i).state = .releasing ∧ s.queue.length < 8 := by
    rw [Bool.and_eq_true, beq_iff_eq, Bool.not_eq_true', queueFull_eq_false]
  unfold slotTakesEntry queueAfter slotAfter
  by_cases h : (s.slot i).state = .releasing ∧ s.queue.length < 8
  · rw [if_pos (guard.mpr h), if_pos h, if_pos h]
    rfl
  · rw [if_neg (mt guard.mp h), if_neg h, if_neg h]
    cases i <;> rfl

/-- Slot 0 has its turn before slot 1 (R17). -/
theorem fillFromMailbox_eq (s : State) : fillFromMailbox s = { s with
    queue := queueAfter (queueAfter s.queue s.slot0) s.slot1
    slot0 := slotAfter s.queue s.slot0
    slot1 := slotAfter (queueAfter s.queue s.slot0) s.slot1 } := by
  rw [fillFromMailbox, slotTakesEntry_eq s, slotTakesEntry_eq]
  rfl

theorem queueAfter_of_room {q : List Entry} {sl : MailSlot} (hr : sl.state = .releasing)
    (hq : q.length < 8) : queueAfter q sl = q ++ [slotEntry sl] := if_pos ⟨hr, hq⟩

theorem slotAfter_of_room {q : List Entry} {sl : MailSlot} (hr : sl.state = .releasing)
    (hq : q.length < 8) : slotAfter q sl = emptySlot := if_pos ⟨hr, hq⟩

/-- A slot that is not RELEASING, or that meets a full queue, stays as it is. -/
theorem after_of_staying {q : List Entry} {sl : MailSlot}
    (h : sl.state ≠ .releasing ∨ 8 ≤ q.length) : queueAfter q sl = q ∧ slotAfter q sl = sl := by
  have stays : ¬ (sl.state = .releasing ∧ q.length < 8) := by
    rintro ⟨hr, hq⟩
    exact h.elim (absurd hr) (Nat.not_le.mpr hq)
  exact ⟨if_neg stays, if_neg stays⟩

theorem fillFromMailbox_first {s : State} (h0 : s.slot0.state = .releasing)
    (h1 : s.slot1.state ≠ .releasing) (hq : s.queue.length < 8) :
    fillFromMailbox s = { s with queue := s.queue ++ [slotEntry s.slot0], slot0 := emptySlot } := by
  obtain ⟨hq1, hs1⟩ := after_of_staying (q := s.queue ++ [slotEntry s.slot0]) (.inl h1)
  rw [fillFromMailbox_eq, queueAfter_of_room h0 hq, slotAfter_of_room h0 hq, hq1, hs1]

theorem fillFromMailbox_second {s : State} (h0 : s.slot0.state ≠ .releasing)
    (h1 : s.slot1.state = .releasing) (hq : s.queue.length < 8) :
    fillFromMailbox s = { s with queue := s.queue ++ [slotEntry s.slot1], slot1 := emptySlot } := by
  obtain ⟨hq0, hs0⟩ := after_of_staying (q := s.queue) (.inl h0)
  rw [fillFromMailbox_eq, hq0, hs0, queueAfter_of_room h1 hq, slotAfter_of_room h1 hq]

/-- With one free entry slot 0 alone enters. -/
theorem fillFromMailbox_last {s : State} (h0 : s.slot0.state = .releasing)
    (hq : s.queue.length = 7) :
    fillFromMailbox s = { s with queue := s.queue ++ [slotEntry s.slot0], slot0 := emptySlot } := by
  have full : 8 ≤ (s.queue ++ [slotEntry s.slot0]).length := by
    rw [List.length_append, List.length_singleton, hq]
  have room : s.queue.length < 8 := by omega
  obtain ⟨hq1, hs1⟩ := after_of_staying (sl := s.slot1) (.inr full)
  rw [fillFromMailbox_eq, queueAfter_of_room h0 room, slotAfter_of_room h0 room, hq1, hs1]

/-- With two free entries or more both enter, slot 0 first. -/
theorem fillFromMailbox_both {s : State} (h0 : s.slot0.state = .releasing)
    (h1 : s.slot1.state = .releasing) (hq : s.queue.length < 7) :
    fillFromMailbox s = { s with queue := s.queue ++ [slotEntry s.slot0, slotEntry s.slot1]
                                 slot0 := emptySlot, slot1 := emptySlot } := by
  have room : s.queue.length < 8 := by omega
  have room1 : (s.queue ++ [slotEntry s.slot0]).length < 8 := by
    rw [List.length_append, List.length_singleton]
    omega
  rw [fillFromMailbox_eq, queueAfter_of_room h0 room, slotAfter_of_room h0 room,
    queueAfter_of_room h1 room1, slotAfter_of_room h1 room1, List.append_assoc]
  rfl

/-- In a state whose RELEASING slots have a full queue before them there is nothing to do. -/
theorem fillFromMailbox_of_full {s : State}
    (h : s.slot0.state = .releasing ∨ s.slot1.state = .releasing → queueFull s = true) :
    fillFromMailbox s = s := by
  have stays (sl : MailSlot) (hs : sl = s.slot0 ∨ sl = s.slot1) :
      sl.state ≠ .releasing ∨ 8 ≤ s.queue.length := by
    refine or_iff_not_imp_left.mpr fun hr => queueFull_eq_true.mp (h ?_)
    obtain rfl | rfl := hs
    · exact .inl (not_not.mp hr)
    · exact .inr (not_not.mp hr)
  obtain ⟨hq0, hs0⟩ := after_of_staying (stays s.slot0 (.inl rfl))
  obtain ⟨hq1, hs1⟩ := after_of_staying (stays s.slot1 (.inr rfl))
  rw [fillFromMailbox_eq, hq0, hs0, hq1, hs1]

theorem operating_of_active {s : State} (h : s.power = .active) : operating s = true := by
  rw [operating, h]; rfl

theorem exec_releasingSlotEntry {s : State} (h : s.power = .active) :
    exec .releasingSlotEntry s = finish (fillFromMailbox s) := if_pos h

/-- The refusal empties the latch, so the data that came before it leaves no trace (R7). -/
theorem refuse_endedWith (s : State) (p : Port) (start : Nat) (data : List Byte)
    (code : RefusalCode) :
    refuse (endedWith s p start data) p code = refuse (ended s p) p code := by
  simp [endedWith, receiveData, refuse, setPort_setPort]

/-- Settles O39: the write goes through its checks in their order; the slots take queue entries by
`slotTakesEntry`, slot 0 first. -/
theorem mailboxDataAndReleasingSlots : Obligations.MailboxDataAndReleasingSlots := by
  unfold Obligations.MailboxDataAndReleasingSlots
  refine ⟨fun s f slot h hf => ?_, fun s f h h2 => ?_,
    fun s hp => ⟨fun h0 h1 hq => ?_, fun h0 h1 hq => ?_, fun h0 _ hq => ?_, fun h0 h1 hq => ?_,
      fun hs => ?_, exec_releasingSlotEntry hp⟩,
    ⟨rfl, rfl, rfl, fun sl => rfl⟩,
    fun start data buf i hw _ => memRead_latchCopy_latchFill start data hw i⟩
  · intro b
    obtain ⟨ps, hb⟩ := endedWith_eq s .m (byteAt f.bytes 1).toNat (f.bytes.drop 2)
    have hslot : b.slot slot = s.slot slot := by
      change (endedWith s .m _ _).slot slot = _
      rw [hb, slot_setPort]
    have hpool : b.pool = s.pool := by
      change (endedWith s .m _ _).pool = _
      rw [hb, State.setPort_pool]
    rw [exec_mailboxDataWrite h rfl, withHeldSlot_of_named hf]
    change (_ → _ → _ → finish (discardLatch (if (b.slot slot).state = .held then
      writeHeldProgram b (f.bytes.drop 2) slot else refuse b .m .slotState) .m) = _) ∧ _
    rw [hslot]
    have inner : writeHeldProgram b (f.bytes.drop 2) slot = decided b .m
        [((s.slot slot).kind != .pageProgram, .slotState), ((f.bytes.drop 2).isEmpty, .noData)]
        fun t => writeSlotBuffer t .m (t.slot slot).buffer := by rw [writeHeldProgram, hslot]
    refine ⟨fun hh hk hl => ?_, fun n pb hh hk hl hn hpb => ?_, fun hne => ?_⟩
    · rw [if_pos hh, inner, decided_pass (by simp [hk]),
        decided_fail (List.isEmpty_iff.mpr (List.drop_eq_nil_of_le hl.le)), discardLatch_refuse]
      rfl
    · have hdata : (f.bytes.drop 2).isEmpty = false := by
        rw [List.isEmpty_eq_false_iff, ← List.length_pos_iff, List.length_drop]
        omega
      rw [if_pos hh, inner, decided_pass (by simp [hk]), decided_pass hdata, decided_nil, hslot, hn,
        writeSlotBuffer_of_held (hpool ▸ hpb), endedWith_latch, hpool]
      rfl
    · by_cases hh : (s.slot slot).state = .held
      · have hk := hne.resolve_left (not_not_intro hh)
        rw [if_pos hh, inner, decided_fail (by simpa using hk), discardLatch_refuse]
        rfl
      · rw [if_neg hh, discardLatch_refuse]
        rfl
  · rw [exec_mailboxDataWrite h rfl, withHeldSlot, slotOfField_eq_none h2]
    rw [discardLatch_refuse, refuse_endedWith]
    rfl
  · rw [exec_releasingSlotEntry hp, fillFromMailbox_first h0 h1 hq]; rfl
  · rw [exec_releasingSlotEntry hp, fillFromMailbox_second h0 h1 hq]; rfl
  · rw [exec_releasingSlotEntry hp, fillFromMailbox_last h0 hq]; rfl
  · rw [exec_releasingSlotEntry hp, fillFromMailbox_both h0 h1 hq]; rfl
  · rw [exec_releasingSlotEntry hp, fillFromMailbox_of_full (hs (operating_of_active hp))]; rfl

end Sys2Proof.Machine

namespace Sys2Proof.Machine

/-! ## The sequencer's timers and the tick (R15, R87, R88, R90) -/

/-- A suspend is taken where a TAKING one meets an ACTIVE erase (R87). -/
theorem exec_suspendTaken {s : State} {e : Entry} (hp : s.power = .active)
    (ht : s.suspend = .taking) (ha : activeEntry s = some e) (he : isEraseKind e.kind = true) :
    exec .suspendTaken s = finish { s with
      queue := updateFirst isActive
        (fun e => { e with state := .suspended, resumePending := false }) s.queue
      suspend := .none, quantum := none
      hold := some (s.activeImage.settings.holdLimit.toNat * 10)
      started := { s.started with hold := true } } :=
  if_pos ⟨hp, ht, by rw [ha]; exact he⟩

theorem exec_runQuantumExpiry {s : State} (hp : s.power = .active) (hq : s.quantum = some 0) :
    exec .runQuantumExpiry s = finish { s with
      quantum := none, suspend := if s.suspend = .pending then .taking else s.suspend } :=
  if_pos ⟨hp, hq⟩

theorem exec_holdDeadlineExpiry {s : State} {e : Entry} (hp : s.power = .active)
    (hh : s.hold = some 0) (he : suspendedEntry s = some e) :
    exec .holdDeadlineExpiry s = finish (expireHold s e) := by
  simp only [exec, execHoldDeadlineExpiry]
  rw [if_pos ⟨hp, hh⟩, he]

/-- At the hold deadline nothing more is to do where a resume is pending already (R90). -/
theorem expireHold_of_pending {s : State} {e : Entry} (h : e.resumePending = true) :
    expireHold s e = { s with hold := none } := if_pos h

theorem expireHold_of_not_pending {s : State} {e : Entry} (h : e.resumePending = false) :
    expireHold s e = logEvent { s with
        hold := none
        queue := updateFirst isSuspended (fun e => { e with resumePending := true }) s.queue }
      .suspendExpired (originCode e.origin) e.tag (kindCode e.kind) (targetAddress e.target) :=
  if_neg (Bool.eq_false_iff.mp h)

/-- One tick in the ACTIVE power state: each timer counts for itself (R15). -/
theorem exec_tick {s : State} (hp : s.power = .active) : exec .tick s = finish { s with
    slot0 := { s.slot0 with deadline := tickTimer s.started.trap0 s.slot0.deadline }
    slot1 := { s.slot1 with deadline := tickTimer s.started.trap1 s.slot1.deadline }
    quantum := tickTimer s.started.quantum s.quantum
    hold := tickTimer s.started.hold s.hold
    watchdog := tickWatchdog s.started.watchdog s.watchdog } := if_pos hp

/-- Settles O51: each event by its guard; a tick counts each timer for itself. -/
theorem sequencerTimersAndTick : Obligations.SequencerTimersAndTick := by
  unfold Obligations.SequencerTimersAndTick
  refine ⟨fun s hp => ⟨fun e ht ha he => ?_, fun hq => ?_, fun e hh he hr => ?_,
    fun e hh he hr => ?_⟩, fun s hp => ?_, fun s hp => if_neg hp⟩
  · rw [exec_suspendTaken hp ht ha he]
    rfl
  · rw [exec_runQuantumExpiry hp hq]
    rfl
  · rw [exec_holdDeadlineExpiry hp hh he, expireHold_of_pending hr]
    rfl
  · rw [exec_holdDeadlineExpiry hp hh he, expireHold_of_not_pending hr]
    rfl
  · rw [exec_tick hp]
    rfl

end Sys2Proof.Machine

namespace Sys2Proof.Machine

/-! ## Power-on and the configuration load (R139, R161) -/

/-! ### Reports into the event log -/

/-- What an event says, its sequence number apart (R156). -/
structure Report where
  kind : EventKind
  origin : Byte
  tag : Byte
  detail : Byte
  address : Word

/-- The event of a report, with its sequence number. -/
def Report.event (r : Report) (n : Nat) : Event :=
  { seq := BitVec.ofNat 16 n, kind := r.kind, origin := r.origin, tag := r.tag, detail := r.detail
    address := r.address }

/-- A report is logged by the model's own `logEvent`. -/
def report (s : State) (r : Report) : State := logEvent s r.kind r.origin r.tag r.detail r.address

def reportAll (s : State) (rs : List Report) : State := rs.foldl report s

theorem reportAll_append (s : State) (rs rs' : List Report) :
    reportAll s (rs ++ rs') = reportAll (reportAll s rs) rs' := List.foldl_append

/-- Reports change the log and its two counters alone. -/
theorem reportAll_frame (s : State) (rs : List Report) :
    ∃ l q o, reportAll s rs = { s with log := l, seqNext := q, overflow := o } := by
  induction rs generalizing s with
  | nil => exact ⟨_, _, _, rfl⟩
  | cons r rs ih =>
    obtain ⟨l, q, o, h⟩ := ih (report s r)
    refine ⟨l, q, o, h.trans ?_⟩
    unfold report logEvent
    split <;> rfl

/-- While the log has room, reports join it in order, numbered on (R156). -/
theorem reportAll_of_room {s : State} {rs : List Report} (hl : s.log.length + rs.length ≤ 16)
    (hq : s.seqNext = BitVec.ofNat 16 s.log.length) :
    reportAll s rs = { s with
      log := s.log ++ rs.mapIdx fun n r => r.event (s.log.length + n)
      seqNext := BitVec.ofNat 16 (s.log.length + rs.length) } := by
  induction rs generalizing s with
  | nil =>
    rw [List.mapIdx_nil, List.append_nil, List.length_nil, Nat.add_zero, ← hq]
    rfl
  | cons r rs ih =>
    have first : report s r = { s with
        log := s.log ++ [r.event s.log.length]
        seqNext := BitVec.ofNat 16 (s.log.length + 1) } := by
      have room : s.log.length < Config.logDepth := by
        change s.log.length < 16
        rw [List.length_cons] at hl
        omega
      rw [report, logEvent, if_pos room, hq, Report.event, BitVec.ofNat_add]
      rfl
    have len : (report s r).log.length = s.log.length + 1 := by
      rw [first, List.length_append, List.length_singleton]
    have rest := ih (s := report s r) (by rw [len]; rw [List.length_cons] at hl; omega)
      (by rw [len, first])
    rw [len, first] at rest
    change reportAll (report s r) rs = _
    rw [first, rest]
    simp only [List.mapIdx_cons, List.append_assoc, List.singleton_append, List.length_cons,
      Nat.add_zero, Nat.add_assoc, Nat.add_comm 1]

/-! ### The load's events, image and watchdog -/

/-- STORE_SLOT_TORN and STORE_DEFAULTED (R139). -/
def tornReport (i : SlotId) : Report := ⟨.storeSlotTorn, 0, 0, slotCode i, noAddress⟩
def defaultedReport : Report := ⟨.storeDefaulted, 0, 0, 0, noAddress⟩

/-- The reports of a load of the bytes that the store slots hold (R139). -/
def loadReports (s : State) : List Report :=
  (if classify s.store0 = .torn then [tornReport .s0] else [])
    ++ (if classify s.store1 = .torn then [tornReport .s1] else [])
    ++ (if classify s.store0 ≠ .valid ∧ classify s.store1 ≠ .valid then [defaultedReport] else [])

theorem length_loadReports (s : State) : (loadReports s).length ≤ 3 := by
  unfold loadReports
  split <;> split <;> split <;> decide

/-- The events of the load are its reports, numbered from 0. -/
theorem loadEvents_eq (s : State) : loadEvents s = (loadReports s).mapIdx fun n r => r.event n := by
  unfold loadEvents loadReports
  split <;> split <;> split <;> rfl

/-- The image and the generation that a selection brings (R139). -/
def chosenImage (s : State) : Option SlotId → Image
  | some i => imageOf (slotImageBytes (s.store i))
  | none => factoryImage

def chosenGeneration (s : State) : Option SlotId → Word
  | some i => slotGeneration (s.store i)
  | none => 0

def withImage (s : State) (c : Option SlotId) : State :=
  { s with activeImage := chosenImage s c, stagingImage := chosenImage s c, selected := c
           generation := chosenGeneration s c, dirty := c.isNone, validation := 0 }

/-- The slots as the load classifies them (R138). -/
def classified (s : State) : State :=
  { s with class0 := classify s.store0, class1 := classify s.store1 }

theorem logTornSlot_eq (s : State) (i : SlotId) :
    logTornSlot s i = reportAll s (if s.storeClass i = .torn then [tornReport i] else []) := by
  unfold logTornSlot
  split <;> rfl

/-- No slot is selected where none is VALID (R139). -/
theorem selectSlot_eq_none {s : State} :
    selectSlot s = none ↔ s.class0 ≠ .valid ∧ s.class1 ≠ .valid := by
  unfold selectSlot
  cases s.class0 <;> cases s.class1 <;> simp
  split <;> simp

theorem selectSlot_of_both {s : State} (h0 : s.class0 = .valid) (h1 : s.class1 = .valid) :
    selectSlot s
      = if slotGeneration s.store0 < slotGeneration s.store1 then some .s1 else some .s0 := by
  simp only [selectSlot, h0, h1]

theorem selectSlot_of_first {s : State} (h0 : s.class0 = .valid) (h1 : s.class1 ≠ .valid) :
    selectSlot s = some .s0 := by
  unfold selectSlot
  split <;> simp_all

theorem selectSlot_of_second {s : State} (h0 : s.class0 ≠ .valid) (h1 : s.class1 = .valid) :
    selectSlot s = some .s1 := by
  unfold selectSlot
  split <;> simp_all

/-- The VALID slot of higher generation, slot 0 where they are equal (R139). -/
theorem selectSlot_of_newest {s : State} {slot other : SlotId} (hne : other ≠ slot)
    (hv : s.storeClass slot = .valid)
    (hn : s.storeClass other = .valid → slotGeneration (s.store other) < slotGeneration (s.store slot)
      ∨ slotGeneration (s.store other) = slotGeneration (s.store slot) ∧ slot = .s0) :
    selectSlot s = some slot := by
  cases slot with
  | s0 =>
    obtain rfl : other = .s1 := by cases other <;> trivial
    by_cases h1 : s.class1 = .valid
    · have hle : ¬ slotGeneration s.store0 < slotGeneration s.store1 := by
        obtain hlt | ⟨heq, -⟩ := hn h1
        · exact BitVec.not_lt.mpr (BitVec.le_of_lt hlt)
        · exact BitVec.not_lt.mpr (BitVec.le_of_eq heq)
      rw [selectSlot_of_both hv h1, if_neg hle]
    · exact selectSlot_of_first hv h1
  | s1 =>
    obtain rfl : other = .s0 := by cases other <;> trivial
    by_cases h0 : s.class0 = .valid
    · have hlt : slotGeneration s.store0 < slotGeneration s.store1 :=
        (hn h0).resolve_right fun h => SlotId.noConfusion h.2
      rw [selectSlot_of_both h0 hv, if_pos hlt]
    · exact selectSlot_of_second h0 hv

/-- STORE_DEFAULTED where nothing is selected, and the chosen image. -/
theorem takeImage_eq (s : State) : takeImage s =
    withImage (if selectSlot s = none then reportAll s [defaultedReport] else s) (selectSlot s) := by
  unfold takeImage
  split
  next i h => rw [if_neg (by simp [h]), h]; rfl
  next h =>
    rw [if_pos h, h, reportAll, List.foldl_cons, List.foldl_nil, report, withImage]
    unfold logEvent
    split <;> rfl

theorem selectSlot_reportAll (s : State) (rs : List Report) :
    selectSlot (reportAll s rs) = selectSlot s := by
  obtain ⟨l, q, o, h⟩ := reportAll_frame s rs
  rw [h]
  rfl

theorem storeClass_reportAll (s : State) (rs : List Report) (i : SlotId) :
    (reportAll s rs).storeClass i = s.storeClass i := by
  obtain ⟨l, q, o, h⟩ := reportAll_frame s rs
  rw [h]
  cases i <;> rfl

/-- The load: its reports, the chosen image, the watchdog and the ports' settings (R11, R106, R139). -/
theorem loadConfig_reports (s : State) : loadConfig s = takeDefaults (takeDefaults (watchdogLoaded
    (withImage (reportAll (classified s) (loadReports s)) (selectSlot (classified s)))) .a) .m := by
  have torn : logTornSlot (logTornSlot (classified s) .s0) .s1 = reportAll (classified s)
      ((if classify s.store0 = .torn then [tornReport .s0] else [])
        ++ (if classify s.store1 = .torn then [tornReport .s1] else [])) := by
    rw [logTornSlot_eq, logTornSlot_eq, storeClass_reportAll, reportAll_append]
    rfl
  have taken : takeImage (logTornSlot (logTornSlot (classified s) .s0) .s1)
      = withImage (reportAll (classified s) (loadReports s)) (selectSlot (classified s)) := by
    rw [torn, takeImage_eq, selectSlot_reportAll, loadReports, reportAll_append _ (_ ++ _)]
    by_cases h : classify s.store0 ≠ .valid ∧ classify s.store1 ≠ .valid
    · rw [if_pos h, if_pos (selectSlot_eq_none.mpr h)]
    · rw [if_neg h, if_neg (mt selectSlot_eq_none.mp h)]
      rfl
  rw [← taken]
  rfl

end Sys2Proof.Machine

namespace Sys2Proof.Machine

/-! ## What power-on and the release of RESET_N leave (section 10.4, R161 to R163) -/

/-- The state after the power-on step, before the watchdog and the ports take their settings. -/
def loaded (s : State) : State :=
  { withImage (classified { volatileReset s with power := .active }) (selectSlot (classified s)) with
    log := loadEvents s, seqNext := BitVec.ofNat 16 (loadEvents s).length }

/-- The watchdog that an interval starts (R106). -/
def watchdogOf (interval : Byte) : Watchdog :=
  if interval = 0 then ⟨.disabled, 0, 0, false⟩
  else ⟨.armed, interval.toNat * 10, interval.toNat * 5, false⟩

theorem watchdogLoaded_eq (s : State) : ∃ st, watchdogLoaded s =
    { s with watchdog := watchdogOf s.activeImage.settings.watchdogInterval, started := st } := by
  unfold watchdogLoaded watchdogOf
  split
  · exact ⟨_, rfl⟩
  · exact ⟨_, rfl⟩

/-- The power-on step as one state: the load with its log, the watchdog, then the ports' settings. -/
theorem powerOnStep_eq (s : State) : ∃ st, powerOnStep s = takeDefaults (takeDefaults
    { loaded s with
      watchdog := watchdogOf (loaded s).activeImage.settings.watchdogInterval, started := st } .a)
      .m := by
  have reports : reportAll (classified { volatileReset s with power := .active }) (loadReports s)
      = { classified { volatileReset s with power := .active } with
          log := loadEvents s, seqNext := BitVec.ofNat 16 (loadEvents s).length } := by
    rw [loadEvents_eq, List.length_mapIdx, reportAll_of_room]
    · simp only [classified, volatileReset, List.length_nil, Nat.zero_add, List.nil_append]
    · exact (Nat.add_le_add_left (length_loadReports s) 0).trans (by decide)
    · rfl
  obtain ⟨st, h⟩ := watchdogLoaded_eq (loaded s)
  refine ⟨st, ?_⟩
  rw [powerOnStep, loadConfig_reports, ← h]
  change takeDefaults (takeDefaults (watchdogLoaded (withImage (reportAll (classified
    { volatileReset s with power := .active }) (loadReports s)) (selectSlot (classified s)))) .a) .m = _
  rw [reports]
  rfl

/-- The load's selection and images (R57, R138, R139). -/
theorem loadTaken_loaded (s : State) : LoadTaken (loaded s) := by
  have stores : ∀ slot, (loaded s).storeClass slot = classify ((loaded s).store slot) := by
    intro slot
    cases slot <;> rfl
  refine ⟨stores, fun slot other hne hv hn => ?_, fun h0 h1 => ?_, fun slot h => ?_, fun h => ?_,
    rfl, rfl⟩
  · exact selectSlot_of_newest (s := classified s) hne ((stores slot).trans hv)
      fun ho => hn ((stores other).symm.trans ho)
  · exact selectSlot_eq_none.mpr ⟨h0, h1⟩
  · exact ⟨congrArg (chosenImage (loaded s)) h, congrArg (chosenGeneration (loaded s)) h,
      congrArg Option.isNone h⟩
  · exact ⟨congrArg (chosenImage (loaded s)) h, congrArg (chosenGeneration (loaded s)) h,
      congrArg Option.isNone h⟩

theorem settledSel_high {sel : Sel} (h : sel = .high) : settledSel sel = .high := by rw [h]; rfl
theorem settledSel_low {sel : Sel} (h : sel ≠ .high) : settledSel sel = .ignored := by
  cases sel with
  | high => exact absurd rfl h
  | ignored => rfl
  | opened tx => rfl

/-- Every item of the power-on column (section 10.4). -/
theorem powerOnColumn_powerOnStep {s : State} (h : s.resetN = true) :
    PowerOnColumn s (powerOnStep s) := by
  obtain ⟨st, he⟩ := powerOnStep_eq s
  rw [he]
  refine ⟨rfl, h, rfl, rfl, rfl, rfl, rfl, rfl, fun i => ?_, rfl, rfl, rfl, rfl, rfl,
    loadTaken_loaded s, rfl, rfl, rfl, fun p => ?_⟩
  · exact Vector.getElem_replicate i.isLt
  · cases p
    · exact ⟨⟨rfl, rfl, rfl, rfl⟩, rfl, rfl, rfl, rfl, rfl, rfl, rfl, rfl, rfl, rfl, rfl, rfl, rfl,
        settledSel_high, settledSel_low⟩
    · exact ⟨⟨rfl, rfl, rfl, rfl⟩, rfl, rfl, rfl, rfl, rfl, rfl, rfl, rfl, rfl, rfl, rfl, rfl, rfl,
        settledSel_high, settledSel_low⟩

/-- The log holds the load's events and nothing else, numbered from 0 (R139). -/
def LoadLogged (t : State) : Prop :=
  t.log = loadEvents t ∧ t.overflow = 0 ∧ t.seqNext = BitVec.ofNat 16 t.log.length

theorem loadLogged_powerOnStep (s : State) : LoadLogged (powerOnStep s) := by
  obtain ⟨st, he⟩ := powerOnStep_eq s
  rw [he]
  exact ⟨rfl, rfl, rfl⟩

theorem sameNonvolatile_powerOnStep (s : State) : SameNonvolatile s (powerOnStep s) := by
  obtain ⟨st, he⟩ := powerOnStep_eq s
  rw [he]
  exact ⟨rfl, rfl, rfl, rfl, rfl, rfl⟩

theorem sessionLock_powerOnStep (s : State) : (powerOnStep s).sessionLock = s.sessionLock := by
  obtain ⟨st, he⟩ := powerOnStep_eq s
  rw [he]
  rfl

end Sys2Proof.Machine

namespace Sys2Proof.Machine

/-! ### What may follow the power-on step -/

theorem PowerOnColumn.driveIrq {s t : State} (h : PowerOnColumn s t) :
    PowerOnColumn s (driveIrq t) := h

theorem LoadLogged.driveIrq {t : State} (h : LoadLogged t) : LoadLogged (driveIrq t) := h

theorem SameNonvolatile.driveIrq {s t : State} (h : SameNonvolatile s t) :
    SameNonvolatile s (driveIrq t) := h

theorem PowerOnColumn.reportAll {s t : State} (h : PowerOnColumn s t) (rs : List Report) :
    PowerOnColumn s (reportAll t rs) := by
  obtain ⟨l, q, o, hr⟩ := reportAll_frame t rs
  rw [hr]
  exact h

theorem SameNonvolatile.reportAll {s t : State} (h : SameNonvolatile s t) (rs : List Report) :
    SameNonvolatile s (reportAll t rs) := by
  obtain ⟨l, q, o, hr⟩ := reportAll_frame t rs
  rw [hr]
  exact h

theorem sessionLock_reportAll (s : State) (rs : List Report) :
    (reportAll s rs).sessionLock = s.sessionLock := by
  obtain ⟨l, q, o, hr⟩ := reportAll_frame s rs
  rw [hr]

theorem loadEvents_reportAll (s : State) (rs : List Report) :
    loadEvents (reportAll s rs) = loadEvents s := by
  obtain ⟨l, q, o, hr⟩ := reportAll_frame s rs
  rw [hr]
  rfl

/-- The column speaks of the state before only in its selections. -/
theorem PowerOnColumn.of_sel {s s' t : State} (h : PowerOnColumn s t)
    (hs : ∀ p, (s'.port p).sel = (s.port p).sel) : PowerOnColumn s' t := by
  obtain ⟨h1, h2, h3, h4, h5, h6, h7, h8, h9, h10, h11, h12, h13, h14, h15, h16, h17, h18, hp⟩ := h
  refine ⟨h1, h2, h3, h4, h5, h6, h7, h8, h9, h10, h11, h12, h13, h14, h15, h16, h17, h18,
    fun p => ?_⟩
  rw [hs p]
  exact hp p

/-! ### Operations cut short (R143, R164) -/

/-- An operation cut short leaves something of its target in a non-volatile store, and nothing else. -/
theorem abortTarget_frame (s : State) (e : Entry) (stuck : StuckBits) (slot : Option (List Byte)) :
    ∃ array sealStore sealLocks fuse store0 store1, abortTarget s e stuck slot = { s with
      array := array, sealStore := sealStore, sealLocks := sealLocks, fuse := fuse
      store0 := store0, store1 := store1 } := by
  unfold abortTarget
  split
  · exact ⟨_, _, _, _, _, _, rfl⟩
  · exact ⟨_, _, _, _, _, _, rfl⟩
  · exact ⟨_, _, _, _, _, _, rfl⟩
  · exact ⟨_, _, _, _, _, _, rfl⟩
  · split <;> exact ⟨_, _, _, _, _, _, rfl⟩
  · split <;> exact ⟨_, _, _, _, _, _, rfl⟩
  · split
    · rename_i i _
      cases i <;> exact ⟨_, _, _, _, _, _, rfl⟩
    · exact ⟨_, _, _, _, _, _, rfl⟩
    · exact ⟨_, _, _, _, _, _, rfl⟩
  · exact ⟨_, _, _, _, _, _, rfl⟩

/-- So do the ACTIVE and the SUSPENDED one together. -/
theorem abortOperations_frame (s : State) (left : Leftover) :
    ∃ array sealStore sealLocks fuse store0 store1, abortOperations s left = { s with
      array := array, sealStore := sealStore, sealLocks := sealLocks, fuse := fuse
      store0 := store0, store1 := store1 } := by
  have active : ∃ array sealStore sealLocks fuse store0 store1, abortActive s left = { s with
      array := array, sealStore := sealStore, sealLocks := sealLocks, fuse := fuse
      store0 := store0, store1 := store1 } := by
    unfold abortActive
    split
    · exact abortTarget_frame ..
    · exact ⟨_, _, _, _, _, _, rfl⟩
  unfold abortOperations abortSuspended
  split
  · obtain ⟨ar, ss, sl, fu, s0, s1, h⟩ := active
    rw [h]
    split
    next e _ =>
      obtain ⟨ar', ss', sl', fu', s0', s1', h'⟩ :=
        abortTarget_frame { s with
          array := ar, sealStore := ss, sealLocks := sl, fuse := fu, store0 := s0, store1 := s1 } e
          left.suspended none
      exact ⟨ar', ss', sl', fu', s0', s1', h'⟩
    · exact ⟨_, _, _, _, _, _, rfl⟩
  · exact ⟨_, _, _, _, _, _, rfl⟩

/-- With nothing running there is nothing to cut short. -/
theorem abortOperations_of_idle {s : State} (left : Leftover) (ha : activeEntry s = none)
    (hs : suspendedEntry s = none) : abortOperations s left = s := by
  have active : abortActive s left = s := by rw [abortActive, ha]
  unfold abortOperations
  split
  · rw [active, abortSuspended, hs]
  · rfl

theorem exec_powerOn {s : State} {left : Leftover} (h : s.resetN = true) : exec (.powerOn left) s
    = finish (powerOnStep { abortOperations s left with sessionLock := false }) := by
  obtain ⟨ar, ss, sl, fu, s0, s1, hf⟩ := abortOperations_frame s left
  exact if_pos (by rw [hf]; exact h)

theorem exec_powerOn_waiting {s : State} {left : Leftover} (h : s.resetN = false) :
    exec (.powerOn left) s = finish { volatileReset { abortOperations s left with
      sessionLock := false } with power := .waiting } := by
  obtain ⟨ar, ss, sl, fu, s0, s1, hf⟩ := abortOperations_frame s left
  exact if_neg (by rw [hf]; exact Bool.eq_false_iff.mp h)

theorem exec_powerLoss {s : State} {left : Leftover} (h : s.power ≠ .off) :
    exec (.powerLoss left) s = finish { volatileReset (abortOperations s left) with
      power := .off, sessionLock := false } := by
  simp only [exec, execPowerLoss]
  split
  next ho => exact absurd ho h
  all_goals rfl

/-- Settles O52: the power-on step on the state that the cut-short operations leave, and the pin. -/
theorem supplyAndGuardPin : Obligations.SupplyAndGuardPin := by
  unfold Obligations.SupplyAndGuardPin
  refine ⟨⟨fun s left h => ?_, fun s left h => ?_, fun s left ho ha hs => ?_⟩,
    fun s b => ⟨rfl, fun p => by cases p <;> rfl⟩⟩
  · obtain ⟨ar, ss, sl, fu, s0, s1, hf⟩ := abortOperations_frame s left
    have column : PowerOnColumn s
        (powerOnStep { abortOperations s left with sessionLock := false }) := by
      refine (powerOnColumn_powerOnStep ?_).of_sel fun p => ?_
      · rw [hf]; exact h
      · rw [hf]; cases p <;> rfl
    obtain ⟨hlog, hover, hseq⟩ :=
      (loadLogged_powerOnStep { abortOperations s left with sessionLock := false }).driveIrq
    refine ⟨_, exec_powerOn h, column.driveIrq, ?_, hlog, hover, hseq, fun ha hs => ?_⟩
    · exact (driveIrq_sessionLock _).trans (sessionLock_powerOnStep _)
    · rw [abortOperations_of_idle left ha hs]
      have same : SameNonvolatile s (powerOnStep { s with sessionLock := false }) :=
        sameNonvolatile_powerOnStep { s with sessionLock := false }
      exact same.driveIrq
  · obtain ⟨hA, hM⟩ := driveIrq_of_not_operating (u := { volatileReset { abortOperations s left with
      sessionLock := false } with power := .waiting }) rfl
    exact ⟨_, exec_powerOn_waiting h, rfl, hA, hM⟩
  · refine ⟨_, exec_powerLoss ho, rfl, ?_⟩
    rw [abortOperations_of_idle left ha hs]
    exact ⟨rfl, rfl, rfl, rfl, rfl, rfl⟩

/-! ### RESET_N (R162, R163) -/

/-- The report of an entry that RESET_N cut short (R163). -/
def abortedReport (r : Aborted) : Report :=
  ⟨.resetAborted, originCode r.origin, r.tag, kindCode r.kind, r.address⟩

theorem foldl_logAborted (s : State) (rs : List Aborted) :
    rs.foldl logAborted s = reportAll s (rs.map abortedReport) := by
  rw [reportAll, List.foldl_map]
  rfl

theorem getElem_poolWithout (s : State) (es : List Entry) {i : Nat} (hi : i < 6) :
    (poolWithout s es)[i] = if es.any (·.buffer == some ⟨i, hi⟩) then none else s.pool[i] :=
  Vector.getElem_ofFn hi

/-- The buffers of holders that go away, freed one after another (R53). -/
theorem poolWithout_poolWithout {s t : State} {xs : List Entry} (h : t.pool = poolWithout s xs)
    (ys : List Entry) : poolWithout t ys = poolWithout s (xs ++ ys) := by
  refine Vector.ext fun i hi => ?_
  have hx := congrArg (fun pool : Vector (Option PageBuf) 6 => pool[i]) h
  simp only [getElem_poolWithout] at hx
  rw [getElem_poolWithout, getElem_poolWithout, List.any_append, hx]
  cases xs.any (·.buffer == some ⟨i, hi⟩)
  · rfl
  · exact ite_self none

theorem poolWithout_nil (s : State) : poolWithout s [] = s.pool := by
  refine Vector.ext fun i hi => ?_
  rw [getElem_poolWithout]
  rfl

/-- A holder that goes away frees its buffer (R53). -/
theorem releaseBuffer_eq (s : State) (e : Entry) :
    releaseBuffer s e.buffer = { s with pool := poolWithout s [e] } := by
  cases hb : e.buffer with
  | none =>
    have same : poolWithout s [e] = s.pool := by
      refine Vector.ext fun i hi => ?_
      simp [getElem_poolWithout, hb]
    rw [same]
    rfl
  | some j =>
    have gone : s.pool.set j none = poolWithout s [e] := by
      refine Vector.ext fun i hi => ?_
      simp [getElem_poolWithout, hb, Vector.getElem_set, Fin.ext_iff]
    rw [← gone]
    rfl

/-- The holders of a list go away one after another (R53). -/
theorem foldl_releaseBuffer (s : State) (es : List Entry) :
    es.foldl (fun s e => releaseBuffer s e.buffer) s = { s with pool := poolWithout s es } := by
  induction es generalizing s with
  | nil =>
    rw [poolWithout_nil]
    rfl
  | cons e es ih =>
    rw [List.foldl_cons, ih, releaseBuffer_eq, 
      poolWithout_poolWithout (t := { s with pool := poolWithout s [e] }) rfl]
    rfl

/-- Entries that go take their buffers with them (R53, R93). -/
theorem removeEntries_eq (s : State) (has : Entry → Bool) : removeEntries s has = { s with
    queue := s.queue.filter fun e => !has e, pool := poolWithout s (s.queue.filter has) } :=
  foldl_releaseBuffer _ _

/-- The log after the power-on step and the reports of what was cut short (R163). -/
def ResetLogged (rs : List Aborted) (t : State) : Prop :=
  t.overflow = 0 ∧ t.seqNext = BitVec.ofNat 16 t.log.length
    ∧ t.log = loadEvents t ++ rs.mapIdx fun n r =>
      { seq := BitVec.ofNat 16 ((loadEvents t).length + n), kind := .resetAborted
        origin := originCode r.origin, tag := r.tag, detail := kindCode r.kind
        address := r.address }

theorem ResetLogged.driveIrq {rs : List Aborted} {t : State} (h : ResetLogged rs t) :
    ResetLogged rs (driveIrq t) := h

/-- Two records find room after the load's three events at most. -/
theorem LoadLogged.followed {t : State} (h : LoadLogged t) {rs : List Aborted}
    (hl : rs.length ≤ 2) : ResetLogged rs (reportAll t (rs.map abortedReport)) := by
  obtain ⟨hlog, hover, hseq⟩ := h
  have few : t.log.length ≤ 3 := by
    rw [hlog, loadEvents_eq, List.length_mapIdx]
    exact length_loadReports t
  have len : (rs.map abortedReport).length = rs.length := List.length_map _
  have events : loadEvents (reportAll t (rs.map abortedReport)) = t.log :=
    (loadEvents_reportAll _ _).trans hlog.symm
  rw [ResetLogged, events, reportAll_of_room (by omega) hseq]
  refine ⟨hover, ?_, ?_⟩
  · rw [List.length_append, List.length_mapIdx]
  · refine congrArg (t.log ++ ·) (List.ext_getElem ?_ fun n _ _ => ?_)
    · rw [List.length_mapIdx, List.length_mapIdx, len]
    · rw [List.getElem_mapIdx, List.getElem_mapIdx, List.getElem_map]
      rfl

theorem abortedRecords_eq (s : State) : abortedRecords s
    = ((activeEntry s).toList ++ (suspendedEntry s).toList).map (abortedRecord s) :=
  (List.map_append ..).symm

/-- Settles O53: the fall of RESET_N by the records of what it cuts short, its rise by the power-on step
and, after it, one report for each record. -/
theorem resetN : Obligations.ResetN := by
  unfold Obligations.ResetN
  refine ⟨fun s left h => ?_, fun s h => ?_, fun s h => ?_⟩
  · obtain ⟨ar, ss, sl, fu, s0, s1, hf⟩ := abortOperations_frame s left
    obtain ⟨hA, hM⟩ := driveIrq_of_not_operating (u := enterReset s left) rfl
    refine ⟨driveIrq (enterReset s left), ?_, rfl, rfl, hA, hM, ?_, fun p tx => ?_, ?_⟩
    · simp only [exec, execResetNAssert]
      obtain h | h := h <;> rw [h] <;> rfl
    · rw [driveIrq_sessionLock, enterReset, removeEntries_eq, hf]
    · cases p <;> exact settledSel_ne_opened _ _
    · refine (abortedRecords_eq s).trans (List.map_congr_left fun e _ => ?_)
      rw [abortedRecord, abortedAddress]
      cases e.kind with
      | commit => cases s.commitRun with
        | none => cases e.target <;> rfl
        | some run => cases run <;> cases e.target <;> rfl
      | _ => cases e.target <;> rfl
  · have hb : exec .resetNRelease s = finish (reportAll (powerOnStep { s with resetN := true })
        (s.aborted.map abortedReport)) := by
      simp only [exec, execResetNRelease, h]
      rw [foldl_logAborted]
    have column : PowerOnColumn s (powerOnStep { s with resetN := true }) :=
      (powerOnColumn_powerOnStep rfl).of_sel fun p => by cases p <;> rfl
    have same : SameNonvolatile s (powerOnStep { s with resetN := true }) :=
      sameNonvolatile_powerOnStep { s with resetN := true }
    have lock := sessionLock_powerOnStep { s with resetN := true }
    have logged := loadLogged_powerOnStep { s with resetN := true }
    exact ⟨_, hb, (column.reportAll _).driveIrq,
      (driveIrq_sessionLock _).trans ((sessionLock_reportAll _ _).trans lock),
      (same.reportAll _).driveIrq, fun hl => (logged.followed hl).driveIrq⟩
  · have hb : exec .resetNRelease s
        = finish (powerOnStep { s with resetN := true, sessionLock := false }) := by
      simp only [exec, execResetNRelease, h]
    have column : PowerOnColumn s
        (powerOnStep { s with resetN := true, sessionLock := false }) :=
      (powerOnColumn_powerOnStep rfl).of_sel fun p => by cases p <;> rfl
    have same : SameNonvolatile s (powerOnStep { s with resetN := true, sessionLock := false }) :=
      sameNonvolatile_powerOnStep { s with resetN := true, sessionLock := false }
    obtain ⟨hlog, hover, hseq⟩ :=
      (loadLogged_powerOnStep { s with resetN := true, sessionLock := false }).driveIrq
    exact ⟨_, hb, column.driveIrq, (driveIrq_sessionLock _).trans (sessionLock_powerOnStep _),
      same.driveIrq, hlog, hover, hseq⟩

end Sys2Proof.Machine

namespace Sys2Proof.Machine

/-! ## The soft reset of one port (R93, R131, R165) -/

/-! ### The port's own state -/

/-- A port with its reset values under the port defaults of the active image, SEL_N high (R11, R165). -/
def freshPort (s : State) (p : Port) : PortState :=
  (takeDefaults (s.setPort p PortState.reset) p).port p

theorem resetPortState_ended (s : State) (p : Port) :
    resetPortState (ended s p) p = s.setPort p (freshPort s p) := by
  obtain ⟨ps, h⟩ := ended_eq s p
  rw [resetPortState, ended_sel, h, setPort_setPort]
  cases p <;> rfl

theorem hasDefaults_of_fresh {s t : State} {p : Port} (h : t.port p = freshPort s p)
    (hi : t.activeImage = s.activeImage) : HasDefaults t p := by
  cases p with
  | a =>
    change t.portA = _ at h
    rw [HasDefaults, h, hi]
    exact ⟨rfl, rfl, rfl, rfl⟩
  | m =>
    change t.portM = _ at h
    rw [HasDefaults, h, hi]
    exact ⟨rfl, rfl, rfl, rfl⟩

/-! ### The entries of an origin -/

/-- What a soft reset of its origin makes of an entry that stays (R93). -/
def orphaned (o : Origin) (e : Entry) : Entry := if begunOf o e then { e with orphan := true } else e

/-- WAITING entries of the origin leave with their buffers, begun ones become orphans (R93). -/
theorem orphanEntries_eq (s : State) (o : Origin) : orphanEntries s o = { s with
    queue := (s.queue.filter fun e => !waitingOf o e).map (orphaned o)
    pool := poolWithout s (s.queue.filter (waitingOf o)) } := by
  rw [orphanEntries, removeEntries_eq]
  rfl

theorem begunOf_of_kept {o : Origin} {e : Entry} (h : waitingOf o e = false) :
    begunOf o e = ownedLive o e := by
  unfold begunOf
  unfold waitingOf at h
  cases hl : ownedLive o e with
  | false => rfl
  | true => simpa [hl] using h

theorem ownedLive_orphan (o : Origin) (e : Entry) : ownedLive o { e with orphan := true } = false :=
  Bool.and_false _

/-- No live entry of the origin is left. -/
theorem ownedLive_orphaned {o : Origin} {e : Entry} (h : waitingOf o e = false) :
    ownedLive o (orphaned o e) = false := by
  rw [orphaned, begunOf_of_kept h]
  cases hl : ownedLive o e with
  | false => exact hl
  | true => exact ownedLive_orphan o e

/-- An entry of one origin is none of another's. -/
theorem ownedLive_of_ne {o o' : Origin} {e : Entry} (hne : o ≠ o') (h : ownedLive o e = true) :
    ownedLive o' e = false := by
  unfold ownedLive at *
  rw [Bool.and_eq_true, beq_iff_eq] at h
  simp [h.1, hne]

/-- The sum of two counts of which no item meets both conditions. -/
theorem countP_or_of_disjoint {α : Type} {f g : α → Bool} (h : ∀ a, f a = true → g a = false)
    (l : List α) : l.countP f + l.countP g = l.countP fun a => f a || g a := by
  induction l with
  | nil => rfl
  | cons a l ih =>
    rw [List.countP_cons, List.countP_cons, List.countP_cons, ← ih]
    by_cases hf : f a = true
    · rw [hf, h a hf, Bool.true_or, if_pos rfl, if_neg Bool.false_ne_true]
      omega
    · rw [Bool.not_eq_true] at hf
      rw [hf, Bool.false_or, if_neg Bool.false_ne_true]
      omega

/-! ### Port A's reset -/

theorem poolWithout_of_pool {s t : State} (h : t.pool = s.pool) (es : List Entry) :
    poolWithout t es = poolWithout s es :=
  poolWithout_poolWithout (h.trans (poolWithout_nil s).symm) es

theorem emptySlotAt_eq (s : State) (i : SlotId) : emptySlotAt s i =
    State.setSlot { s with pool := poolWithout s [slotEntry (s.slot i)] } i emptySlot := by
  rw [← releaseBuffer_eq]
  rfl

theorem emptySlots_eq (t : State) : emptySlotAt (emptySlotAt t .s0) .s1 = { t with
    pool := poolWithout t [slotEntry t.slot0, slotEntry t.slot1]
    slot0 := emptySlot, slot1 := emptySlot } := by
  have pools := poolWithout_poolWithout
    (t := State.setSlot { t with pool := poolWithout t [slotEntry t.slot0] } .s0 emptySlot) rfl
    [slotEntry t.slot1]
  rw [emptySlotAt_eq t, emptySlotAt_eq]
  exact congrArg (fun pool => { t with pool := pool, slot0 := emptySlot, slot1 := emptySlot }) pools

/-- Port A's reset withdraws its WAITING entries and its slots, and orphans what it has begun. -/
theorem softReset_a (s : State) : softReset (ended s .a) .a = logEvent { s.setPort .a (freshPort s .a)
    with
      queue := (s.queue.filter fun e => !waitingOf .a e).map (orphaned .a)
      pool := poolWithout s (s.queue.filter (waitingOf .a) ++ [slotEntry s.slot0, slotEntry s.slot1])
      slot0 := emptySlot, slot1 := emptySlot }
    .portReset 1 0 (BitVec.ofNat 8 (s.queue.countP (begunOf .a))) noAddress := by
  have count : newOrphans (ended s .a) .a = s.queue.countP (begunOf .a) := by
    obtain ⟨ps, h⟩ := ended_eq s .a
    rw [newOrphans, h, State.setPort_queue]
  have pool : (orphanEntries (s.setPort .a (freshPort s .a)) .a).pool
      = poolWithout s (s.queue.filter (waitingOf .a)) := by
    rw [orphanEntries_eq]
    exact poolWithout_of_pool rfl _
  rw [softReset, resetPortState_ended, resetShared, emptySlots_eq, count,
    show portOrigin .a = .a from rfl, poolWithout_poolWithout pool, orphanEntries_eq]
  rfl

/-! ### Port M's reset -/

/-- The live entries of Port M and of its jobs (R131, R165). -/
def liveOfM (e : Entry) : Bool := ownedLive .m e || ownedLive .job e

/-- Port M's reset does not touch what its jobs have waiting. -/
theorem waitingOf_job_orphaned (e : Entry) : waitingOf .job (orphaned .m e) = waitingOf .job e := by
  unfold orphaned
  split
  next h =>
    have hm : ownedLive .m e = true := by
      unfold begunOf at h
      exact (Bool.and_eq_true_iff.mp h).1
    have hj : ownedLive .job e = false := ownedLive_of_ne (by decide) hm
    rw [waitingOf, waitingOf, ownedLive_orphan, hj, Bool.false_and, Bool.false_and]
  · rfl

theorem buffer_orphaned (o : Origin) (e : Entry) : (orphaned o e).buffer = e.buffer := by
  unfold orphaned
  split <;> rfl

/-- What a soft reset of Port M makes of an entry that stays. -/
def orphanedM (e : Entry) : Entry := if liveOfM e then { e with orphan := true } else e

theorem orphaned_of_not_waiting {o : Origin} {e : Entry} (h : waitingOf o e = false) :
    orphaned o e = if ownedLive o e then { e with orphan := true } else e := by
  rw [orphaned, begunOf_of_kept h]

theorem waitingOf_m_or_job (e : Entry) :
    (waitingOf .m e || waitingOf .job e) = (liveOfM e && isWaiting e) :=
  (Bool.and_or_distrib_right ..).symm

/-- A begun entry of Port M or of a job is orphaned by the reset of the one or of the other. -/
theorem orphaned_job_orphaned {e : Entry} (h : (liveOfM e && isWaiting e) = false) :
    orphaned .job (orphaned .m e) = orphanedM e := by
  rw [← waitingOf_m_or_job, Bool.or_eq_false_iff] at h
  obtain ⟨hm, hj⟩ := h
  rw [orphaned_of_not_waiting ((waitingOf_job_orphaned e).trans hj), orphaned_of_not_waiting hm,
    orphanedM, liveOfM]
  cases hl : ownedLive .m e with
  | true => rw [if_pos rfl, ownedLive_orphan]; rfl
  | false => rfl

/-- The entries that stay, after both of Port M's origins have been reset. -/
theorem queue_orphaned_job (q : List Entry) :
    ((((q.filter fun e => !waitingOf .m e).map (orphaned .m)).filter
      fun e => !waitingOf .job e).map (orphaned .job))
      = (q.filter fun e => !(liveOfM e && isWaiting e)).map orphanedM := by
  have stays (e : Entry) : (!waitingOf .job (orphaned .m e) && !waitingOf .m e)
      = !(liveOfM e && isWaiting e) := by
    rw [waitingOf_job_orphaned, ← Bool.not_or, Bool.or_comm, waitingOf_m_or_job]
  rw [List.filter_map, List.map_map, List.filter_filter]
  simp only [Function.comp_apply, stays]
  refine List.map_congr_left fun e he => orphaned_job_orphaned ?_
  exact (Bool.not_eq_true' _).mp (List.mem_filter.mp he).2

/-- One of two properties occurs in a list just when their disjunction does. -/
theorem any_or_any {α : Type} (f g : α → Bool) (l : List α) :
    (l.any f || l.any g) = l.any fun a => f a || g a := by
  induction l with
  | nil => rfl
  | cons a l ih =>
    rw [List.any_cons, List.any_cons, List.any_cons, ← ih]
    ac_rfl

/-- The entries that leave with them. -/
theorem any_buffer_waiting (q : List Entry) (b : Option (Fin 6)) :
    (q.filter (waitingOf .m) ++ ((q.filter fun e => !waitingOf .m e).map (orphaned .m)).filter
      (waitingOf .job)).any (·.buffer == b)
      = (q.filter fun e => liveOfM e && isWaiting e).any (·.buffer == b) := by
  have leaves : ∀ m j r : Bool, ((m && r) || ((j && !m) && r)) = ((m || j) && r) := by decide
  rw [List.filter_map, List.filter_filter, List.any_append, List.any_map, List.any_filter,
    List.any_filter, List.any_filter, any_or_any]
  simp only [Function.comp_apply, waitingOf_job_orphaned, buffer_orphaned, leaves,
    waitingOf_m_or_job]

theorem poolWithout_of_buffers {s : State} {xs ys : List Entry}
    (h : ∀ b, xs.any (·.buffer == b) = ys.any (·.buffer == b)) :
    poolWithout s xs = poolWithout s ys :=
  Vector.ext fun i hi => by rw [getElem_poolWithout, getElem_poolWithout, h]

/-- Both of Port M's origins reset, one after the other. -/
theorem orphanEntries_m_job (s : State) : orphanEntries (orphanEntries s .m) .job = { s with
    queue := (s.queue.filter fun e => !(liveOfM e && isWaiting e)).map orphanedM
    pool := poolWithout s (s.queue.filter fun e => liveOfM e && isWaiting e) } := by
  have first : (orphanEntries s .m).pool = poolWithout s (s.queue.filter (waitingOf .m)) := by
    rw [orphanEntries_eq]
  rw [orphanEntries_eq _ .job, poolWithout_poolWithout first, orphanEntries_eq s,
    queue_orphaned_job, poolWithout_of_buffers (any_buffer_waiting s.queue)]

/-- Port M's reset withdraws its WAITING entries and job steps, orphans what they have begun, clears the
job engine, and lets RELEASING slots enter (R131, R165). -/
theorem softReset_m (s : State) : softReset (ended s .m) .m = logEvent (fillFromMailbox
    { s.setPort .m (freshPort s .m) with
      queue := (s.queue.filter fun e => !(liveOfM e && isWaiting e)).map orphanedM
      pool := poolWithout s (s.queue.filter fun e => liveOfM e && isWaiting e)
      jobs := [], engine := .idle, current := none, cursor := { pos := 0, erased := false }
      crc := 0, jobAttn := false })
    .portReset 2 0 (BitVec.ofNat 8 (s.queue.countP fun e => liveOfM e && !isWaiting e)) noAddress := by
  have count : newOrphans (ended s .m) .m = s.queue.countP fun e => liveOfM e && !isWaiting e := by
    obtain ⟨ps, h⟩ := ended_eq s .m
    rw [newOrphans, h, State.setPort_queue, countP_or_of_disjoint]
    · exact List.countP_congr fun e _ => by rw [begunOf, begunOf, ← Bool.and_or_distrib_right, liveOfM]
    · exact fun e h => by
        rw [begunOf, ownedLive_of_ne (by decide) (Bool.and_eq_true_iff.mp h).1, Bool.false_and]
  have pool : poolWithout (s.setPort .m (freshPort s .m))
      (s.queue.filter fun e => liveOfM e && isWaiting e)
      = poolWithout s (s.queue.filter fun e => liveOfM e && isWaiting e) := poolWithout_of_pool rfl _
  rw [softReset, resetPortState_ended, resetShared, resetEngine, count, show portOrigin .m = .m from rfl,
    orphanEntries_m_job, State.setPort_queue, pool]
  rfl

end Sys2Proof.Machine

namespace Sys2Proof.Machine

/-! ### RESET_PORT (R14, R165) -/

/-- The reset-arm that the falling edge sampled decides (R14). -/
theorem exec_resetPort {s : State} {p : Port} {f : Frame} {tx : Tx}
    (h : Delivered s p .resetPort tx) (hw : torn .resetPort f = false) :
    exec (.resetPort p f) s = finish (if tx.resetArmed = true then softReset (ended s p) p
      else refuse (ended s p) p .sequence) := by
  simp only [exec, execResetPort]
  rw [requestEnd_of_delivered h, recognises_shared rfl p, hw]
  rfl

/-- What a report adds to the log follows from the log and its counter alone. -/
theorem log_logEvent_congr {s t : State} (hl : s.log = t.log) (hq : s.seqNext = t.seqNext)
    (k : EventKind) (o tag d : Byte) (a : Word) :
    (logEvent s k o tag d a).log = (logEvent t k o tag d a).log := by
  unfold logEvent
  rw [hl, hq]
  split <;> rfl

theorem port_softReset (s : State) (p : Port) :
    (softReset (ended s p) p).port p = freshPort s p := by
  cases p with
  | a => rw [softReset_a, port_logEvent]; rfl
  | m => rw [softReset_m, port_logEvent, fillFromMailbox_eq]; rfl

/-- What a soft reset of either port keeps (R165). -/
def KeptBySoftReset (s t : State) : Prop :=
  t.array = s.array ∧ t.activeImage = s.activeImage ∧ t.watchdog = s.watchdog
    ∧ t.sessionLock = s.sessionLock ∧ t.suspend = s.suspend ∧ t.quantum = s.quantum
    ∧ t.hold = s.hold

theorem keptBySoftReset (s : State) (p : Port) : KeptBySoftReset s (softReset (ended s p) p) := by
  cases p with
  | a => rw [softReset_a]; simp [KeptBySoftReset]
  | m => rw [softReset_m, fillFromMailbox_eq]; simp [KeptBySoftReset]

theorem KeptBySoftReset.driveIrq {s t : State} (h : KeptBySoftReset s t) :
    KeptBySoftReset s (driveIrq t) := h

theorem outstanding_driveIrq (s : State) (p : Port) :
    outstanding (driveIrq s) p = outstanding s p := by cases p <;> rfl

/-! No entry of the port stays outstanding. -/

theorem mem_queueAfter {q : List Entry} {sl : MailSlot} {e : Entry} (h : e ∈ queueAfter q sl) :
    e ∈ q ∨ e = slotEntry sl := by
  unfold queueAfter at h
  split at h
  · simpa using h
  · exact .inl h

theorem ownedLive_m_orphanedM (e : Entry) : ownedLive .m (orphanedM e) = false := by
  unfold orphanedM
  split
  next h => exact ownedLive_orphan .m e
  next h => exact (Bool.or_eq_false_iff.mp (Bool.not_eq_true _ ▸ h)).1

theorem outstanding_softReset (s : State) (p : Port) :
    outstanding (softReset (ended s p) p) p = 0 := by
  cases p with
  | a =>
    have gone : ((s.queue.filter fun e => !waitingOf .a e).map (orphaned .a)).countP (ownedLive .a)
        = 0 := by
      refine List.countP_eq_zero.mpr fun e he => ?_
      obtain ⟨e', hm, rfl⟩ := List.mem_map.mp he
      have := ownedLive_orphaned ((Bool.not_eq_true' _).mp (List.mem_filter.mp hm).2)
      simp [this]
    rw [softReset_a, outstanding, heldCount, logEvent_queue, logEvent_slot0, logEvent_slot1,
      show portOrigin .a = .a from rfl, gone]
    rfl
  | m =>
    rw [softReset_m, fillFromMailbox_eq, outstanding, logEvent_queue]
    refine List.countP_eq_zero.mpr fun e he => ?_
    have mailed (sl : MailSlot) : ¬ ownedLive .m (slotEntry sl) = true := Bool.false_ne_true
    obtain he | rfl := mem_queueAfter he
    · obtain he | rfl := mem_queueAfter he
      · obtain ⟨e', -, rfl⟩ := List.mem_map.mp he
        exact Bool.eq_false_iff.mp (ownedLive_m_orphanedM e')
      · exact mailed _
    · exact mailed _

end Sys2Proof.Machine

namespace Sys2Proof.Machine.ResetPort

/-- Settles O55: RESET_PORT's decision, then the soft reset as one record per port
(`softReset_a`, `softReset_m`). The name stands in a namespace of its own since the model's function
has it already. -/
theorem softReset : Obligations.SoftReset := by
  unfold Obligations.SoftReset
  intro s p f tx hd hw
  refine ⟨fun h => ?_, fun h => ⟨_, (exec_resetPort hd hw).trans (by rw [if_pos h, finish]), ?_⟩⟩
  · rw [exec_resetPort hd hw, h]
    rfl
  · obtain ⟨harray, himage, hdog, hlock, hsusp, hquant, hhold⟩  :=
      (keptBySoftReset s p).driveIrq
    have hport := (port_driveIrq _ p).trans (port_softReset s p)
    have hdef := hasDefaults_of_fresh hport (himage)
    have hout := (outstanding_driveIrq _ p).trans (outstanding_softReset s p)
    rw [hport]
    cases p with
    | a =>
      have hreset := softReset_a s
      generalize Machine.softReset (ended s .a) .a = u at *
      refine ⟨rfl, rfl, rfl, rfl, rfl, rfl, rfl, rfl, rfl, rfl, rfl, rfl, hdef, rfl, hout, harray,
        himage, hdog, hlock, hsusp, hquant, hhold, fun _ => ?_, fun h => Port.noConfusion h⟩
      rw [hreset]
      refine ⟨?_, ?_, ?_, ?_, ?_, ?_, ?_, ?_⟩
      · rw [driveIrq_portM, logEvent_portM]; rfl
      · rw [driveIrq_slot0, logEvent_slot0]
      · rw [driveIrq_slot1, logEvent_slot1]
      · rw [driveIrq_pool, logEvent_pool]; rfl
      · rw [driveIrq_jobs, logEvent_jobs]; rfl
      · rw [driveIrq_engine, logEvent_engine]; rfl
      · rw [driveIrq_queue, logEvent_queue]
        exact List.map_congr_left fun e he =>
          orphaned_of_not_waiting ((Bool.not_eq_true' _).mp (List.mem_filter.mp he).2)
      · rw [driveIrq_log]
        refine log_logEvent_congr (t := s) ?_ ?_ _ _ _ _ _ <;> rfl
    | m =>
      have hreset := softReset_m s
      generalize Machine.softReset (ended s .m) .m = u at *
      refine ⟨rfl, rfl, rfl, rfl, rfl, rfl, rfl, rfl, rfl, rfl, rfl, rfl, hdef, rfl, hout, harray,
        himage, hdog, hlock, hsusp, hquant, hhold, fun h => Port.noConfusion h, fun _ => ?_⟩
      rw [hreset, fillFromMailbox_eq]
      refine ⟨?_, ?_, ?_, ?_, ?_, ?_, ⟨?_, ?_, ?_⟩, ?_⟩
      · rw [driveIrq_portA, logEvent_portA]; rfl
      · rw [driveIrq_jobs, logEvent_jobs]
      · rw [driveIrq_engine, logEvent_engine]
      · rw [driveIrq_jobAttn, logEvent_jobAttn]
      · rw [driveIrq_jobIdNext, logEvent_jobIdNext]; rfl
      · rw [driveIrq_pool, logEvent_pool]; rfl
      · rw [driveIrq_queue, logEvent_queue]; rfl
      · rw [driveIrq_slot0, logEvent_slot0]; rfl
      · rw [driveIrq_slot1, logEvent_slot1]; rfl
      · rw [driveIrq_log]
        refine log_logEvent_congr (t := s) ?_ ?_ _ _ _ _ _ <;> rfl

end Sys2Proof.Machine.ResetPort

namespace Sys2Proof.Machine

/-! ## What a command leaves of the stores and of the read flags (R19, R30 to R33, R51, R80)

The non-volatile content, the canonical form of the memories and the read flags change in few places. `Kept`
says of two states what of the three the second has kept; one lemma per operation carries it on, and
`exec_kept` says once for which commands it holds. -/

/-- Which of the non-volatile content and of the ports' read flags a command is to leave. -/
structure Scope where
  content : Prop
  flags : Port → Prop

/-- What a page buffer may hold: canonical data within its 256 bytes (R51). -/
def BufferFits (m : Memory) : Prop := m.wf = true ∧ ∀ c ∈ m, c.1 < Config.pageBytes

/-- The memories stay canonical, and what is in the scope stays as it was. -/
structure Kept (k : Scope) (s u : State) : Prop where
  canonical : Canonical s → Canonical u
  content : k.content → SameNonvolatile s u
  flags : ∀ q, k.flags q → (u.port q).flags = (s.port q).flags

/-- All of a state that `Kept` speaks of. -/
def held (s : State) :
    (Memory × Memory × Vector (Option PageBuf) 6) × (List Byte × List Byte × Bool × BitVec 3)
      × (Port → ReadFlags) :=
  ((s.array, s.sealStore, s.pool), (s.store0, s.store1, s.fuse, s.sealLocks), fun q => (s.port q).flags)

theorem kept_refl (k : Scope) (s : State) : Kept k s s :=
  ⟨id, fun _ => ⟨rfl, rfl, rfl, rfl, rfl, rfl⟩, fun _ _ => rfl⟩

theorem Kept.trans {k : Scope} {s t u : State} (h : Kept k s t) (h' : Kept k t u) : Kept k s u :=
  ⟨fun hs => h'.canonical (h.canonical hs), fun hc => by
    obtain ⟨ha, h0, h1, hf, hm, hl⟩ := h.content hc
    obtain ⟨ha', h0', h1', hf', hm', hl'⟩ := h'.content hc
    exact ⟨ha.trans ha', h0.trans h0', h1.trans h1', hf.trans hf', hm.trans hm', hl.trans hl'⟩,
    fun q hq => (h'.flags q hq).trans (h.flags q hq)⟩

section
variable {k : Scope} {s t : State}

/-! ### The places that touch what is kept -/

/-- An operation that touches nothing of it. -/
theorem kept_of_held (h : Kept k s t) {u : State} (e : held u = held t) : Kept k s u := by
  simp only [held, Prod.mk.injEq] at e
  obtain ⟨⟨ha, hm, hp⟩, ⟨h0, h1, hf, hl⟩, hq⟩ := e
  refine h.trans ⟨fun hc => ?_, fun _ => ⟨ha.symm, h0.symm, h1.symm, hf.symm, hm.symm, hl.symm⟩,
    fun q _ => congrFun hq q⟩
  unfold Canonical
  rwa [ha, hm, hp]

/-- A change of a port that keeps the read flags in the scope. -/
theorem kept_setPort (h : Kept k s t) {p : Port} {ps : PortState}
    (hf : k.flags p → ps.flags = (t.port p).flags) : Kept k s (t.setPort p ps) := by
  refine h.trans ⟨fun hc => ?_, fun _ => ?_, fun q hq => ?_⟩
  · unfold Canonical
    rwa [State.setPort_array, State.setPort_sealStore, State.setPort_pool]
  · simp [SameNonvolatile]
  · obtain rfl | rfl := eq_or_otherPort p q
    · rw [port_setPort_same, hf hq]
    · rw [port_setPort_other]

/-- A change of the pool that leaves in it buffers that fit. -/
theorem kept_pool (h : Kept k s t) {pool : Vector (Option PageBuf) 6}
    (hp : Canonical t → ∀ i : Fin 6, ∀ b, pool[i] = some b → BufferFits b.data) :
    Kept k s { t with pool := pool } :=
  h.trans ⟨fun hc => ⟨hc.1, hc.2.1, hp hc⟩, fun _ => ⟨rfl, rfl, rfl, rfl, rfl, rfl⟩, fun _ _ => rfl⟩

/-- A change of the content, where the scope leaves it out. -/
theorem kept_of_content (hk : ¬ k.content) (h : Kept k s t) {u : State}
    (hc : Canonical t → Canonical u) (hf : ∀ q, (u.port q).flags = (t.port q).flags) : Kept k s u :=
  h.trans ⟨hc, fun hk' => absurd hk' hk, fun q _ => hf q⟩

/-! ### The page buffer pool -/

theorem bufferFits_of_pool (hc : Canonical t) {i : Fin 6} {b : PageBuf} (h : t.pool[i] = some b) :
    BufferFits b.data := hc.2.2 i b h

/-- One place of the pool gets a buffer that fits, or none. -/
theorem kept_pool_set (h : Kept k s t) (i : Fin 6) {b : Option PageBuf}
    (hb : Canonical t → ∀ pb, b = some pb → BufferFits pb.data) :
    Kept k s { t with pool := t.pool.set i b } := by
  refine kept_pool h fun hc j pb hj => ?_
  rw [Fin.getElem_fin, Vector.getElem_set] at hj
  split at hj
  · exact hb hc pb hj
  · exact bufferFits_of_pool hc hj

theorem kept_takeFree (h : Kept k s t) {o : Origin} {data : Memory}
    (hd : Canonical t → BufferFits data) : Kept k s (takeFree t o data) := by
  unfold takeFree
  split
  · refine kept_pool_set h _ fun hc pb hpb => ?_
    cases hpb
    exact hd hc
  · exact h

theorem kept_releaseBuffer (h : Kept k s t) (b : Option (Fin 6)) : Kept k s (releaseBuffer t b) := by
  cases b with
  | none => exact h
  | some i => exact kept_pool_set h i fun _ _ hn => nomatch hn

/-- A latch whose positions are those of a page (R7). -/
def LatchFits (l : Latch) : Prop := ∀ c ∈ l, c.1 < Config.pageBytes

theorem latchFits_latchFill {l : Latch} (hl : LatchFits l) (start : Nat) (data : List Byte) :
    LatchFits (latchFill l start data) := by
  induction data generalizing l start with
  | nil => exact hl
  | cons b bs ih =>
    refine ih (fun c hc => ?_) (start + 1)
    obtain rfl | hc := mem_latchPut hc
    · exact Nat.mod_lt _ (by decide)
    · exact hl c hc

theorem latchFits_receiveData (s : State) (p : Port) (start : Nat) (data : List Byte) :
    LatchFits ((receiveData s p start data).port p).latch := by
  rw [receiveData, port_setPort_same]
  exact latchFits_latchFill (fun _ hc => absurd hc List.not_mem_nil) start data

/-- A write puts at most its own address into a memory. -/
theorem mem_memWrite {m : Memory} {a : Nat} {b : Byte} {c : Host.Cell} (h : c ∈ memWrite m a b) :
    c = (a, b) ∨ c ∈ m := by
  induction m with
  | nil =>
    unfold memWrite at h
    split at h
    · exact .inr h
    · exact .inl (List.mem_singleton.mp h)
  | cons d m ih =>
    unfold memWrite at h
    split at h
    · split at h
      · exact .inr h
      · exact List.mem_cons.mp h
    · split at h
      · split at h
        · exact .inr (List.mem_cons_of_mem _ h)
        · exact (List.mem_cons.mp h).imp id (List.mem_cons_of_mem _)
      · obtain rfl | h := List.mem_cons.mp h
        · exact .inr List.mem_cons_self
        · exact (ih h).imp id (List.mem_cons_of_mem _)

theorem bufferFits_latchCopy {l : Latch} (hl : LatchFits l) {buf : Memory} (hb : BufferFits buf) :
    BufferFits (latchCopy l buf) := by
  refine ⟨latchCopy_wf l hb.1, ?_⟩
  unfold latchCopy
  induction l generalizing buf with
  | nil => exact hb.2
  | cons d l ih =>
    refine ih (fun c hc => hl c (List.mem_cons_of_mem _ hc)) ⟨memWrite_wf _ _ hb.1, fun c hc => ?_⟩
    obtain rfl | hc := mem_memWrite hc
    · exact hl d List.mem_cons_self
    · exact hb.2 c hc

/-- What an acceptance takes from a latch fills a page buffer (R37). -/
theorem bufferFits_bufferFromLatch {p : Port} (h : LatchFits (t.port p).latch) :
    BufferFits (bufferFromLatch t p) :=
  bufferFits_latchCopy h ⟨rfl, fun _ hc => absurd hc List.not_mem_nil⟩

/-- A page of the array fills a page buffer (R123). -/
theorem bufferFits_memPage {m : Memory} (h : m.wf = true) (base : Nat) : BufferFits (memPage m base) := by
  refine ⟨memPage_wf base h, fun c hc => ?_⟩
  obtain ⟨d, -, hd⟩ := List.mem_filterMap.mp hc
  split at hd
  · cases hd
    dsimp only
    omega
  · cases hd

theorem bufferFits_memFill (v : Byte) : BufferFits (memFill v) := by
  refine ⟨memFill_wf v, fun c hc => ?_⟩
  unfold memFill at hc
  split at hc
  · exact absurd hc List.not_mem_nil
  · obtain ⟨i, hi, rfl⟩ := List.mem_map.mp hc
    exact List.mem_range.mp hi

/-! ### Events, records, refusals -/

theorem kept_logEvent (h : Kept k s t) {e : EventKind} {o g d : Byte} {a : Word} :
    Kept k s (logEvent t e o g d a) := by
  unfold logEvent
  split <;> exact kept_of_held h (by rfl)

theorem kept_pushCompletion (h : Kept k s t) {p : Port} {r : Completion} :
    Kept k s (pushCompletion t p r) := by
  unfold pushCompletion
  dsimp only
  split <;> exact kept_setPort h fun _ => rfl

theorem kept_refuse (h : Kept k s t) {p : Port} {code : RefusalCode} : Kept k s (refuse t p code) :=
  kept_setPort h fun _ => rfl

theorem kept_refuseTorn (h : Kept k s t) {p : Port} {c : Command} : Kept k s (refuseTorn t p c) :=
  kept_refuse (kept_logEvent h)

theorem kept_decided (h : Kept k s t) {p : Port} {checks : List (Bool × RefusalCode)}
    {accept : State → State} (ha : Kept k s (accept t)) : Kept k s (decided t p checks accept) := by
  unfold decided
  split
  · exact kept_refuse h
  · exact ha

theorem kept_setSlot (h : Kept k s t) {i : SlotId} {sl : MailSlot} : Kept k s (t.setSlot i sl) := by
  cases i <;> exact kept_of_held h (by rfl)

theorem kept_noteTag (h : Kept k s t) {p : Port} {g : Byte} : Kept k s (noteTag t p g) :=
  kept_setPort h fun _ => rfl

theorem kept_discardLatch (h : Kept k s t) {p : Port} : Kept k s (discardLatch t p) :=
  kept_setPort h fun _ => rfl

theorem kept_receiveData (h : Kept k s t) {p : Port} {start : Nat} {data : List Byte} :
    Kept k s (receiveData t p start data) := kept_setPort h fun _ => rfl

/-! ### The mailbox and the watchdog -/

theorem kept_slotToQueue (h : Kept k s t) {i : SlotId} : Kept k s (slotToQueue t i) :=
  kept_setSlot (kept_of_held h (by rfl))

theorem kept_releaseSlot (h : Kept k s t) {i : SlotId} : Kept k s (releaseSlot t i) := by
  unfold releaseSlot
  split
  · exact kept_setSlot h
  · exact kept_slotToQueue h

theorem kept_slotTakesEntry (h : Kept k s t) {i : SlotId} : Kept k s (slotTakesEntry t i) := by
  unfold slotTakesEntry
  split
  · exact kept_slotToQueue h
  · exact h

theorem kept_fillFromMailbox (h : Kept k s t) : Kept k s (fillFromMailbox t) :=
  kept_slotTakesEntry (kept_slotTakesEntry h)

theorem kept_emptySlotAt (h : Kept k s t) {i : SlotId} : Kept k s (emptySlotAt t i) :=
  kept_setSlot (kept_releaseBuffer h _)

theorem kept_denySlot (h : Kept k s t) {i : SlotId} {auto : Bool} : Kept k s (denySlot t i auto) :=
  kept_pushCompletion (kept_emptySlotAt h)

theorem kept_resolveByDefault (h : Kept k s t) {i : SlotId} {auto : Bool} {e : EventKind} :
    Kept k s (resolveByDefault t i auto e) := by
  unfold resolveByDefault
  dsimp only
  split
  · exact kept_logEvent (kept_releaseSlot (kept_setSlot h))
  · exact kept_logEvent (kept_denySlot h)

theorem kept_lapseSlot (h : Kept k s t) {i : SlotId} : Kept k s (lapseSlot t i) := by
  unfold lapseSlot
  split
  · exact kept_resolveByDefault h
  · exact h

theorem kept_lapse (h : Kept k s t) : Kept k s (lapse t) :=
  kept_lapseSlot (kept_lapseSlot (kept_logEvent (kept_of_held h (by rfl))))

theorem kept_redirectSlot (h : Kept k s t) {i : SlotId} {a : Nat} : Kept k s (redirectSlot t i a) :=
  kept_releaseSlot (kept_logEvent (kept_setSlot h))

/-- Port M's data write fills up a buffer that fits (R103). -/
theorem kept_writeSlotBuffer (h : Kept k s t) {p : Port} (hl : LatchFits (t.port p).latch)
    (b : Option (Fin 6)) : Kept k s (writeSlotBuffer t p b) := by
  unfold writeSlotBuffer
  split
  · exact h
  · split
    · exact h
    · rename_i i pb hpb
      refine kept_pool_set h _ fun hc pb' he => ?_
      cases he
      exact bufferFits_latchCopy hl (bufferFits_of_pool hc hpb)

theorem kept_startWatchdog (h : Kept k s t) : Kept k s (startWatchdog t) := kept_of_held h (by rfl)

theorem kept_watchdogWritten (h : Kept k s t) : Kept k s (watchdogWritten t) := by
  unfold watchdogWritten
  split
  · split
    · exact h
    · exact kept_of_held h (by rfl)
    · exact kept_logEvent (kept_of_held h (by rfl))
  · split
    · exact kept_startWatchdog h
    · exact kept_startWatchdog h
    · exact h

theorem kept_watchdogLoaded (h : Kept k s t) : Kept k s (watchdogLoaded t) := by
  unfold watchdogLoaded
  split
  · exact kept_of_held h (by rfl)
  · exact kept_startWatchdog h

theorem kept_takeDefaults (h : Kept k s t) {p : Port} : Kept k s (takeDefaults t p) := by
  cases p
  · exact kept_setPort (p := .a) h fun _ => rfl
  · exact kept_setPort (p := .m) h fun _ => rfl

/-! ### Requests that join the queue -/

theorem kept_takeProgramBuffer (h : Kept k s t) {p : Port} {kind : Kind}
    (hl : kind = .pageProgram → LatchFits (t.port p).latch) :
    Kept k s (takeProgramBuffer t p kind) := by
  unfold takeProgramBuffer
  split
  · exact kept_takeFree h fun _ => bufferFits_bufferFromLatch (hl ‹_›)
  · exact h

theorem latch_noteTag (t : State) (p : Port) (g : Byte) :
    ((noteTag t p g).port p).latch = (t.port p).latch := by simp [noteTag]

theorem kept_acceptModify (h : Kept k s t) {p : Port} {kind : Kind}
    (hl : kind = .pageProgram → LatchFits (t.port p).latch) {a : Nat} {auto : Bool} :
    Kept k s (acceptModify t p kind a auto) :=
  kept_of_held (kept_takeProgramBuffer (kept_noteTag (g := tagFor t p) h)
    (by rwa [latch_noteTag])) (by rfl)

theorem kept_queueModify (h : Kept k s t) {p : Port} {kind : Kind}
    (hl : kind = .pageProgram → LatchFits (t.port p).latch) {a : Nat} :
    Kept k s (queueModify t p kind a) := by
  unfold queueModify
  split
  · exact kept_refuse h
  · exact kept_acceptModify h hl

theorem kept_holdRequest (h : Kept k s t) {i : SlotId} {kind : Kind} {j : Fin 16} {a b : Nat}
    (hl : kind = .pageProgram → LatchFits t.portA.latch) :
    Kept k s (holdRequest t i kind j a b) :=
  kept_of_held (kept_setSlot (kept_takeProgramBuffer (kept_noteTag h) hl)) (by rfl)

theorem kept_denyAtOnce (h : Kept k s t) {kind : Kind} {a : Nat} : Kept k s (denyAtOnce t kind a) :=
  kept_pushCompletion (kept_logEvent (kept_noteTag h))

theorem kept_releaseAtOnce (h : Kept k s t) {kind : Kind} {a : Nat}
    (hl : kind = .pageProgram → LatchFits t.portA.latch) : Kept k s (releaseAtOnce t kind a) := by
  unfold releaseAtOnce
  split
  · exact kept_refuse h
  · exact kept_logEvent (kept_acceptModify h hl)

theorem kept_trapStep (h : Kept k s t) {kind : Kind} {j : Fin 16} {a b : Nat}
    (hl : kind = .pageProgram → LatchFits t.portA.latch) : Kept k s (trapStep t kind j a b) := by
  unfold trapStep
  split
  · split
    · split
      · exact kept_releaseAtOnce h hl
      · exact kept_denyAtOnce h
    · split
      · exact kept_holdRequest h hl
      · exact kept_refuse h
  · exact kept_queueModify h hl

theorem kept_decideModify (h : Kept k s t) {p : Port} {kind : Kind} {f : Frame}
    (hl : kind = .pageProgram → LatchFits (t.port p).latch) : Kept k s (decideModify t p kind f) := by
  unfold decideModify
  dsimp only
  split
  · exact kept_refuse h
  · split
    · exact kept_refuse h
    · split
      · exact kept_refuse (kept_logEvent h)
      · rename_i phys covering hm
        refine kept_decided h ?_
        cases covering with
        | none => exact kept_queueModify h hl
        | some i =>
          cases p with
          | a => exact kept_trapStep h hl
          | m => exact absurd hm modifyTarget_m_none

/-- An armed request is decided with its latch as it was (R35). -/
theorem kept_armedDecision (h : Kept k s t) {p : Port} {decide : State → State}
    (hd : ∀ u, Kept k s u → (u.port p).latch = (t.port p).latch → Kept k s (decide u)) :
    Kept k s (armedDecision t p decide) := by
  unfold armedDecision
  split
  · exact hd _ (kept_setPort h fun _ => rfl) (by rw [port_setPort_same])
  · exact kept_refuse h

theorem kept_acceptEntry (h : Kept k s t) {kind : Kind} {target : Target} {b : Option (Fin 6)} :
    Kept k s (acceptEntry t kind target b) := kept_of_held (kept_noteTag h) (by rfl)

theorem kept_cancelEntry (h : Kept k s t) {p : Port} {e : Entry} : Kept k s (cancelEntry t p e) :=
  kept_fillFromMailbox (kept_pushCompletion (kept_releaseBuffer (kept_of_held h (by rfl)) _))

theorem kept_cancelSlot (h : Kept k s t) {i : SlotId} : Kept k s (cancelSlot t i) :=
  kept_pushCompletion (kept_emptySlotAt h)

theorem kept_decideCancel (h : Kept k s t) {p : Port} {g : Byte} : Kept k s (decideCancel t p g) := by
  unfold decideCancel
  split
  · exact kept_refuse h
  · split
    · exact kept_cancelSlot h
    · split
      · exact kept_refuse h
      · split
        · exact kept_cancelEntry h
        · exact kept_refuse h

theorem kept_takeSuspend (h : Kept k s t) : Kept k s (takeSuspend t) := by
  unfold takeSuspend
  split
  · exact h
  · exact h
  · exact kept_of_held h (by rfl)

theorem kept_withHeldSlot (h : Kept k s t) {p : Port} {field : Byte} {act : SlotId → State}
    (ha : ∀ i, Kept k s (act i)) : Kept k s (withHeldSlot t p field act) := by
  unfold withHeldSlot
  split
  · exact kept_refuse h
  · split
    · exact ha _
    · exact kept_refuse h

/-! ### The configuration -/

theorem kept_writeLive (h : Kept k s t) {off : Nat} {v : Byte} : Kept k s (writeLive t off v) := by
  unfold writeLive
  dsimp only
  split
  · exact kept_watchdogWritten (kept_of_held h (by rfl))
  · exact kept_of_held h (by rfl)

theorem kept_setStoreClass (h : Kept k s t) {i : SlotId} {c : SlotClass} :
    Kept k s (t.setStoreClass i c) := by cases i <;> exact kept_of_held h (by rfl)

theorem kept_startCommit (h : Kept k s t) : Kept k s (startCommit t) := by
  unfold startCommit
  split
  · exact kept_of_held h (by rfl)
  · exact kept_setStoreClass (kept_of_held h (by rfl))

theorem kept_applyStaging (h : Kept k s t) : Kept k s (applyStaging t) := by
  unfold applyStaging
  dsimp only
  split
  · exact kept_of_held h (by rfl)
  · exact kept_watchdogWritten (kept_of_held h (by rfl))

theorem kept_applyCommit (h : Kept k s t) {e : EventKind} {g d : Byte} {a : Word} :
    Kept k s (applyCommit t e g d a) := by
  unfold applyCommit
  split
  · exact kept_logEvent (kept_applyStaging h)
  · exact kept_applyStaging (kept_logEvent h)

theorem kept_logTornSlot (h : Kept k s t) {i : SlotId} : Kept k s (logTornSlot t i) := by
  unfold logTornSlot
  split
  · exact kept_logEvent h
  · exact h

theorem kept_takeImage (h : Kept k s t) : Kept k s (takeImage t) := by
  unfold takeImage
  split
  · exact kept_of_held h (by rfl)
  · exact kept_logEvent (kept_of_held h (by rfl))

theorem kept_loadConfig (h : Kept k s t) : Kept k s (loadConfig t) := by
  unfold loadConfig
  exact kept_takeDefaults (kept_takeDefaults (kept_watchdogLoaded (kept_takeImage
    (kept_logTornSlot (kept_logTornSlot (kept_of_held h (by rfl)))))))

/-! ### The engine -/

theorem kept_setCurrentJob (h : Kept k s t) {d : Descriptor} : Kept k s (setCurrentJob t d) := by
  unfold setCurrentJob
  split
  · exact kept_of_held h (by rfl)
  · exact h

theorem kept_beginJob (h : Kept k s t) {i : Nat} : Kept k s (beginJob t i) := by
  unfold beginJob
  split
  · exact kept_of_held h (by rfl)
  · exact h

/-- The drain transitions are the engine's own (R117, R118, R130). -/
theorem held_drainCheck (t : State) : held (drainCheck t) = held t := by
  unfold drainCheck
  repeat' split
  all_goals rfl

theorem kept_drainCheck (h : Kept k s t) : Kept k s (drainCheck t) := kept_of_held h (held_drainCheck t)

theorem kept_moveOn (h : Kept k s t) : Kept k s (moveOn t) := by
  unfold moveOn
  split
  · split
    · exact kept_beginJob h
    · exact kept_of_held h (by rfl)
  all_goals exact kept_of_held h (by rfl)

theorem kept_finishJob (h : Kept k s t) {d : Descriptor} : Kept k s (finishJob t d) :=
  kept_moveOn (kept_logEvent (kept_setCurrentJob h))

theorem kept_faultJob (h : Kept k s t) {d : Descriptor} {c : JobFault} {a : Nat} :
    Kept k s (faultJob t d c a) := by
  unfold faultJob
  split
  · exact h
  · exact kept_logEvent (kept_setCurrentJob h)

/-- The content of a page step's buffer: one value, or a page of the array (R123). -/
theorem bufferFits_stepData (hc : Canonical t) (d : Descriptor) (c : Cursor) :
    BufferFits (stepData t d c) := by
  unfold stepData
  split
  · exact bufferFits_memFill d.fill
  · exact bufferFits_memPage hc.1 _

theorem kept_issueStep (h : Kept k s t) {d : Descriptor} {kind : Kind} {a : Nat} :
    Kept k s (issueStep t d kind a) := by
  unfold issueStep
  dsimp only
  split
  · exact kept_of_held (kept_takeFree h fun hc => bufferFits_stepData hc d t.cursor) (by rfl)
  · exact kept_of_held h (by rfl)

theorem kept_tryStep (h : Kept k s t) {d : Descriptor} {kind : Kind} {a : Nat} :
    Kept k s (tryStep t d kind a) := by
  unfold tryStep
  split
  · split
    · exact kept_drainCheck (kept_faultJob h)
    · exact kept_issueStep h
  · exact h

theorem kept_finishIfDone (h : Kept k s t) {d : Descriptor} : Kept k s (finishIfDone t d) := by
  unfold finishIfDone
  split
  · exact kept_finishJob h
  · exact h

theorem kept_stepCompleted (h : Kept k s t) {e : Entry} {out : OpOutcome} :
    Kept k s (stepCompleted t e out) := by
  unfold stepCompleted
  dsimp only
  split
  · exact kept_drainCheck h
  · split
    · exact kept_drainCheck (kept_faultJob h)
    · exact kept_drainCheck (kept_finishIfDone (kept_setCurrentJob h))

theorem kept_afterChunk (h : Kept k s t) {d : Descriptor} : Kept k s (afterChunk t d) := by
  unfold afterChunk
  split
  · exact kept_finishJob h
  · exact kept_setCurrentJob h

theorem kept_digestChunk (h : Kept k s t) {d : Descriptor} : Kept k s (digestChunk t d) := by
  unfold digestChunk
  dsimp only
  split
  · exact kept_afterChunk (kept_of_held h (by rfl))
  · exact h

theorem kept_verifyChunk (h : Kept k s t) {d : Descriptor} : Kept k s (verifyChunk t d) := by
  unfold verifyChunk
  dsimp only
  split
  · split
    · exact kept_drainCheck (kept_faultJob h)
    · exact kept_afterChunk h
  · exact h

theorem kept_startNext (h : Kept k s t) {p : Port} : Kept k s (startNext t p) := by
  unfold startNext
  split
  · exact kept_beginJob (kept_of_held h (by rfl))
  · exact kept_refuse h

theorem kept_foldl_releaseBuffer (es : List Entry) (h : Kept k s t) :
    Kept k s (es.foldl (fun s e => releaseBuffer s e.buffer) t) := by
  induction es generalizing t with
  | nil => exact h
  | cons e es ih => exact ih (kept_releaseBuffer h _)

theorem kept_removeEntries (h : Kept k s t) {has : Entry → Bool} : Kept k s (removeEntries t has) :=
  kept_foldl_releaseBuffer _ (kept_of_held h (by rfl))

/-! ### The sequencer -/

theorem kept_startEffect (h : Kept k s t) {e : Entry} : Kept k s (startEffect t e) := by
  have hq : Kept k s (if isEraseKind e.kind then startQuantum t else { t with quantum := none }) := by
    split <;> exact kept_of_held h (by rfl)
  unfold startEffect
  dsimp only
  split
  · exact kept_startCommit hq
  · exact hq

theorem kept_reportOutcome (h : Kept k s t) {e : Entry} {out : OpOutcome} :
    Kept k s (reportOutcome t e out) := by
  have hl : Kept k s (logFailed t e out) := by
    unfold logFailed
    split
    · exact kept_logEvent h
    · exact h
  unfold reportOutcome
  dsimp only
  split
  · exact hl
  · split
    · exact kept_pushCompletion hl
    · exact kept_pushCompletion hl
    · exact kept_stepCompleted hl

theorem kept_removeActive (h : Kept k s t) {e : Entry} : Kept k s (removeActive t e) :=
  kept_releaseBuffer (kept_of_held h (by rfl)) _

theorem kept_expireHold (h : Kept k s t) {e : Entry} : Kept k s (expireHold t e) := by
  unfold expireHold
  split
  · exact kept_of_held h (by rfl)
  · exact kept_logEvent (kept_of_held h (by rfl))

end

end Sys2Proof.Machine

namespace Sys2Proof.Machine

/-! ### Transactions and the rows that end them -/

/-- The outcome is a next state that has kept what it should before the outputs are driven. -/
def Keeps (k : Scope) (s : State) (o : Host.Outcome State Fault Refusal) : Prop :=
  ∃ u, o = finish u ∧ Kept k s u

theorem keeps_refl (k : Scope) (s : State) : Keeps k s (finish s) := ⟨s, rfl, kept_refl k s⟩

section
variable {k : Scope} {s t : State} {p : Port} {f : Frame}

theorem kept_beginTransaction (h : Kept k s t) : Kept k s (beginTransaction t p) := by
  unfold beginTransaction
  dsimp only
  split
  · split <;> exact kept_setPort h fun _ => rfl
  · exact h
  · exact h

theorem kept_deselect (h : Kept k s t) : Kept k s (deselect t p) := kept_setPort h fun _ => rfl

theorem kept_ended (k : Scope) (s : State) (p : Port) : Kept k s (ended s p) :=
  kept_setPort (kept_beginTransaction (kept_refl k s)) fun _ => rfl

theorem keeps_endTransaction {fits : Tx → Bool} {act : Tx → State → State}
    (h : ∀ tx t, Kept k s t → Kept k s (act tx t)) : Keeps k s (endTransaction s p fits act) := by
  have hb : Kept k s (beginTransaction s p) := kept_beginTransaction (kept_refl k s)
  obtain he | he | he | ⟨tx, -, -, he⟩ := endTransaction_cases s p fits act <;> rw [he]
  · exact keeps_refl k s
  · exact ⟨_, rfl, hb⟩
  · exact ⟨_, rfl, kept_deselect hb⟩
  · exact ⟨_, rfl, h tx _ (kept_ended k s p)⟩

theorem keeps_requestEnd {c : Command} {act : Tx → State → State}
    (h : ∀ tx t, Kept k s t → Kept k s (act tx t)) : Keeps k s (requestEnd s p c f act) := by
  refine keeps_endTransaction fun tx t ht => ?_
  split
  · exact kept_refuse ht
  · split
    · exact kept_refuseTorn ht
    · exact h tx t ht

theorem keeps_readEnd {c : Command} {act : Tx → List Byte → State → State}
    (h : ∀ tx bs t, Kept k s t → Kept k s (act tx bs t)) : Keeps k s (readEnd s p c f act) := by
  refine keeps_endTransaction fun tx t ht => ?_
  split
  · exact kept_refuse ht
  · split
    · exact h tx _ t ht
    · exact ht

/-- A request whose whole effect is a change of its port that keeps the read flags. -/
theorem keeps_portRequest {c : Command} {g : PortState → PortState}
    (hg : ∀ ps, (g ps).flags = ps.flags) :
    Keeps k s (requestEnd s p c f fun _ s' => s'.setPort p (g (s'.port p))) :=
  keeps_requestEnd fun _ _ ht => kept_setPort ht fun _ => hg _

/-- The same with checks before it. -/
theorem keeps_checkedPortRequest {c : Command} {checks : List (Bool × RefusalCode)}
    {g : PortState → PortState} (hg : ∀ ps, (g ps).flags = ps.flags) :
    Keeps k s (requestEnd s p c f fun _ s' =>
      decided s' p checks fun s' => s'.setPort p (g (s'.port p))) :=
  keeps_requestEnd fun _ _ ht => kept_decided ht (kept_setPort ht fun _ => hg _)

/-! ### The modify requests and the queue requests -/

theorem keeps_pageProgram : Keeps k s (execPageProgram p f s) :=
  keeps_requestEnd fun _ _ ht => kept_discardLatch (kept_armedDecision (kept_receiveData ht)
    fun _ hu hl => kept_decideModify hu fun _ => hl ▸ latchFits_receiveData _ p _ _)

theorem keeps_sectorErase : Keeps k s (execSectorErase p f s) :=
  keeps_requestEnd fun _ _ ht => kept_discardLatch (kept_armedDecision ht
    fun _ hu _ => kept_decideModify (kind := .sectorErase) hu fun hk => nomatch hk)

theorem keeps_blockErase : Keeps k s (execBlockErase p f s) :=
  keeps_requestEnd fun _ _ ht => kept_discardLatch (kept_armedDecision ht
    fun _ hu _ => kept_decideModify (kind := .blockErase) hu fun hk => nomatch hk)

theorem keeps_suspend : Keeps k s (execSuspend p f s) := by
  refine keeps_requestEnd fun _ t ht => ?_
  split
  · exact kept_refuse ht
  · exact kept_decided ht (kept_takeSuspend ht)

theorem keeps_resume : Keeps k s (execResume p f s) := by
  refine keeps_requestEnd fun _ t ht => ?_
  split
  · exact kept_refuse ht
  · exact kept_decided ht (kept_of_held ht (by rfl))

theorem keeps_cancel : Keeps k s (execCancel p f s) :=
  keeps_requestEnd fun _ _ ht => kept_decideCancel ht

/-! ### The mailbox and watchdog requests -/

theorem keeps_mailboxRelease : Keeps k s (execMailboxRelease p f s) :=
  keeps_requestEnd fun _ _ ht => kept_withHeldSlot ht fun _ => kept_releaseSlot ht

theorem keeps_mailboxRedirect : Keeps k s (execMailboxRedirect p f s) := by
  refine keeps_requestEnd fun _ t ht => kept_withHeldSlot ht fun i => ?_
  dsimp only
  split
  · exact kept_refuse ht
  · split
    · exact kept_refuse ht
    · exact kept_redirectSlot ht

theorem keeps_mailboxDeny : Keeps k s (execMailboxDeny p f s) :=
  keeps_requestEnd fun _ _ ht => kept_withHeldSlot ht fun _ => kept_logEvent (kept_denySlot ht)

theorem keeps_mailboxDataWrite : Keeps k s (execMailboxDataWrite p f s) :=
  keeps_requestEnd fun _ _ ht =>
    have hr := kept_receiveData ht
    kept_discardLatch (kept_withHeldSlot hr fun _ =>
      kept_decided hr (kept_writeSlotBuffer hr (latchFits_receiveData _ p _ _) _))

theorem keeps_heartbeat : Keeps k s (execHeartbeat p f s) := by
  refine keeps_requestEnd fun _ t ht => ?_
  split
  · exact ht
  · exact kept_startWatchdog ht
  · exact kept_logEvent (kept_startWatchdog ht)

/-! ### The configuration requests -/

theorem keeps_tableWriteEntry : Keeps k s (execTableWriteEntry p f s) := by
  refine keeps_requestEnd fun _ t ht => kept_decided ht ?_
  split
  · exact kept_of_held ht (by rfl)
  · exact kept_refuse ht

theorem keeps_tableClearEntry : Keeps k s (execTableClearEntry p f s) := by
  refine keeps_requestEnd fun _ t ht => kept_decided ht ?_
  split
  · exact kept_of_held ht (by rfl)
  · exact kept_refuse ht

theorem keeps_stageFromActive : Keeps k s (execStageFromActive p f s) :=
  keeps_requestEnd fun _ _ ht => kept_decided ht (kept_of_held ht (by rfl))

theorem keeps_settingsWriteStaged : Keeps k s (execSettingsWriteStaged p f s) :=
  keeps_requestEnd fun _ _ ht => kept_decided ht (kept_of_held ht (by rfl))

theorem keeps_settingsWriteLive : Keeps k s (execSettingsWriteLive p f s) :=
  keeps_requestEnd fun _ _ ht => kept_decided ht (kept_writeLive ht)

theorem keeps_swapViews : Keeps k s (execSwapViews p f s) := by
  refine keeps_requestEnd fun _ t ht => kept_decided ht ?_
  split
  · split
    · exact kept_of_held ht (by rfl)
    · exact kept_refuse ht
  · exact kept_refuse ht

theorem keeps_lockSession : Keeps k s (execLockSession p f s) := by
  refine keeps_requestEnd fun _ t ht => ?_
  split
  · exact ht
  · exact kept_logEvent (kept_of_held ht (by rfl))

theorem keeps_commit : Keeps k s (execCommit p f s) :=
  keeps_requestEnd fun _ _ ht => kept_armedDecision ht fun _ hu _ =>
    have hv := kept_of_held hu (by rfl)
    kept_decided hu (kept_decided hv (kept_acceptEntry hv))

theorem keeps_guardFuse : Keeps k s (execGuardFuse p f s) :=
  keeps_requestEnd fun _ _ ht => kept_armedDecision ht fun _ hu _ =>
    kept_decided hu (kept_acceptEntry hu)

theorem keeps_sealProgram : Keeps k s (execSealProgram p f s) :=
  keeps_requestEnd fun _ _ ht => kept_discardLatch (kept_armedDecision (kept_receiveData ht)
    fun _ hu hl => kept_decided hu (kept_acceptEntry (kept_takeFree hu fun _ =>
      bufferFits_bufferFromLatch (hl ▸ latchFits_receiveData _ p _ _))))

theorem keeps_sealLock : Keeps k s (execSealLock p f s) :=
  keeps_requestEnd fun _ _ ht => kept_armedDecision ht fun _ hu _ =>
    kept_decided hu (kept_acceptEntry hu)

/-! ### The engine's controls -/

theorem keeps_jobLoad : Keeps k s (execJobLoad p f s) := by
  refine keeps_requestEnd fun _ t ht => ?_
  split
  · exact kept_refuse ht
  · split
    · exact kept_refuse ht
    · exact kept_decided ht (kept_of_held ht (by rfl))

theorem keeps_jobStart : Keeps k s (execJobStart p f s) := by
  refine keeps_requestEnd fun _ t ht => ?_
  split
  case h_1 | h_2 => exact kept_startNext ht
  case h_3 =>
    split
    · exact kept_of_held ht (by rfl)
    · exact kept_startNext ht
  all_goals exact kept_refuse ht

theorem keeps_jobPause : Keeps k s (execJobPause p f s) := by
  refine keeps_requestEnd fun _ t ht => ?_
  split
  · exact kept_drainCheck (kept_of_held ht (by rfl))
  · exact kept_refuse ht

theorem keeps_jobAbort : Keeps k s (execJobAbort p f s) := by
  refine keeps_requestEnd fun _ t ht => ?_
  split
  case h_1 | h_2 | h_3 | h_4 =>
    exact kept_drainCheck (kept_fillFromMailbox (kept_removeEntries (kept_of_held ht (by rfl))))
  all_goals exact kept_refuse ht

theorem keeps_jobClear : Keeps k s (execJobClear p f s) := by
  refine keeps_requestEnd fun _ t ht => ?_
  split
  case h_1 | h_2 => exact kept_of_held ht (by rfl)
  all_goals exact kept_refuse ht

/-! ### The reads -/

/-- A read whose end has no effect of its own (R10, R19). -/
theorem keeps_quietRead {c : Command} : Keeps k s (readEnd s p c f fun _ _ s' => s') :=
  keeps_readEnd fun _ _ _ ht => ht

theorem keeps_streamRead : Keeps k s (execStreamRead p f s) :=
  keeps_readEnd fun _ _ _ ht => kept_setPort ht fun _ => rfl

theorem keeps_eventRead : Keeps k s (execEventRead p f s) := by
  refine keeps_readEnd fun _ _ t ht => ?_
  split
  · exact kept_of_held ht (by rfl)
  · exact ht

theorem keeps_continuationTransaction : Keeps k s (execContinuationTransaction p f s) := by
  refine keeps_endTransaction fun _ t ht => ?_
  split
  · exact kept_refuse ht
  · split
    · exact kept_setPort ht fun _ => rfl
    · exact ht

theorem keeps_unknownCommand (code : Byte) : Keeps k s (execUnknownCommand p code f s) :=
  keeps_endTransaction fun _ _ ht => kept_refuse ht

theorem keeps_ignoredTransactionEnd : Keeps k s (execIgnoredTransactionEnd p s) := by
  unfold execIgnoredTransactionEnd
  split
  · exact keeps_refl k s
  · exact ⟨_, rfl, kept_deselect (kept_refl k s)⟩
  · split
    · exact keeps_refl k s
    · exact ⟨_, rfl, kept_deselect (kept_refl k s)⟩

/-- The clear at the end of READ_PORT_STATUS clears its own port's flags alone (R152). -/
theorem keeps_readPortStatus (hp : ¬ k.flags p) : Keeps k s (execReadPortStatus p f s) := by
  refine keeps_readEnd fun _ _ t ht => ?_
  split
  · exact kept_setPort ht fun hf => absurd hf hp
  · exact ht

theorem kept_consumeDelivery (h : Kept k s t) : Kept k s (consumeDelivery t p) := by
  obtain he | ⟨tx, fifo, log, -, he⟩ := consumeDelivery_cases t p <;> rw [he]
  · exact h
  · exact kept_setPort (kept_of_held h (by rfl)) fun _ => by cases p <;> rfl

theorem keeps_completionPop : Keeps k s (execCompletionPop p s) := by
  unfold execCompletionPop
  split
  · exact ⟨_, rfl, kept_consumeDelivery (kept_refl k s)⟩
  · exact keeps_refl k s

theorem keeps_eventPop : Keeps k s (execEventPop s) := by
  unfold execEventPop
  split
  · exact ⟨_, rfl, kept_consumeDelivery (kept_refl k s)⟩
  · exact keeps_refl k s

/-- A fetch may set its own port's flags alone (R30). -/
theorem kept_fetchByte (hp : ¬ k.flags p) (h : Kept k s t) (r : ReadOp) :
    Kept k s (fetchByte t p r) := by
  have hc : Kept k s (consumeDelivery t p) := kept_consumeDelivery h
  unfold fetchByte
  dsimp only
  split
  · rename_i tx _
    obtain ⟨flags, he⟩ := dataByte_snd (consumeDelivery t p) p
      (chooseDelivery (consumeDelivery t p) p r tx) r
    rw [he, setPort_setPort]
    exact kept_setPort hc fun hf => absurd hf hp
  · exact hc
  · exact hc

theorem kept_receiveBytes (h : Kept k s t) {tx : Tx} {w : List Byte} :
    Kept k s (receiveBytes t p tx w) := kept_setPort h fun _ => rfl

theorem kept_startRead (h : Kept k s t) {tx : Tx} {r : ReadOp} : Kept k s (startRead t p tx r) :=
  kept_setPort h fun _ => rfl

/-- A DATA_BYTE_FETCH fetches at most one byte, from a state that has kept everything (R6). -/
theorem execDataByteFetch_cases (k : Scope) (s : State) (p : Port) (w : List Byte) :
    ∃ t, Kept k s t ∧ (execDataByteFetch p w s = finish t
      ∨ ∃ r, execDataByteFetch p w s = finish (fetchByte t p r)) := by
  have hb : Kept k s (beginTransaction s p) := kept_beginTransaction (kept_refl k s)
  unfold execDataByteFetch
  dsimp only
  split
  · exact ⟨s, kept_refl k s, .inl rfl⟩
  · exact ⟨s, kept_refl k s, .inl rfl⟩
  · split
    · exact ⟨s, kept_refl k s, .inl rfl⟩
    · split
      · exact ⟨_, hb, .inr ⟨_, rfl⟩⟩
      · unfold firstFetch
        dsimp only
        split
        · exact ⟨_, kept_startRead (kept_receiveBytes hb), .inr ⟨_, rfl⟩⟩
        · exact ⟨_, kept_receiveBytes hb, .inl rfl⟩

theorem keeps_dataByteFetch (hp : ¬ k.flags p) (w : List Byte) :
    Keeps k s (execDataByteFetch p w s) := by
  obtain ⟨t, ht, he | ⟨r, he⟩⟩ := execDataByteFetch_cases k s p w
  · exact ⟨_, he, ht⟩
  · exact ⟨_, he, kept_fetchByte hp ht r⟩

/-! ### The resets of one port and the dormant state -/

theorem kept_orphanEntries (h : Kept k s t) {o : Origin} : Kept k s (orphanEntries t o) :=
  kept_of_held (kept_removeEntries h) (by rfl)

theorem kept_resetEngine (h : Kept k s t) : Kept k s (resetEngine t) :=
  kept_of_held (kept_orphanEntries h) (by rfl)

theorem kept_resetShared (h : Kept k s t) : Kept k s (resetShared t p) := by
  cases p
  · exact kept_emptySlotAt (kept_emptySlotAt h)
  · exact kept_fillFromMailbox (kept_resetEngine h)

/-- A soft reset clears its own port's flags alone (R165). -/
theorem kept_softReset (hp : ¬ k.flags p) (h : Kept k s t) : Kept k s (softReset t p) :=
  kept_logEvent (kept_resetShared (kept_orphanEntries (kept_takeDefaults
    (kept_setPort h fun hf => absurd hf hp))))

theorem keeps_resetPort (hp : ¬ k.flags p) : Keeps k s (execResetPort p f s) := by
  refine keeps_requestEnd fun _ t ht => ?_
  split
  · exact kept_softReset hp ht
  · exact kept_refuse ht

theorem flags_abandonPortA (ps : PortState) (w : List Byte) :
    (abandonPortA ps w).flags = ps.flags := by
  unfold abandonPortA
  split
  · rfl
  · rfl
  · split <;> rfl

theorem keeps_dormant (w : List Byte) : Keeps k s (execDormant p f w s) :=
  keeps_requestEnd fun _ t ht => kept_decided ht
    (kept_of_held (kept_setPort (p := .a) ht fun _ => flags_abandonPortA t.portA w) (by rfl))

theorem kept_wakeUp (h : Kept k s t) : Kept k s (wakeUp t p) := by
  have hl : Kept k s (t.setPort p { t.port p with latch := [], received := 0 }) :=
    kept_setPort h fun _ => rfl
  unfold wakeUp
  dsimp only
  split
  · split
    · exact kept_startWatchdog (kept_of_held hl (by rfl))
    · exact kept_of_held hl (by rfl)
  · exact hl

theorem keeps_wake : Keeps k s (execWake p f s) := by
  have hb : Kept k s (beginTransaction s p) := kept_beginTransaction (kept_refl k s)
  unfold execWake
  dsimp only
  split
  · exact ⟨_, rfl, hb⟩
  · exact ⟨_, rfl, kept_deselect hb⟩
  · split
    · exact ⟨_, rfl, kept_deselect hb⟩
    · split
      · refine ⟨_, rfl, ?_⟩
        unfold wakeEnd
        split
        · split
          · exact kept_deselect hb
          · exact kept_refuseTorn (kept_ended k s p)
        · exact kept_wakeUp (kept_ended k s p)
      · exact keeps_refl k s

/-! ### The events inside the device -/

theorem keeps_releasingSlotEntry : Keeps k s (execReleasingSlotEntry s) := by
  unfold execReleasingSlotEntry
  split
  · exact ⟨_, rfl, kept_fillFromMailbox (kept_refl k s)⟩
  · exact keeps_refl k s

theorem keeps_entryStart : Keeps k s (execEntryStart s) := by
  unfold execEntryStart
  split
  · split
    · exact ⟨_, rfl, kept_startEffect (kept_of_held (kept_refl k s) (by rfl))⟩
    · exact keeps_refl k s
  · exact keeps_refl k s

theorem keeps_entryRestart : Keeps k s (execEntryRestart s) := by
  unfold execEntryRestart
  split
  · split
    · split
      · exact ⟨_, rfl, kept_of_held (kept_refl k s) (by rfl)⟩
      · exact keeps_refl k s
    · exact keeps_refl k s
  · exact keeps_refl k s

theorem keeps_suspendTaken : Keeps k s (execSuspendTaken s) := by
  unfold execSuspendTaken
  split
  · exact ⟨_, rfl, kept_of_held (kept_refl k s) (by rfl)⟩
  · exact keeps_refl k s

theorem keeps_runQuantumExpiry : Keeps k s (execRunQuantumExpiry s) := by
  unfold execRunQuantumExpiry
  split
  · exact ⟨_, rfl, kept_of_held (kept_refl k s) (by rfl)⟩
  · exact keeps_refl k s

theorem keeps_holdDeadlineExpiry : Keeps k s (execHoldDeadlineExpiry s) := by
  unfold execHoldDeadlineExpiry
  split
  · split
    · exact ⟨_, rfl, kept_expireHold (kept_refl k s)⟩
    · exact keeps_refl k s
  · exact keeps_refl k s

theorem keeps_trapDeadlineExpiry (i : SlotId) : Keeps k s (execTrapDeadlineExpiry i s) := by
  unfold execTrapDeadlineExpiry
  split
  · exact ⟨_, rfl, kept_resolveByDefault (kept_refl k s)⟩
  · exact keeps_refl k s

theorem keeps_watchdogWarningPoint : Keeps k s (execWatchdogWarningPoint s) := by
  unfold execWatchdogWarningPoint
  split
  · exact ⟨_, rfl, kept_of_held (kept_refl k s) (by rfl)⟩
  · exact keeps_refl k s

theorem keeps_watchdogLapse : Keeps k s (execWatchdogLapse s) := by
  unfold execWatchdogLapse
  split
  · exact ⟨_, rfl, kept_lapse (kept_refl k s)⟩
  · exact keeps_refl k s

theorem keeps_jobStepIssue : Keeps k s (execJobStepIssue s) := by
  unfold execJobStepIssue
  split
  · split
    · exact keeps_refl k s
    · split
      · exact keeps_refl k s
      · exact ⟨_, rfl, kept_tryStep (kept_refl k s)⟩
  · exact keeps_refl k s

theorem keeps_chunkRead : Keeps k s (execChunkRead s) := by
  unfold execChunkRead
  split
  · split
    · exact keeps_refl k s
    · split
      · exact ⟨_, rfl, kept_verifyChunk (kept_refl k s)⟩
      · exact ⟨_, rfl, kept_digestChunk (kept_refl k s)⟩
      all_goals exact keeps_refl k s
  · exact keeps_refl k s

theorem keeps_tick : Keeps k s (execTick s) := by
  obtain ⟨slot0, slot1, quantum, hold, watchdog, h, -⟩ := execTick_frame s
  exact ⟨_, h, kept_of_held (kept_refl k s) (by rfl)⟩

/-! ### Completions and operations cut short -/

theorem canonical_setStore {i : SlotId} {bs : List Byte} (h : Canonical t) :
    Canonical (t.setStore i bs) := by cases i <;> exact h

theorem canonical_arrayAfter {e : Entry} {base len : Nat} {stuck : StuckBits} (h : Canonical t) :
    Canonical { t with array := arrayAfter t e base len stuck } := by
  refine ⟨?_, h.2⟩
  dsimp only
  unfold arrayAfter
  split
  · exact memProgram_wf _ _ _ h.1
  · exact memErase_wf _ _ _ h.1

theorem canonical_sealAfter {e : Entry} {page half : Nat} {stuck : StuckBits} (h : Canonical t) :
    Canonical { t with sealStore := sealAfter t e page half stuck } :=
  ⟨h.1, memProgram_wf _ _ _ h.2.1, h.2.2⟩

theorem kept_setStore (hk : ¬ k.content) (h : Kept k s t) {i : SlotId} {bs : List Byte} :
    Kept k s (t.setStore i bs) :=
  kept_of_content hk h canonical_setStore fun q => by cases i <;> cases q <;> rfl

theorem kept_commitResult (hk : ¬ k.content) (h : Kept k s t) {g : Byte} {stuck : StuckBits} :
    Kept k s (commitResult t g stuck).1 := by
  have hw : ∀ i bs c,
      Kept k s ((State.setStore { t with commitRun := none } i bs).setStoreClass i c) :=
    fun i bs c => kept_setStoreClass (kept_setStore hk (kept_of_held h (by rfl)))
  unfold commitResult
  dsimp only
  split
  · split
    · exact kept_applyCommit (kept_of_held (hw _ _ _) (by rfl))
    · exact kept_logEvent (hw _ _ _)
  · exact kept_applyCommit (kept_of_held h (by rfl))
  · exact kept_applyCommit (kept_of_held h (by rfl))

/-- A completed operation changes a non-volatile store, which it leaves canonical (R81, R82). -/
theorem kept_operationResult (hk : ¬ k.content) (h : Kept k s t) {e : Entry} {stuck : StuckBits} :
    Kept k s (operationResult t e stuck).1 := by
  unfold operationResult
  split
  case h_4 => exact kept_commitResult hk h
  case h_5 =>
    split
    · exact kept_logEvent (kept_of_content hk h (u := { t with fuse := true }) id fun _ => rfl)
    · exact h
  case h_6 => exact kept_of_content hk h canonical_sealAfter fun _ => rfl
  case h_7 =>
    have hl : ∀ locks, Kept k s { t with sealLocks := locks } :=
      fun _ => kept_of_content hk h id fun _ => rfl
    split
    · exact kept_logEvent (hl _)
    · exact h
  case h_8 => exact h
  all_goals exact kept_of_content hk h canonical_arrayAfter fun _ => rfl

theorem keeps_operationCompletion (hk : ¬ k.content) (stuck : StuckBits) :
    Keeps k s (execOperationCompletion stuck s) := by
  unfold execOperationCompletion
  split
  · split
    · exact keeps_refl k s
    · exact ⟨_, rfl, kept_fillFromMailbox (kept_reportOutcome (kept_removeActive
        (kept_operationResult hk (kept_refl k s))))⟩
  · exact keeps_refl k s

/-- So does one that is cut short (R164). -/
theorem kept_abortTarget (hk : ¬ k.content) (h : Kept k s t) {e : Entry} {stuck : StuckBits}
    {slot : Option (List Byte)} : Kept k s (abortTarget t e stuck slot) := by
  unfold abortTarget
  split
  case h_4 => exact kept_of_content hk h canonical_sealAfter fun _ => rfl
  case h_5 | h_6 =>
    split
    · exact kept_of_content hk h id fun _ => rfl
    · exact h
  case h_7 =>
    split
    · exact kept_setStore hk h
    · exact h
    · exact h
  case h_8 => exact h
  all_goals exact kept_of_content hk h canonical_arrayAfter fun _ => rfl

theorem kept_abortOperations (hk : ¬ k.content) (s : State) (left : Leftover) :
    Kept k s (abortOperations s left) := by
  have ha : Kept k s (abortActive s left) := by
    unfold abortActive
    split
    · exact kept_abortTarget hk (kept_refl k s)
    · exact kept_refl k s
  unfold abortOperations abortSuspended
  split
  · split
    · exact kept_abortTarget hk ha
    · exact ha
  · exact kept_refl k s

/-! ### The supply and RESET_N -/

/-- The power-on values leave no buffer and no read flag (section 10.4). -/
theorem kept_volatileReset (hf : ∀ q, ¬ k.flags q) (h : Kept k s t) : Kept k s (volatileReset t) := by
  refine h.trans ⟨fun hc => ⟨hc.1, hc.2.1, fun i b hb => ?_⟩,
    fun _ => ⟨rfl, rfl, rfl, rfl, rfl, rfl⟩, fun q hq => absurd hq (hf q)⟩
  simp [volatileReset] at hb

theorem kept_powerOnStep (hf : ∀ q, ¬ k.flags q) (h : Kept k s t) : Kept k s (powerOnStep t) :=
  kept_loadConfig (kept_of_held (kept_volatileReset hf h) (by rfl))

theorem kept_foldl_logAborted (rs : List Aborted) (h : Kept k s t) :
    Kept k s (rs.foldl logAborted t) := by
  induction rs generalizing t with
  | nil => exact h
  | cons r rs ih => exact ih (kept_logEvent h)

theorem keeps_powerOn (hk : ¬ k.content) (hf : ∀ q, ¬ k.flags q) (left : Leftover) :
    Keeps k s (execPowerOn left s) := by
  have ha := kept_of_held (u := { abortOperations s left with sessionLock := false })
    (kept_abortOperations hk s left) (by rfl)
  unfold execPowerOn
  dsimp only
  split
  · exact ⟨_, rfl, kept_powerOnStep hf ha⟩
  · exact ⟨_, rfl, kept_of_held (kept_volatileReset hf ha) (by rfl)⟩

theorem keeps_powerLoss (hk : ¬ k.content) (hf : ∀ q, ¬ k.flags q) (left : Leftover) :
    Keeps k s (execPowerLoss left s) := by
  unfold execPowerLoss
  split
  · exact keeps_refl k s
  all_goals
    exact ⟨_, rfl, kept_of_held (kept_volatileReset hf (kept_abortOperations hk s left)) (by rfl)⟩

theorem keeps_resetNAssert (hk : ¬ k.content) (left : Leftover) :
    Keeps k s (execResetNAssert left s) := by
  unfold execResetNAssert
  split
  case h_1 | h_2 =>
    refine ⟨_, rfl, kept_of_held (kept_removeEntries (has := fun e => !isWaiting e)
      (kept_abortOperations hk s left)) ?_⟩
    simp only [held, enterReset, Prod.mk.injEq, true_and]
    funext q
    cases q <;> rfl
  all_goals exact ⟨_, rfl, kept_of_held (kept_refl k s) (by rfl)⟩

theorem keeps_resetNRelease (hf : ∀ q, ¬ k.flags q) : Keeps k s (execResetNRelease s) := by
  unfold execResetNRelease
  split
  · exact ⟨_, rfl, kept_foldl_logAborted _
      (kept_powerOnStep hf (kept_of_held (kept_refl k s) (by rfl)))⟩
  · exact ⟨_, rfl, kept_powerOnStep hf (kept_of_held (kept_refl k s) (by rfl))⟩
  all_goals exact ⟨_, rfl, kept_of_held (kept_refl k s) (by rfl)⟩

end

end Sys2Proof.Machine

namespace Sys2Proof.Machine

/-! ### Every command -/

/-- What each command is to leave: the content, but for completions and operations cut short; a port's
read flags, but for its own fetches and clears, the supply and RESET_N. -/
def scopeOf (i : Instr) : Scope where
  content := (∀ stuck, i ≠ .operationCompletion stuck) ∧ (∀ left, i ≠ .powerOn left)
    ∧ (∀ left, i ≠ .powerLoss left) ∧ ∀ left, i ≠ .resetNAssert left
  flags q := isPowerEvent i = false ∧ (∀ f, i ≠ .readPortStatus q f) ∧ (∀ f, i ≠ .resetPort q f)
    ∧ ∀ w, i ≠ .dataByteFetch q w

theorem not_content_operationCompletion (stuck : StuckBits) :
    ¬ (scopeOf (.operationCompletion stuck)).content := fun h => h.1 stuck rfl
theorem not_content_powerOn (left : Leftover) : ¬ (scopeOf (.powerOn left)).content :=
  fun h => h.2.1 left rfl
theorem not_content_powerLoss (left : Leftover) : ¬ (scopeOf (.powerLoss left)).content :=
  fun h => h.2.2.1 left rfl
theorem not_content_resetNAssert (left : Leftover) : ¬ (scopeOf (.resetNAssert left)).content :=
  fun h => h.2.2.2 left rfl

theorem not_flags_of_power {i : Instr} (h : isPowerEvent i = true) (q : Port) :
    ¬ (scopeOf i).flags q := fun hf => Bool.noConfusion (h.symm.trans hf.1)
theorem not_flags_readPortStatus (p : Port) (f : Frame) :
    ¬ (scopeOf (.readPortStatus p f)).flags p := fun h => h.2.1 f rfl
theorem not_flags_resetPort (p : Port) (f : Frame) : ¬ (scopeOf (.resetPort p f)).flags p :=
  fun h => h.2.2.1 f rfl
theorem not_flags_dataByteFetch (p : Port) (w : List Byte) :
    ¬ (scopeOf (.dataByteFetch p w)).flags p := fun h => h.2.2.2 w rfl

/-- Every command keeps the memories canonical, and the content and the flags of its scope. -/
theorem exec_kept (i : Instr) (s : State) : Keeps (scopeOf i) s (exec i s) := by
  cases i
  case dataByteFetch p w => exact keeps_dataByteFetch (not_flags_dataByteFetch p w) w
  case readPortStatus p f => exact keeps_readPortStatus (not_flags_readPortStatus p f)
  case resetPort p f => exact keeps_resetPort (not_flags_resetPort p f)
  case operationCompletion stuck =>
    exact keeps_operationCompletion (not_content_operationCompletion stuck) stuck
  case powerOn left =>
    exact keeps_powerOn (not_content_powerOn left) (not_flags_of_power rfl) left
  case powerLoss left =>
    exact keeps_powerLoss (not_content_powerLoss left) (not_flags_of_power rfl) left
  case resetNAssert left => exact keeps_resetNAssert (not_content_resetNAssert left) left
  case resetNRelease => exact keeps_resetNRelease (not_flags_of_power rfl)
  case armWrite p f => exact keeps_portRequest (g := fun ps => { ps with wel := true }) fun _ => rfl
  case disarmWrite p f =>
    exact keeps_portRequest (g := fun ps => { ps with wel := false }) fun _ => rfl
  case setIrqMask p f =>
    exact keeps_portRequest (g := fun ps => { ps with irqMask := byteAt f.bytes 0 }) fun _ => rfl
  case resetArm p f =>
    exact keeps_portRequest (g := fun ps => { ps with resetArmed := true }) fun _ => rfl
  case setLanes p f =>
    exact keeps_checkedPortRequest
      (g := fun ps => { ps with lane := laneOf (byteAt f.bytes 0) }) fun _ => rfl
  case setWait p f =>
    exact keeps_checkedPortRequest
      (g := fun ps => { ps with wait := (byteAt f.bytes 0).setWidth 4 }) fun _ => rfl
  case setWrap p f =>
    exact keeps_checkedPortRequest
      (g := fun ps => { ps with wrap := wrapOf (byteAt f.bytes 0) }) fun _ => rfl
  case pageProgram => exact keeps_pageProgram
  case sectorErase => exact keeps_sectorErase
  case blockErase => exact keeps_blockErase
  case suspend => exact keeps_suspend
  case resume => exact keeps_resume
  case cancel => exact keeps_cancel
  case dormant => exact keeps_dormant _
  case wake => exact keeps_wake
  case tableWriteEntry => exact keeps_tableWriteEntry
  case tableClearEntry => exact keeps_tableClearEntry
  case stageFromActive => exact keeps_stageFromActive
  case commit => exact keeps_commit
  case swapViews => exact keeps_swapViews
  case settingsWriteStaged => exact keeps_settingsWriteStaged
  case settingsWriteLive => exact keeps_settingsWriteLive
  case lockSession => exact keeps_lockSession
  case mailboxRelease => exact keeps_mailboxRelease
  case mailboxRedirect => exact keeps_mailboxRedirect
  case mailboxDeny => exact keeps_mailboxDeny
  case mailboxDataWrite => exact keeps_mailboxDataWrite
  case releasingSlotEntry => exact keeps_releasingSlotEntry
  case heartbeat => exact keeps_heartbeat
  case jobLoad => exact keeps_jobLoad
  case jobStart => exact keeps_jobStart
  case jobPause => exact keeps_jobPause
  case jobAbort => exact keeps_jobAbort
  case jobClear => exact keeps_jobClear
  case sealProgram => exact keeps_sealProgram
  case sealLock => exact keeps_sealLock
  case guardFuse => exact keeps_guardFuse
  case streamRead => exact keeps_streamRead
  case continuationTransaction => exact keeps_continuationTransaction
  case unknownCommand p code f => exact keeps_unknownCommand (f := f) code
  case completionPop => exact keeps_completionPop
  case eventRead => exact keeps_eventRead
  case eventPop => exact keeps_eventPop
  case entryStart => exact keeps_entryStart
  case entryRestart => exact keeps_entryRestart
  case suspendTaken => exact keeps_suspendTaken
  case runQuantumExpiry => exact keeps_runQuantumExpiry
  case holdDeadlineExpiry => exact keeps_holdDeadlineExpiry
  case trapDeadlineExpiry => exact keeps_trapDeadlineExpiry _
  case watchdogWarningPoint => exact keeps_watchdogWarningPoint
  case watchdogLapse => exact keeps_watchdogLapse
  case jobStepIssue => exact keeps_jobStepIssue
  case chunkRead => exact keeps_chunkRead
  case transactionBegin => exact ⟨_, rfl, kept_beginTransaction (kept_refl _ s)⟩
  case ignoredTransactionEnd => exact keeps_ignoredTransactionEnd
  case tick => exact keeps_tick
  case guardNChange => exact ⟨_, rfl, kept_of_held (kept_refl _ s) (by rfl)⟩
  all_goals exact keeps_quietRead

theorem kept_of_exec {i : Instr} {s t : State} (h : exec i s = .next t) : Kept (scopeOf i) s t := by
  obtain ⟨u, hu, hk⟩ := exec_kept i s
  rw [h] at hu
  cases hu
  exact kept_of_held hk (by rfl)

/-- An instant that begins only places commands (R17). -/
theorem held_nextInstant (s : State) : held (nextInstant s) = held s := by
  unfold nextInstant
  split
  · rfl
  · split <;> rfl

/-- Settles O5, by what every command keeps. -/
theorem memoriesStayCanonical : Obligations.MemoriesStayCanonical := by
  unfold Obligations.MemoriesStayCanonical
  intro s t hs h
  cases hp : s.pending with
  | nil =>
    rw [step_of_idle hp] at h
    cases h
    exact (kept_of_held (kept_refl ⟨True, fun _ => True⟩ s) (held_nextInstant s)).canonical hs
  | cons c rest =>
    rw [step_of_pending hp] at h
    exact (kept_of_exec h).canonical hs

/-- Settles O11, by what every command keeps. -/
theorem contentChangesOnlyAtCompletion : Obligations.ContentChangesOnlyAtCompletion := by
  unfold Obligations.ContentChangesOnlyAtCompletion
  intro i s t h hcompletion hpowerOn hpowerLoss hresetN
  exact (kept_of_exec h).content ⟨hcompletion, hpowerOn, hpowerLoss, hresetN⟩

/-! ### The read flags under a port's own fetch (R30) -/

/-- No flag goes from set to clear. -/
def FlagsRise (f g : ReadFlags) : Prop :=
  (f.masked = true → g.masked = true) ∧ (f.collided = true → g.collided = true)
    ∧ (f.suspendedRange = true → g.suspendedRange = true)

theorem flagsRise_of_eq {f g : ReadFlags} (h : g = f) : FlagsRise f g := by
  subst h
  exact ⟨id, id, id⟩

/-- The read flags with one more set (R30). -/
def faultFlags (f : ReadFlags) : ReadFault → ReadFlags
  | .masked => { f with masked := true }
  | .collided => { f with collided := true }
  | .suspendedRange => { f with suspendedRange := true }

theorem setReadFlag_eq (s : State) (p : Port) (r : ReadFault) : setReadFlag s p r
    = s.setPort p { s.port p with flags := faultFlags (s.port p).flags r } := by
  cases r <;> rfl

/-- A failed check sets its flag and leaves the others (R30). -/
theorem flagsRise_setReadFlag (s : State) (p : Port) (r : ReadFault) :
    FlagsRise (s.port p).flags ((setReadFlag s p r).port p).flags := by
  rw [setReadFlag_eq, port_setPort_same]
  cases r
  · exact ⟨fun _ => rfl, id, id⟩
  · exact ⟨id, fun _ => rfl, id⟩
  · exact ⟨id, id, fun _ => rfl⟩

/-- A byte's fetch leaves the state, or sets one flag of its port (R24, R30, R32). -/
theorem dataByte_flag (s : State) (p : Port) (tx : Tx) (r : ReadOp) :
    (dataByte s p tx r).2 = s ∨ ∃ fault, (dataByte s p tx r).2 = setReadFlag s p fault := by
  have array : ∀ field a, (arrayFetch s p field a).2 = s
      ∨ ∃ fault, (arrayFetch s p field a).2 = setReadFlag s p fault := by
    intro field a
    unfold arrayFetch
    split
    · split
      · exact .inl rfl
      · exact .inr ⟨_, rfl⟩
    · exact .inr ⟨.masked, rfl⟩
  cases r with
  | read a => exact array _ _
  | wrapRead a => exact array _ _
  | streamRead a c => exact array _ _
  | readSeal page offset =>
    simp only [dataByte]
    unfold sealFetch
    split
    · exact .inl rfl
    · exact .inr ⟨.masked, rfl⟩
  | _ => exact .inl rfl

theorem flagsRise_fetchByte (s : State) (p : Port) (r : ReadOp) :
    FlagsRise (s.port p).flags ((fetchByte s p r).port p).flags := by
  have hc : ((consumeDelivery s p).port p).flags = (s.port p).flags :=
    (kept_consumeDelivery (kept_refl ⟨True, fun _ => True⟩ s)).flags p trivial
  unfold fetchByte
  dsimp only
  split
  · rename_i tx _
    rw [port_setPort_same, ← hc]
    dsimp only
    obtain h | ⟨fault, h⟩ := dataByte_flag (consumeDelivery s p) p
      (chooseDelivery (consumeDelivery s p) p r tx) r <;> rw [h]
    · exact flagsRise_of_eq rfl
    · exact flagsRise_setReadFlag _ _ _
  · exact flagsRise_of_eq hc
  · exact flagsRise_of_eq hc

theorem flagsRise_dataByteFetch {p : Port} {w : List Byte} {s t : State}
    (h : exec (.dataByteFetch p w) s = .next t) : FlagsRise (s.port p).flags (t.port p).flags := by
  obtain ⟨u, hu, he | ⟨r, he⟩⟩ := execDataByteFetch_cases ⟨True, fun _ => True⟩ s p w
  · obtain rfl : driveIrq u = t := Host.Outcome.next.inj (he.symm.trans h)
    exact flagsRise_of_eq ((congrArg _ (port_driveIrq u p)).trans (hu.flags p trivial))
  · obtain rfl : driveIrq (fetchByte u p r) = t := Host.Outcome.next.inj (he.symm.trans h)
    rw [port_driveIrq, ← hu.flags p trivial]
    exact flagsRise_fetchByte u p r

/-- Settles O16: the port's own fetch only sets flags, and every other command of the statement leaves
them. -/
theorem readFlagsAreTheirPortsOwn : Obligations.ReadFlagsAreTheirPortsOwn := by
  unfold Obligations.ReadFlagsAreTheirPortsOwn
  intro i s t p h hpower hstatus hreset
  have hsame : (∀ w, i ≠ .dataByteFetch p w) → (t.port p).flags = (s.port p).flags :=
    fun hfetch => (kept_of_exec h).flags p ⟨hpower, hstatus, hreset, hfetch⟩
  have hrise : FlagsRise (s.port p).flags (t.port p).flags := by
    by_cases hfetch : ∃ w, i = .dataByteFetch p w
    · obtain ⟨w, rfl⟩ := hfetch
      exact flagsRise_dataByteFetch h
    · exact flagsRise_of_eq (hsame fun w hw => hfetch ⟨w, hw⟩)
  obtain ⟨hmasked, hcollided, hsuspended⟩ := hrise
  exact ⟨hmasked, hcollided, hsuspended, hsame⟩

end Sys2Proof.Machine

namespace Sys2Proof.Machine

/-! ## The bytes of the memory reads (R20 to R32) -/

/-! ### The fetch of a byte -/

/-- A byte put out by a read under way, with the port's read flags after it (R6, R30). -/
def byteOut (s : State) (p : Port) (tx : Tx) (flags : ReadFlags) (b : Byte) : State :=
  s.setPort p { s.port p with
    flags := flags
    driven := some (byteSignal tx.lane .dataOut b)
    sel := .opened { tx with fetched := tx.fetched + 1, phase := .data } }

section
variable {s : State} {p : Port} {tx : Tx} {r : ReadOp}

/-- A read without deliveries puts its byte out; a flag is set where the byte was a filler (R6, R24). -/
theorem fetchByte_undelivered (hs : (s.port p).sel = .opened tx) (hr : tx.readOp = some r)
    (hl : deliveryBytes r = none) {tx1 : Tx} (hc : chooseDelivery s p r tx = tx1) {b : Byte}
    {flags : ReadFlags}
    (hb : dataByte s p tx1 r = (b, s.setPort p { s.port p with flags := flags })) :
    fetchByte s p r = byteOut s p tx1 flags b := by
  have hk : consumeDelivery s p = s :=
    consumeDelivery_of_not_fetched hs hr fun len hlen _ => by rw [hl] at hlen; cases hlen
  unfold fetchByte
  rw [hk]
  simp only [hs, hc, hb, setPort_setPort, port_setPort_same]
  rfl

theorem exec_fetch_undelivered (hp : s.power = .active) (hs : (s.port p).sel = .opened tx)
    (hd : tx.dormant = false) (hr : tx.readOp = some r) (hl : deliveryBytes r = none) {tx1 : Tx}
    (hc : chooseDelivery s p r tx = tx1) {b : Byte} {flags : ReadFlags}
    (hb : dataByte s p tx1 r = (b, s.setPort p { s.port p with flags := flags })) (w : List Byte) :
    exec (.dataByteFetch p w) s = .next (driveIrq (byteOut s p tx1 flags b)) := by
  rw [exec_nextFetch hp hs hd hr, fetchByte_undelivered hs hr hl hc hb, finish]

theorem exec_fetch_passed (hp : s.power = .active) (hs : (s.port p).sel = .opened tx)
    (hd : tx.dormant = false) (hr : tx.readOp = some r) (hl : deliveryBytes r = none)
    (hc : chooseDelivery s p r tx = tx) {b : Byte} (hb : dataByte s p tx r = (b, s)) (w : List Byte) :
    exec (.dataByteFetch p w) s = .next (driveIrq (byteOut s p tx (s.port p).flags b)) :=
  exec_fetch_undelivered hp hs hd hr hl hc (hb.trans (by rw [setPort_port_self])) w

theorem exec_fetch_failed (hp : s.power = .active) (hs : (s.port p).sel = .opened tx)
    (hd : tx.dormant = false) (hr : tx.readOp = some r) (hl : deliveryBytes r = none)
    (hc : chooseDelivery s p r tx = tx) {fault : ReadFault}
    (hb : dataByte s p tx r = (fillerByte s, setReadFlag s p fault)) (w : List Byte) :
    exec (.dataByteFetch p w) s = .next (driveIrq (byteOut s p tx
      (faultFlags (s.port p).flags fault) s.activeImage.settings.filler)) :=
  exec_fetch_undelivered hp hs hd hr hl hc (hb.trans (by rw [setReadFlag_eq, fillerByte])) w

/-! ### Bytes of the array -/

/-- A read with an address delivers no records, and its byte is the array's at that address (R21, R22). -/
theorem dataByte_of_readAddress {field : Word} {a : Nat}
    (ha : readAddress tx.wrap tx.fetched r = some (field, a)) :
    deliveryBytes r = none ∧ chooseDelivery s p r tx = tx
      ∧ dataByte s p tx r = arrayFetch s p field a := by
  cases r <;> simp only [readAddress, Option.some.injEq, Prod.mk.injEq, reduceCtorEq] at ha <;>
    obtain ⟨rfl, rfl⟩ := ha <;> exact ⟨rfl, rfl, rfl⟩

theorem exec_arrayFetch_passed (hp : s.power = .active) (hs : (s.port p).sel = .opened tx)
    (hd : tx.dormant = false) (hr : tx.readOp = some r) {field : Word} {a phys : Nat}
    (ha : readAddress tx.wrap tx.fetched r = some (field, a)) (hf : field.toNat < 0x2000000)
    (hc : readCheck s p a = .ok phys) (w : List Byte) :
    exec (.dataByteFetch p w) s
      = .next (driveIrq (byteOut s p tx (s.port p).flags (memRead s.array phys))) := by
  obtain ⟨hl, hch, hb⟩ := dataByte_of_readAddress (s := s) (p := p) ha
  have hin : addressInSpace field = true := decide_eq_true hf
  exact exec_fetch_passed hp hs hd hr hl hch (hb.trans (by rw [arrayFetch, if_pos hin, hc])) w

theorem exec_arrayFetch_failed (hp : s.power = .active) (hs : (s.port p).sel = .opened tx)
    (hd : tx.dormant = false) (hr : tx.readOp = some r) {field : Word} {a : Nat} {fault : ReadFault}
    (ha : readAddress tx.wrap tx.fetched r = some (field, a)) (hf : field.toNat < 0x2000000)
    (hc : readCheck s p a = .error fault) (w : List Byte) :
    exec (.dataByteFetch p w) s = .next (driveIrq (byteOut s p tx
      (faultFlags (s.port p).flags fault) s.activeImage.settings.filler)) := by
  obtain ⟨hl, hch, hb⟩ := dataByte_of_readAddress (s := s) (p := p) ha
  have hin : addressInSpace field = true := decide_eq_true hf
  exact exec_fetch_failed hp hs hd hr hl hch (hb.trans (by rw [arrayFetch, if_pos hin, hc])) w

/-- Steps 1 and 2 of R24 pass with a physical address: the address itself on Port M, the translation in
a partition with a read right on Port A. -/
def ReadableAt (s : State) (p : Port) (a phys : Nat) : Prop :=
  p = .m ∧ phys = a ∨ p = .a ∧ ∃ j, translate s.activeImage a = some (j, phys)
    ∧ s.activeImage.entries[j].aRights ≠ 0

theorem readCheck_of_readable {a phys : Nat} (h : ReadableAt s p a phys) :
    readCheck s p a = rangeCheck s phys := by
  obtain ⟨rfl, rfl⟩ | ⟨rfl, j, ht, hr⟩ := h
  · rfl
  · simp only [readCheck, ht, if_neg hr]

theorem readCheck_of_unmapped {a : Nat} (h : translate s.activeImage a = none) :
    readCheck s .a a = .error .masked := by
  simp only [readCheck, h]

theorem readCheck_of_no_right {a phys : Nat} {j : Fin 16}
    (h : translate s.activeImage a = some (j, phys)) (hr : s.activeImage.entries[j].aRights = 0) :
    readCheck s .a a = .error .masked := by
  simp only [readCheck, h, if_pos hr]

theorem rangeCheck_passed {phys : Nat} (hm : meetsSuspended s phys 1 = false)
    (hb : bankBusyAt s phys = false) : rangeCheck s phys = .ok phys := by
  simp [rangeCheck, hm, hb]

theorem rangeCheck_suspended {phys : Nat} (hm : meetsSuspended s phys 1 = true) :
    rangeCheck s phys = .error .suspendedRange := if_pos hm

theorem rangeCheck_collided {phys : Nat} (hm : meetsSuspended s phys 1 = false)
    (hb : bankBusyAt s phys = true) : rangeCheck s phys = .error .collided := by
  simp [rangeCheck, hm, hb]

end

/-- The address of the n-th byte within an aligned group (R22). -/
theorem wrapAddress_eq (a w n : Nat) : wrapAddress a w n = a - a % w + (a - (a - a % w) + n) % w := by
  have h : a - (a - a % w) = a % w := by have := Nat.mod_le a w; omega
  rw [wrapAddress, h]

theorem isArrayKind_iff (k : Kind) :
    isArrayKind k = true ↔ k = .pageProgram ∨ k = .sectorErase ∨ k = .blockErase := by
  cases k <;> decide

theorem busyBank_eq_some_iff (s : State) (bank : Nat) : busyBank s = some bank ↔ ∃ e base l,
    activeEntry s = some e ∧ isArrayKind e.kind = true ∧ e.target = .array base l
      ∧ base / Config.bankBytes = bank := by
  constructor
  · intro h
    unfold busyBank at h
    split at h
    next e he =>
      split at h
      next base l ht =>
        obtain ⟨hk, hb⟩ := Option.ite_none_right_eq_some.mp h
        exact ⟨e, base, l, he, hk, ht, Option.some.inj hb⟩
      all_goals cases h
    next => cases h
  · rintro ⟨e, base, l, he, hk, ht, rfl⟩
    simp only [busyBank, he, ht, if_pos hk]

/-- The busy bank is that of the ACTIVE program or erase (R27). -/
theorem bankBusyAt_iff (s : State) (a : Nat) : bankBusyAt s a = true ↔ ∃ e base l,
    activeEntry s = some e ∧ (e.kind = .pageProgram ∨ e.kind = .sectorErase ∨ e.kind = .blockErase)
      ∧ e.target = .array base l ∧ base / 0x1000000 = a / 0x1000000 := by
  simp only [bankBusyAt, beq_iff_eq, busyBank_eq_some_iff, isArrayKind_iff, Config.bankBytes]

/-- Two ranges meet where they share an address (R74). -/
theorem rangesMeet_iff (b1 l1 b2 l2 : Nat) : rangesMeet b1 l1 b2 l2 = true
    ↔ ∃ n, b2 ≤ n ∧ n < b2 + l2 ∧ b1 ≤ n ∧ n < b1 + l1 := by
  rw [rangesMeet, decide_eq_true_iff]
  constructor
  · intro h
    exact ⟨max b1 b2, by omega, by omega, by omega, by omega⟩
  · rintro ⟨n, h1, h2, h3, h4⟩
    omega

/-- The suspended range is that of the SUSPENDED entry (R28). -/
theorem meetsSuspended_iff (s : State) (a len : Nat) : meetsSuspended s a len = true ↔ ∃ e base l,
    suspendedEntry s = some e ∧ e.target = .array base l
      ∧ ∃ n, a ≤ n ∧ n < a + len ∧ base ≤ n ∧ n < base + l := by
  constructor
  · intro h
    unfold meetsSuspended at h
    split at h
    next e he =>
      cases ht : e.target with
      | array base l =>
        rw [ht, targetsOverlap, rangesMeet_iff] at h
        exact ⟨e, base, l, he, ht, h⟩
      | nothing | sealPage => simp [ht, targetsOverlap] at h
    next => cases h
  · rintro ⟨e, base, l, he, ht, h⟩
    simp only [meetsSuspended, he, ht, targetsOverlap]
    exact (rangesMeet_iff _ _ _ _).mpr h

/-- Settles O23: the checks of R24 in their order decide whether a byte is the array's or the filler. -/
theorem arrayByte : Obligations.ArrayByte := by
  unfold Obligations.ArrayByte
  refine ⟨fun s p tx w r field a phys hp hs hd hr ha hf hread hm hb => ?_,
    fun s p tx w r field a hp hs hd hr ha hf => ?_, fun field cont wrap n => ?_,
    fun s a len => ⟨bankBusyAt_iff s a, meetsSuspended_iff s a len⟩⟩
  · exact exec_arrayFetch_passed hp hs hd hr ha hf
      ((readCheck_of_readable hread).trans (rangeCheck_passed hm hb)) w
  · have fails : ∀ {fault}, readCheck s p a = .error fault → exec (.dataByteFetch p w) s
        = .next (driveIrq (byteOut s p tx (faultFlags (s.port p).flags fault)
          s.activeImage.settings.filler)) :=
      fun hc => exec_arrayFetch_failed hp hs hd hr ha hf hc w
    refine ⟨fun hpa ht => ?_, fun j phys hpa ht hright => ?_, fun phys hread =>
      ⟨fun hm => ?_, fun hm hb => ?_⟩⟩
    · subst hpa
      exact fails (readCheck_of_unmapped ht)
    · subst hpa
      exact fails (readCheck_of_no_right ht hright)
    · exact fails ((readCheck_of_readable hread).trans (rangeCheck_suspended hm))
    · exact fails ((readCheck_of_readable hread).trans (rangeCheck_collided hm hb))
  · refine ⟨rfl, rfl, ?_⟩
    cases wrap <;> exact congrArg (fun x => some (field, x)) (wrapAddress_eq _ _ n)

/-! ### Addresses outside the array (R20) -/

/-- Bits 31 to 25 are those above the array's addresses. -/
theorem high_bits_eq_zero_iff (field : Word) :
    field.extractLsb' 25 7 = 0 ↔ field.toNat < 0x2000000 := by
  have hlt := field.isLt
  rw [← BitVec.toNat_inj]
  simp only [BitVec.extractLsb'_toNat, BitVec.ofNat_eq_ofNat, BitVec.toNat_zero,
    Nat.shiftRight_eq_div_pow]
  omega

/-- A memory read with a high address bit delivers the filler, and MASKED is set (R20). -/
theorem exec_arrayFetch_outside {s : State} {p : Port} {tx : Tx} {r : ReadOp} {field : Word} {a : Nat}
    (hp : s.power = .active) (hs : (s.port p).sel = .opened tx) (hd : tx.dormant = false)
    (hr : tx.readOp = some r) (ha : readAddress tx.wrap tx.fetched r = some (field, a))
    (hf : field.extractLsb' 25 7 ≠ 0) (w : List Byte) :
    exec (.dataByteFetch p w) s = .next (driveIrq (byteOut s p tx
      (faultFlags (s.port p).flags .masked) s.activeImage.settings.filler)) := by
  obtain ⟨hl, hch, hb⟩ := dataByte_of_readAddress (s := s) (p := p) ha
  have hout : ¬ addressInSpace field = true := fun h =>
    hf ((high_bits_eq_zero_iff field).mpr (of_decide_eq_true h))
  exact exec_fetch_failed hp hs hd hr hl hch (hb.trans (by rw [arrayFetch, if_neg hout])) w

/-- The high bits of an address field stand in its first byte (00_scope section 4.5). -/
theorem high_bits_be32 (b : Byte) (bs : List Byte) :
    (be32 (b :: bs) 0).extractLsb' 25 7 = b.extractLsb' 1 7 := by
  ext i hi
  have hb : byteAt (b :: bs) 0 = b := rfl
  simp only [be32, be16, hb, BitVec.getElem_extractLsb', BitVec.getLsbD_append]
  rw [if_neg (by omega), if_neg (by omega)]
  congr 1
  omega

/-- An address that begins with an address lead is one of the array (R13, R20). -/
theorem high_bits_of_lead {b : Byte} (h : isAddressLead b = true) (bs : List Byte) :
    (be32 (b :: bs) 0).extractLsb' 25 7 = 0 := by
  rw [high_bits_be32]
  simp only [isAddressLead, Bool.or_eq_true, beq_iff_eq] at h
  obtain rfl | rfl := h <;> rfl

/-- No read with a command byte is a continuation transaction (R5, R13). -/
theorem readOpOf_ne_continuation (c : Command) (bs : List Byte) (field : Word) :
    readOpOf c bs ≠ some (.streamRead field true) := by
  cases c <;> simp [readOpOf]

/-- The read of a continuation transaction has its address from a lead byte on (R13). -/
theorem lead_of_decodeRead {p : Port} {cont : Bool} {w : List Byte} {field : Word}
    (h : decodeRead p cont w = some (.streamRead field true)) :
    ∃ b bs, isAddressLead b = true ∧ field = be32 (b :: bs) 0 := by
  unfold decodeRead at h
  split at h
  next => cases h
  next fr hfr =>
    split at h
    · cases h
    · split at h
      next hcont =>
        cases w with
        | nil => cases hfr
        | cons b bs =>
          simp only [framing] at hfr
          split at hfr
          next hlead =>
            cases hfr
            cases h
            exact ⟨b, bs, (Bool.and_eq_true_iff.mp hlead).2, rfl⟩
          next =>
            obtain ⟨c, -, rfl⟩ := Option.map_eq_some_iff.mp hfr
            cases hcont
      next => exact absurd h (readOpOf_ne_continuation _ _ _)

/-- The first byte of a read comes from the address of the field (R21, R22). -/
theorem readAddress_zero (field : Word) (wrap : WrapLen) (h : field.toNat < 0x2000000) :
    readAddress wrap 0 (.read field) = some (field, field.toNat)
      ∧ readAddress wrap 0 (.wrapRead field) = some (field, field.toNat)
      ∧ readAddress wrap 0 (.streamRead field false) = some (field, field.toNat) := by
  have hseq : sequentialAddress field.toNat 0 = field.toNat := Nat.mod_eq_of_lt h
  have hwrap : ∀ width, wrapAddress field.toNat width 0 = field.toNat := fun width => by
    rw [wrapAddress, Nat.add_zero, Nat.mod_mod, Nat.sub_add_cancel (Nat.mod_le _ _)]
  simp only [readAddress, hseq, hwrap, and_self]

/-- Settles O24: a high address bit fails the first check of a read, whatever follows it. -/
theorem addressOutsideTheArray : Obligations.AddressOutsideTheArray := by
  unfold Obligations.AddressOutsideTheArray
  refine ⟨fun s p tx w r field a hp hs hd hr ha hf => exec_arrayFetch_outside hp hs hd hr ha hf w,
    fun field => (high_bits_eq_zero_iff field).trans Nat.lt_succ_iff, fun field wrap hf =>
      readAddress_zero field wrap (Nat.lt_succ_of_le hf), fun p w field h => ?_⟩
  obtain ⟨b, bs, hb, rfl⟩ := lead_of_decodeRead h
  exact high_bits_of_lead hb bs

end Sys2Proof.Machine

namespace Sys2Proof.Machine

/-! ## READ_SEAL and the records of the status reads (R32, R62, R97, R98, R119, R133, R149 to R151, R170) -/

/-! ### Their fetches -/

section
variable {s : State} {p : Port} {tx : Tx}

theorem sealFetch_of_page {page : Byte} (h : page.toNat ≤ 2) (offset : Half) (n : Nat) :
    sealFetch s p page offset n
      = (memRead s.sealStore (page.toNat * 512 + (offset.toNat + n) % 512), s) := by
  have hp : page.toNat < Config.sealPages := Nat.lt_succ_of_le h
  rw [sealFetch, if_pos hp, Config.sealPageBytes, Nat.mod_add_mod]

theorem sealFetch_of_no_page {page : Byte} (h : 3 ≤ page.toNat) (offset : Half) (n : Nat) :
    sealFetch s p page offset n = (fillerByte s, setReadFlag s p .masked) := by
  have hp : ¬ page.toNat < Config.sealPages := Nat.not_lt.mpr h
  rw [sealFetch, if_neg hp]

theorem slotRecord_length (sl : MailSlot) : (slotRecord sl).length = 18 := by
  unfold slotRecord
  split <;> rfl

theorem mailboxRecord_length (s : State) (field : Byte) : (mailboxRecord s field).length = 18 := by
  unfold mailboxRecord
  split
  · exact slotRecord_length _
  · rfl

theorem descriptorRecord_length (d : Descriptor) : (descriptorRecord d).length = 25 := by
  unfold descriptorRecord
  split <;> rfl

theorem jobRecord_length (s : State) (index : Byte) : (jobRecord s index).length = 25 := by
  unfold jobRecord
  split
  · exact descriptorRecord_length _
  · rfl

/-- The bytes of a port's status record (R149). -/
def statusLength : Port → Nat
  | .a => 8
  | .m => 18

theorem statusRecord_length (s : State) (p : Port) (cont : Bool) :
    (statusRecord s p cont).length = statusLength p := by
  cases p <;> rfl

/-- A read of one fixed record repeats the record as it stands at the fetch (R62, R97, R119, R133, R170). -/
theorem dataByte_of_fixedRecord {r : ReadOp} {rec : List Byte} (h : fixedRecord s r = some rec) :
    deliveryBytes r = none ∧ chooseDelivery s p r tx = tx
      ∧ dataByte s p tx r = (byteAt rec (tx.fetched % rec.length), s) := by
  cases r with
  | identify =>
    obtain rfl := Option.some.inj h
    exact ⟨rfl, rfl, rfl⟩
  | table field =>
    obtain rfl := Option.some.inj h
    exact ⟨rfl, rfl, rfl⟩
  | settings selector =>
    obtain rfl := Option.some.inj h
    exact ⟨rfl, rfl, rfl⟩
  | mailbox field =>
    obtain rfl := Option.some.inj h
    exact ⟨rfl, rfl, by rw [mailboxRecord_length]; rfl⟩
  | job index =>
    obtain rfl := Option.some.inj h
    exact ⟨rfl, rfl, by rw [jobRecord_length]; rfl⟩
  | _ => cases h

/-- Byte 0 of a status record ends the note of a loss (R152). -/
theorem chooseDelivery_portStatus (s : State) (p : Port) (selector : Byte) (tx : Tx) :
    chooseDelivery s p (.portStatus selector) tx = { tx with
      lostSince := tx.lostSince && decide (tx.fetched % statusLength p ≠ 0) } := by
  rw [← statusRecord_length s p tx.contArmed]
  by_cases h : tx.fetched % (statusRecord s p tx.contArmed).length = 0
  · refine (if_pos h).trans ?_
    simp [h]
  · refine (if_neg h).trans ?_
    simp [h]

theorem dataByte_portStatus (s : State) (p : Port) (selector : Byte) (tx : Tx) :
    dataByte s p tx (.portStatus selector)
      = (byteAt (statusRecord s p tx.contArmed) (tx.fetched % statusLength p), s) := by
  rw [← statusRecord_length s p tx.contArmed]
  rfl

end

/-! ### Fields of a byte -/

/-- The eight flags of a byte, bit 0 first. -/
theorem bits_of_eight_flags : ∀ a b c d e f g h : Bool,
    (List.range 8).map (BitVec.ofNat 8 (bit a + 2 * bit b + 4 * bit c + 8 * bit d + 16 * bit e
      + 32 * bit f + 64 * bit g + 128 * bit h)).getLsbD = [a, b, c, d, e, f, g, h] := by decide

theorem bits_of_three_flags (a b c : Bool) :
    (List.range 8).map (BitVec.ofNat 8 (bit a + 2 * bit b + 4 * bit c)).getLsbD
      = [a, b, c, false, false, false, false, false] :=
  bits_of_eight_flags a b c false false false false false

theorem bits_of_four_flags (a b c d : Bool) :
    (List.range 8).map (BitVec.ofNat 8 (bit a + 2 * bit b + 4 * bit c + 8 * bit d)).getLsbD
      = [a, b, c, d, false, false, false, false] :=
  bits_of_eight_flags a b c d false false false false

/-- A field of a byte, as a number. -/
theorem toNat_field (n start len : Nat) :
    ((BitVec.ofNat 8 n).extractLsb' start len).toNat = n % 256 / 2 ^ start % 2 ^ len := by
  rw [BitVec.extractLsb'_toNat, BitVec.toNat_ofNat, Nat.shiftRight_eq_div_pow]

/-- A bit of a byte, as a number. -/
theorem getLsbD_ofNat_iff (n i : Nat) (b : Bool) (hi : i < 8) :
    (BitVec.ofNat 8 n).getLsbD i = b ↔ n / 2 ^ i % 2 = bit b := by
  rw [BitVec.getLsbD_ofNat, decide_eq_true hi, Bool.true_and, Nat.testBit_eq_decide_div_mod_eq]
  cases b <;> simp [bit]

theorem bit_le_one (b : Bool) : bit b ≤ 1 := by cases b <;> decide

end Sys2Proof.Machine

namespace Sys2Proof.Machine

/-! ### The status record (R150, R151) -/

theorem isSome_activeEntry (s : State) :
    (activeEntry s).isSome = s.queue.any fun e => e.state = .active := List.isSome_find?

theorem isSome_suspendedEntry (s : State) :
    (suspendedEntry s).isSome = s.queue.any fun e => e.state = .suspended := List.isSome_find?

theorem bits_statusByte0 (s : State) (p : Port) (cont : Bool) :
    (List.range 8).map (statusByte0 s p cont).getLsbD
      = [(s.port p).wel, cont, s.watchdog.state = .lapsed, s.queue.any fun e => e.state = .active,
        s.queue.any fun e => e.state = .suspended, (s.port p).completionLost,
        (s.port p).refusalNew, p = .m && s.dirty] := by
  rw [← isSome_activeEntry, ← isSome_suspendedEntry]
  exact bits_of_eight_flags _ _ _ _ _ _ _ _

theorem bits_statusByte1 (s : State) (p : Port) :
    (List.range 8).map (statusByte1 s p).getLsbD
      = [(s.port p).flags.masked, (s.port p).flags.collided, (s.port p).flags.suspendedRange, false,
        false, false, false, false] := bits_of_three_flags _ _ _

/-- The mailbox slots of Port A that hold a request (R50, R150). -/
theorem heldCount_eq (s : State) (p : Port) : heldCount s p
    = (if p = .a ∧ s.slot0.state ≠ .empty then 1 else 0)
      + if p = .a ∧ s.slot1.state ≠ .empty then 1 else 0 := by
  cases p <;> simp [heldCount, slotFilled, bit]

theorem heldCount_le_two (s : State) (p : Port) : heldCount s p ≤ 2 := by
  rw [heldCount_eq]
  split <;> split <;> decide

theorem outstanding_le_four {s : State} (h : WithinCapacity s) (p : Port) : outstanding s p ≤ 4 := by
  cases p
  · exact h.2.1
  · exact h.2.2.1

theorem fields_statusByte4 {s : State} (h : WithinCapacity s) (p : Port) :
    ((statusByte4 s p).extractLsb' 0 4).toNat = outstanding s p
      ∧ ((statusByte4 s p).extractLsb' 4 4).toNat = heldCount s p := by
  have ho := outstanding_le_four h p
  have hh := heldCount_le_two s p
  simp only [statusByte4, toNat_field]
  omega

/-- A count that a byte has room for. -/
theorem toNat_count {n : Nat} (h : n ≤ 16) : (BitVec.ofNat 8 n).toNat = n := by
  rw [BitVec.toNat_ofNat]
  omega

theorem fifo_le_eight {s : State} (h : WithinCapacity s) (p : Port) : (s.port p).fifo.length ≤ 8 := by
  obtain ⟨-, -, -, -, ha, hm, -, -⟩ := h
  cases p
  · exact ha
  · exact hm

theorem laneCode_le (l : LaneMode) : laneCode l ≤ 2 := by cases l <;> decide
theorem wrapCode_le (w : WrapLen) : wrapCode w ≤ 3 := by cases w <;> decide
theorem watchCode_le (w : WatchState) : watchCode w ≤ 2 := by cases w <;> decide
theorem slotClassCode_le (c : SlotClass) : slotClassCode c ≤ 2 := by cases c <;> decide
theorem engineCode_le (e : EngineState) : engineCode e ≤ 5 := by cases e <;> decide
theorem baseModeCode_le (m : BaseMode) : baseModeCode m ≤ 2 := by cases m <;> decide
theorem originCode_le (o : Origin) : (originCode o).toNat ≤ 3 := by cases o <;> decide
theorem kindCode_le (k : Kind) : (kindCode k).toNat ≤ 7 := by cases k <;> decide

theorem fields_statusByte6 (s : State) (p : Port) :
    ((statusByte6 s p).extractLsb' 6 2).toNat = laneCode (s.port p).lane
      ∧ ((statusByte6 s p).extractLsb' 4 2).toNat = wrapCode (s.port p).wrap
      ∧ (statusByte6 s p).extractLsb' 0 4 = (s.port p).wait := by
  have hl := laneCode_le (s.port p).lane
  have hw := wrapCode_le (s.port p).wrap
  have hn := (s.port p).wait.isLt
  rw [← BitVec.toNat_inj]
  simp only [statusByte6, toNat_field]
  omega

theorem fields_statusByte8 (s : State) :
    ((statusByte8 s).extractLsb' 0 2).toNat = baseModeCode (baseMode s)
      ∧ (List.range' 2 6).map (statusByte8 s).getLsbD
        = [s.sessionLock, s.guardN, barrierPending s, false, false, false] := by
  have hc := baseModeCode_le (baseMode s)
  have hl := bit_le_one s.sessionLock
  have hg := bit_le_one s.guardN
  have hb := bit_le_one (barrierPending s)
  have hf : bit false = 0 := rfl
  refine ⟨?_, ?_⟩
  · simp only [statusByte8, toNat_field]
    omega
  · simp only [List.range', List.map_cons, List.map_nil, List.cons.injEq, and_true, statusByte8]
    refine ⟨?_, ?_, ?_, ?_, ?_, ?_⟩ <;> rw [getLsbD_ofNat_iff _ _ _ (by decide)] <;> omega

theorem fields_statusByte9 (s : State) :
    ((statusByte9 s).extractLsb' 0 2).toNat = watchCode s.watchdog.state
      ∧ (statusByte9 s).getLsbD 2 = s.watchdog.warn
      ∧ ((statusByte9 s).extractLsb' 3 2).toNat = slotClassCode s.class0
      ∧ ((statusByte9 s).extractLsb' 5 2).toNat = slotClassCode s.class1
      ∧ (statusByte9 s).getLsbD 7 = false := by
  have hc := watchCode_le s.watchdog.state
  have hw := bit_le_one s.watchdog.warn
  have h0 := slotClassCode_le s.class0
  have h1 := slotClassCode_le s.class1
  have hf : bit false = 0 := rfl
  simp only [statusByte9, toNat_field, getLsbD_ofNat_iff _ 2 _ (by decide : 2 < 8),
    getLsbD_ofNat_iff _ 7 _ (by decide : 7 < 8)]
  omega

theorem fields_statusByte10 {s : State} (h : WithinCapacity s) :
    ((statusByte10 s).extractLsb' 5 3).toNat = engineCode s.engine
      ∧ (statusByte10 s).getLsbD 4 = s.jobAttn
      ∧ ((statusByte10 s).extractLsb' 0 4).toNat = s.jobs.length := by
  have hj : s.jobs.length ≤ 8 := h.2.2.2.2.2.2.2
  have he := engineCode_le s.engine
  have ha := bit_le_one s.jobAttn
  simp only [statusByte10, toNat_field, getLsbD_ofNat_iff _ 4 _ (by decide : 4 < 8)]
  omega

theorem fields_statusByte15 (s : State) :
    (∀ e, activeEntry s = some e →
        ((statusByte15 s).extractLsb' 3 5).toNat = (originCode e.origin).toNat
          ∧ (statusByte15 s).extractLsb' 0 3 = (kindCode e.kind).setWidth 3)
      ∧ (activeEntry s = none → statusByte15 s = 0) := by
  refine ⟨fun e he => ?_, fun he => by simp only [statusByte15, he]⟩
  have ho := originCode_le e.origin
  have hk := kindCode_le e.kind
  rw [← BitVec.toNat_inj, BitVec.toNat_setWidth]
  simp only [statusByte15, he, toNat_field]
  omega

/-- Two halves put together, the most significant first (00_scope section 4.5). -/
theorem append_extract_low (g : Word) :
    (g.extractLsb' 8 8 ++ g.extractLsb' 0 8 : Half) = g.setWidth 16 := by
  ext i hi
  simp only [BitVec.getElem_append, BitVec.getElem_extractLsb', BitVec.getElem_setWidth]
  split <;> congr 1 <;> omega

/-! ### The records of a slot, of a job and of the configuration (R62, R97, R119, R133) -/

/-- The bytes of a slot that is not EMPTY (R97). -/
theorem bytes_slotRecord {sl : MailSlot} (h : sl.state ≠ .empty) :
    let r := slotRecord sl
    (byteAt r 0).toNat = (if sl.state = .held then 1 else 2)
      ∧ byteAt r 1 = sl.tag ∧ byteAt r 2 = kindCode sl.kind ∧ byteAt r 3 = BitVec.ofNat 8 sl.entry
      ∧ be32 r 4 = BitVec.ofNat 32 sl.logical ∧ be32 r 8 = BitVec.ofNat 32 sl.physical
      ∧ be16 r 12 = remainingField sl.deadline
      ∧ (byteAt r 14).toNat = (if sl.release then 1 else 0)
      ∧ be16 r 15 = BitVec.ofNat 16 sl.count
      ∧ (List.range 8).map (byteAt r 17).getLsbD
        = [sl.redirected, sl.auto, false, false, false, false, false, false] := by
  rw [slotRecord, if_neg h]
  refine ⟨?_, rfl, rfl, rfl, be32_bytes32 (addressWord sl.logical) [],
    be32_bytes32 (addressWord sl.physical) [], be16_bytes16 (remainingField sl.deadline) [], ?_,
    be16_bytes16 (BitVec.ofNat 16 sl.count) [], bits_of_two_flags sl.redirected sl.auto⟩
  · change (slotStateCode sl.state).toNat = _
    cases hs : sl.state with
    | empty => exact absurd hs h
    | held => rfl
    | releasing => rfl
  · change (BitVec.ofNat 8 (bit sl.release)).toNat = _
    cases sl.release <;> rfl

/-- The bytes of a descriptor (R119). -/
theorem bytes_descriptorRecord (d : Descriptor) :
    let r := descriptorRecord d
    byteAt r 0 = d.id ∧ byteAt r 1 = jobStateCode d.state ∧ byteAt r 2 = jobKindCode d.kind
      ∧ be32 r 3 = BitVec.ofNat 32 d.bytesDone
      ∧ (List.range 8).map (byteAt r 7).getLsbD
        = [d.digest.isSome, d.mismatches.isSome, d.firstMismatch.isSome, d.fault.isSome, false,
          false, false, false]
      ∧ be32 r 8 = d.digest.getD 0 ∧ be32 r 12 = d.mismatches.getD 0
      ∧ be32 r 16 = BitVec.ofNat 32 (d.firstMismatch.getD 0)
      ∧ (d.fault = none → byteAt r 20 = 0 ∧ be32 r 21 = 0)
      ∧ ∀ code a, d.fault = some (code, a) →
        be32 r 21 = BitVec.ofNat 32 a ∧ byteAt r 20 = jobFaultCode code := by
  refine ⟨rfl, rfl, rfl, be32_bytes32 (addressWord d.bytesDone) [], bits_of_four_flags _ _ _ _,
    be32_bytes32 (d.digest.getD 0) [], be32_bytes32 (d.mismatches.getD 0) [],
    be32_bytes32 (addressWord (d.firstMismatch.getD 0)) [], fun h => ?_, fun code a h => ?_⟩
  · rw [descriptorRecord, h]
    exact ⟨rfl, be32_bytes32 0 []⟩
  · rw [descriptorRecord, h]
    exact ⟨be32_bytes32 (addressWord a) [], rfl⟩

/-- The bytes of a table entry (chapter 4.1). -/
theorem bytes_entryBytes (e : PartEntry) :
    let r := entryBytes e
    byteAt r 0 = e.flags ∧ be16 r 1 = e.physBase ∧ be16 r 3 = e.length ∧ be16 r 5 = e.viewBase
      ∧ byteAt r 7 = e.aRights ∧ byteAt r 8 = e.mRights ∧ byteAt r 9 = e.trapPolicy
      ∧ byteAt r 10 = e.defaultAction ∧ byteAt r 11 = e.aliasIndex :=
  ⟨rfl, be16_bytes16 e.physBase [], be16_bytes16 e.length [], be16_bytes16 e.viewBase [],
    rfl, rfl, rfl, rfl, rfl⟩

/-- TABLE_READ's index is the low nibble of its field (R62). -/
theorem toFin_of_low_nibble {field : Byte} {i : Fin 16}
    (h : (field.extractLsb' 0 4).toNat = i.val) : (field.setWidth 4 : BitVec 4).toFin = i := by
  apply Fin.ext
  rw [← h, BitVec.extractLsb'_toNat, Nat.shiftRight_zero]
  exact BitVec.toNat_setWidth 4 field

/-- The entry and the image that TABLE_READ's field selects (R62). -/
theorem tableRecord_eq {s : State} {field : Byte} {i : Fin 16}
    (h : (field.extractLsb' 0 4).toNat = i.val) : tableRecord s field
      = entryBytes (if field.getLsbD 7 then s.stagingImage else s.activeImage).entries[i] := by
  obtain rfl := toFin_of_low_nibble h
  rfl

/-- A slot field of 2 or above names no slot, and an EMPTY slot shows zeros (R97). -/
theorem mailboxRecord_of_none {s : State} {field : Byte}
    (h : 2 ≤ field.toNat ∨ ∃ slot, slotOfField field = some slot ∧ (s.slot slot).state = .empty) :
    mailboxRecord s field = List.replicate 18 0 := by
  obtain h | ⟨slot, hslot, hempty⟩ := h
  · rw [mailboxRecord, slotOfField_eq_none h]
  · rw [mailboxRecord, hslot]
    exact if_pos hempty

/-- A byte of a HELD program's buffer (R98). -/
theorem mailboxDataByte_of_held {s : State} {field offset : Byte} {n : Nat} {slot : SlotId}
    {i : Fin 6} {b : PageBuf} (hslot : slotOfField field = some slot)
    (hstate : (s.slot slot).state = .held) (hkind : (s.slot slot).kind = .pageProgram)
    (hbuffer : (s.slot slot).buffer = some i) (hpool : s.pool[i] = some b) :
    mailboxDataByte s field offset n = memRead b.data ((offset.toNat + n) % 256) := by
  simp only [mailboxDataByte, hslot, hstate, hkind, hbuffer, bufferData, hpool, and_self, if_true]

theorem mailboxDataByte_of_none {s : State} {field offset : Byte} {n : Nat}
    (h : 2 ≤ field.toNat ∨ ∃ slot, slotOfField field = some slot
      ∧ ((s.slot slot).state ≠ .held ∨ (s.slot slot).kind ≠ .pageProgram)) :
    mailboxDataByte s field offset n = 0 := by
  obtain h | ⟨slot, hslot, hno⟩ := h
  · rw [mailboxDataByte, slotOfField_eq_none h]
  · rw [mailboxDataByte, hslot]
    exact if_neg fun ⟨hstate, hkind⟩ => hno.elim (· hstate) (· hkind)

theorem jobRecord_of_none {s : State} {index : Byte} (h : s.jobs.length ≤ index.toNat) :
    jobRecord s index = List.replicate 25 0 := by
  rw [jobRecord, List.getElem?_eq_none h]

theorem jobStateCode_toNat (st : JobState) : (jobStateCode st).toNat = (match st with
    | .loaded => 0 | .running => 1 | .done => 2 | .faulted => 3 | .cancelled => 4) := by
  cases st <;> rfl

theorem jobKindCode_toNat (k : JobKind) : (jobKindCode k).toNat = (match k with
    | .copy => 1 | .fill => 2 | .eraseRange => 3 | .verify => 4 | .digest => 5) := by
  cases k <;> rfl

theorem jobFaultCode_toNat (c : JobFault) : (jobFaultCode c).toNat = (match c with
    | .protected_ => 1 | .opFailed => 2 | .mismatch => 3 | .guarded => 4) := by
  cases c <;> rfl

theorem originCode_toNat (o : Origin) : (originCode o).toNat = (match o with
    | .a => 1 | .m => 2 | .job => 3) := by
  cases o <;> rfl

/-- Where each byte of a port's status record stands (R150). -/
theorem bytes_statusRecord (s : State) (p : Port) (cont : Bool) :
    let r := statusRecord s p cont
    byteAt r 0 = statusByte0 s p cont ∧ byteAt r 1 = statusByte1 s p
      ∧ byteAt r 2 = refusalByte (s.port p).lastRefusal ∧ byteAt r 3 = (s.port p).lastTag
      ∧ byteAt r 4 = statusByte4 s p ∧ byteAt r 5 = BitVec.ofNat 8 (s.port p).fifo.length
      ∧ byteAt r 6 = statusByte6 s p ∧ byteAt r 7 = (s.port p).irqMask := by
  cases p <;> exact ⟨rfl, rfl, rfl, rfl, rfl, rfl, rfl, rfl⟩

/-- Settles O25: the fetch of each read, then the bytes of each record. -/
theorem sealAndStatusBytes : Obligations.SealAndStatusBytes := by
  unfold Obligations.SealAndStatusBytes
  refine ⟨fun s p tx w page offset hp hs hd hr => ⟨fun hpage => ?_, fun hpage => ?_⟩,
    ⟨fun s p tx w r rec hp hs hd hr hrec => ?_, fun s p tx w field offset hp hs hd hr => ?_,
      fun s p tx w selector hp hs hd hr => ?_⟩,
    fun s p cont hcap => ?_,
    fun s field => ⟨fun slot hslot hstate => ?_, mailboxRecord_of_none⟩,
    fun s index => ⟨fun d hjob => ?_, jobRecord_of_none⟩,
    ⟨rfl, rfl, fun s field offset n =>
      ⟨fun slot i b => mailboxDataByte_of_held, mailboxDataByte_of_none⟩⟩,
    fun s field => ⟨fun i hi => ?_, rfl, rfl, rfl, Config.identification, rfl, ?_⟩, rfl, rfl⟩
  · exact exec_fetch_passed hp hs hd hr rfl rfl (sealFetch_of_page hpage offset tx.fetched) w
  · exact exec_fetch_failed hp hs hd hr rfl rfl (sealFetch_of_no_page hpage offset tx.fetched) w
  · obtain ⟨hl, hch, hb⟩ := dataByte_of_fixedRecord (p := p) (tx := tx) hrec
    exact exec_fetch_passed hp hs hd hr hl hch hb w
  · exact exec_fetch_passed hp hs hd hr rfl rfl rfl w
  · exact exec_fetch_undelivered hp hs hd hr rfl (chooseDelivery_portStatus s p selector tx)
      ((dataByte_portStatus s p selector _).trans
        (congrArg (Prod.mk _) (setPort_port_self s p).symm)) w
  · obtain ⟨h0, h1, h2, h3, h4, h5, h6, h7⟩ := bytes_statusRecord s p cont
    obtain ⟨houtstanding, hheld⟩ := fields_statusByte4 hcap p
    obtain ⟨hlane, hwrap, hwait⟩ := fields_statusByte6 s p
    have hfifo := fifo_le_eight hcap p
    dsimp only
    rw [h0, h1, h2, h3, h4, h5, h6, h7]
    refine ⟨statusRecord_length s p cont, bits_statusByte0 s p cont, bits_statusByte1 s p, rfl, rfl,
      houtstanding, hheld.trans (heldCount_eq s p), toNat_count (hfifo.trans (by decide)),
      hlane, hwrap, hwait, rfl, ?_⟩
    rintro rfl
    obtain ⟨hmode, hguard⟩ := fields_statusByte8 s
    obtain ⟨hwatch, hwarn, hclass0, hclass1, hzero⟩ := fields_statusByte9 s
    obtain ⟨hengine, hattn, hjobs⟩ := fields_statusByte10 hcap
    obtain ⟨hactive, hidle⟩ := fields_statusByte15 s
    obtain ⟨hqueue, -, -, -, -, -, hlog, -⟩ := hcap
    refine ⟨hmode, hguard, hwatch, hwarn, hclass0, hclass1, hzero, hengine, hattn, hjobs,
      toNat_count hlog, rfl, rfl, toNat_count (hqueue.trans (by decide)), fun e he => ?_, hidle,
      append_extract_low s.generation⟩
    obtain ⟨horigin, hkind⟩ := hactive e he
    exact ⟨horigin.trans (originCode_toNat e.origin), hkind⟩
  · rw [mailboxRecord, hslot]
    exact ⟨slotRecord_length _, bytes_slotRecord hstate⟩
  · obtain ⟨hid, hstate, hkind, hdone, hflags, hdigest, hmismatches, hfirst, hnone, hfault⟩ :=
      bytes_descriptorRecord d
    rw [jobRecord, hjob]
    refine ⟨descriptorRecord_length d, hid, (congrArg _ hstate).trans (jobStateCode_toNat d.state),
      (congrArg _ hkind).trans (jobKindCode_toNat d.kind), hdone, hflags, hdigest, hmismatches, hfirst,
      hnone, fun code a h => ?_⟩
    obtain ⟨haddress, hcode⟩ := hfault code a h
    exact ⟨haddress, (congrArg _ hcode).trans (jobFaultCode_toNat code)⟩
  · dsimp only
    rw [fixedRecord, tableRecord_eq hi]
    exact ⟨rfl, rfl, bytes_entryBytes _⟩
  · decide

end Sys2Proof.Machine

namespace Sys2Proof.Machine

-- As in the tests: a task for each proof would need more threads than the check's memory leaves.
set_option Elab.async false

/-! ## The moves that a command is made of

Every command is a run of a few moves: a port's own state changes, an entry joins the queue, a slot's request
passes over to it, entries leave, and so on. `Move` and `Moves` list them with the conditions under which the
operations make them, one lemma per operation reads it as a run of moves, and `exec_moves` says once that
every command is one. An invariant then follows by the cases of `Move` and `Moves`. -/

/-- What a run may do besides: change a port's write-arm latch (R34), and take entries out of the queue
without letting RELEASING slots in (R17). -/
structure Licence where
  arm : Port → Prop
  shrink : Prop

/-- How a port's selection may come to stand: a transaction that is new, or the one under way still (R2, R167,
R168). -/
def SelMoves (power : Power) (old new : Sel) : Prop :=
  ∀ tx', new = .opened tx' → (power = .active ∧ tx'.dormant = false)
    ∨ (power = .dormant ∧ tx'.dormant = true ∧ tx'.readOp = none)
    ∨ ∃ tx, old = .opened tx ∧ tx'.dormant = tx.dormant ∧ tx'.readOp = tx.readOp

/-- A change of a port's own state; its write-arm latch may change where `arm` lets it. -/
structure PortMoves (arm : Port → Prop) (t : State) (p : Port) (qs : PortState) : Prop where
  sel : SelMoves t.power (t.port p).sel qs.sel
  fifo : qs.fifo.length ≤ max (t.port p).fifo.length Config.fifoDepth
  tag : (t.port p).tagNext ≠ 0 → qs.tagNext ≠ 0
  wel : ¬ arm p → qs.wel = (t.port p).wel

/-- What the moves but the first speak of. -/
def shared (s : State) :
    (Power × PortState × PortState) × Vector (Option PageBuf) 6 × List Entry × MailSlot × MailSlot :=
  ((s.power, s.portA, s.portM), s.pool, s.queue, s.slot0, s.slot1)

/-- A change of the log, the job list, the job ids and the store slots. -/
structure RestMoves (t u : State) : Prop where
  log : u.log.length ≤ max t.log.length Config.logDepth
  jobs : u.jobs.length ≤ max t.jobs.length Config.jobListDepth
  jobId : t.jobIdNext ≠ 0 → u.jobIdNext ≠ 0
  store : StoreSound t → StoreSound u

/-- A slot stays EMPTY or filled with what it holds, and becomes RELEASING only with the queue full (R100). -/
structure SlotMoves (t : State) (sl sl' : MailSlot) : Prop where
  buffer : sl'.buffer = sl.buffer
  empty : sl'.state = .empty ↔ sl.state = .empty
  releasing : sl'.state = .releasing → sl.state = .releasing ∨ queueFull t = true

/-- A new holder of an origin has no buffer, or one that was free, the origin being below its cap (R44, R51,
R52). -/
def Takes (t : State) (o : Origin) (b : Option (Fin 6)) (pool : Vector (Option PageBuf) 6) : Prop :=
  (b = none ∧ pool = t.pool) ∨ ∃ i data, b = some i ∧ t.pool[i] = none
    ∧ buffersOwned t o < bufferCap o ∧ pool = t.pool.set i (some { origin := o, data := data })

/-- An origin may have one more entry (R44, R50, R122). -/
def OriginRoom (t : State) : Origin → Prop
  | .a => outstanding t .a < Config.outstandingCap
  | .m => outstanding t .m < Config.outstandingCap
  | .job => stepsOutstanding t < Config.jobWindow

/-- The same entry in another state, an orphan now perhaps (R75, R93). -/
def Relabelled (e e' : Entry) : Prop :=
  ∃ st rp orphan, e' = { e with state := st, resumePending := rp, orphan := orphan }
    ∧ (e.orphan = true → orphan = true)

/-- A single move; no move but `Moves.leave` takes an entry out of the queue. -/
inductive Move (arm : Port → Prop) : State → State → Prop
  /-- Nothing that is shared between the ports, the queue and the mailbox. -/
  | rest {t u : State} (hs : shared u = shared t) (hr : RestMoves t u) : Move arm t u
  | port {t : State} (p : Port) (qs : PortState) (hp : PortMoves arm t p qs) : Move arm t (t.setPort p qs)
  /-- DORMANT, WAKE and the fall of RESET_N (R162, R167, R169). -/
  | power {t : State} (P : Power)
      (hx : (∀ p tx, (t.port p).sel ≠ .opened tx) ∨ t.power = .dormant ∧ P = .active)
      (ho : operating { t with power := P } = true → operating t = true) :
      Move arm t { t with power := P }
  | slot {t : State} (i : SlotId) (sl : MailSlot) (hs : SlotMoves t (t.slot i) sl) :
      Move arm t (t.setSlot i sl)
  /-- A slot's request goes away with its buffer (R102, R105). -/
  | clear {t : State} (i : SlotId) : Move arm t (emptySlotAt t i)
  /-- A slot's request enters the queue (R100). -/
  | pass {t : State} (i : SlotId) (hf : (t.slot i).state ≠ .empty)
      (hq : t.queue.length < Config.queueDepth) : Move arm t (slotToQueue t i)
  /-- A trapped request is held (R96). -/
  | hold {t : State} (i : SlotId) (sl : MailSlot) (pool : Vector (Option PageBuf) 6)
      (he : (t.slot i).state = .empty) (hs : sl.state = .held)
      (hc : outstanding t .a < Config.outstandingCap) (hb : Takes t .a sl.buffer pool) :
      Move arm t (State.setSlot { t with pool := pool } i sl)
  /-- A new entry at the tail of the queue (R46, R73). -/
  | join {t : State} (e : Entry) (pool : Vector (Option PageBuf) 6) (hl : e.orphan = false)
      (hq : t.queue.length < Config.queueDepth) (hc : OriginRoom t e.origin)
      (hb : Takes t e.origin e.buffer pool) :
      Move arm t { t with queue := t.queue ++ [e], pool := pool }
  | relabel {t : State} (q : List Entry) (hq : List.Forall₂ Relabelled t.queue q) :
      Move arm t { t with queue := q }
  /-- New content in buffers that stay whose they were (R103). -/
  | data {t : State} (pool : Vector (Option PageBuf) 6)
      (hp : ∀ i : Fin 6, pool[i].map (·.origin) = t.pool[i].map (·.origin)) :
      Move arm t { t with pool := pool }
  /-- The supply and the release of RESET_N (R161). -/
  | wipe {t : State} (hk : ∀ p, arm p) (P : Power) : Move arm t { volatileReset t with power := P }

/-- The runs of moves from one state to another. -/
inductive Moves : Licence → State → State → Prop
  | refl (k : Licence) (s : State) : Moves k s s
  | step {k : Licence} {s t u : State} (h : Moves k s t) (m : Move k.arm t u) : Moves k s u
  /-- Entries leave with their buffers (R53). -/
  | leave {k : Licence} {s t : State} (h : Moves k s t) (hk : k.shrink) (gone q : List Entry)
      (hq : t.queue.Perm (gone ++ q)) : Moves k s { t with queue := q, pool := poolWithout t gone }
  /-- RELEASING slots have been let in (R17). -/
  | settle {arm : Port → Prop} {shrink : Prop} {s u : State} (h : Moves ⟨arm, True⟩ s u)
      (hm : MailboxSound u) : Moves ⟨arm, shrink⟩ s u

/-! ### Single moves, as the operations make them -/

theorem restMoves_of_eq {t u : State}
    (h : (u.log, u.jobs, u.jobIdNext, u.store0, u.store1)
      = (t.log, t.jobs, t.jobIdNext, t.store0, t.store1)) : RestMoves t u := by
  simp only [Prod.mk.injEq] at h
  obtain ⟨hl, hj, hi, h0, h1⟩ := h
  refine ⟨by rw [hl]; exact le_max_left _ _, by rw [hj]; exact le_max_left _ _, by rw [hi]; exact id, ?_⟩
  unfold StoreSound
  rw [h0, h1]
  exact id

/-- A selection that no new transaction enters. -/
theorem selMoves_of_eq {power : Power} {old new : Sel} (h : new = old) : SelMoves power old new :=
  fun tx' he => .inr (.inr ⟨tx', h ▸ he, rfl, rfl⟩)

theorem selMoves_of_closed {power : Power} {old new : Sel} (h : ∀ tx, new ≠ .opened tx) :
    SelMoves power old new := fun tx' he => absurd he (h tx')

/-- A transaction under way that goes on. -/
theorem selMoves_of_opened {power : Power} {old new : Sel} {tx tx' : Tx} (ho : old = .opened tx)
    (hn : new = .opened tx') (hd : tx'.dormant = tx.dormant) (hr : tx'.readOp = tx.readOp) :
    SelMoves power old new := by
  rintro tx'' he
  rw [hn] at he
  cases he
  exact .inr (.inr ⟨tx, ho, hd, hr⟩)

theorem selMoves_noteLoss (power : Power) (sel : Sel) : SelMoves power sel (noteLoss sel) := by
  obtain ⟨-, h⟩ | ⟨tx, d, hs, h⟩ := noteLoss_cases sel
  · exact selMoves_of_eq h
  · exact selMoves_of_opened hs h rfl rfl

section
variable {k : Licence} {s t : State}

/-- An operation that touches nothing that the invariants speak of. -/
theorem moves_of_same (h : Moves k s t) {u : State} (e : shared u = shared t := by rfl)
    (e' : (u.log, u.jobs, u.jobIdNext, u.store0, u.store1)
      = (t.log, t.jobs, t.jobIdNext, t.store0, t.store1) := by rfl) : Moves k s u :=
  h.step <| .rest e (restMoves_of_eq e')

/-- A change of a port that leaves its transaction, its FIFO, its tag counter and its latch. -/
theorem moves_setPort (h : Moves k s t) {p : Port} {ps : PortState}
    (e : (ps.sel, ps.fifo, ps.tagNext, ps.wel)
      = ((t.port p).sel, (t.port p).fifo, (t.port p).tagNext, (t.port p).wel) := by rfl) :
    Moves k s (t.setPort p ps) := by
  simp only [Prod.mk.injEq] at e
  obtain ⟨hs, hf, ht, hw⟩ := e
  exact h.step <| .port p ps ⟨selMoves_of_eq hs, by rw [hf]; exact le_max_left _ _, by rw [ht]; exact id,
    fun _ => hw⟩

/-- A change of a port's selection, from one that is not a transaction or to one. -/
theorem moves_setSel (h : Moves k s t) {p : Port} {ps : PortState}
    (hs : SelMoves t.power (t.port p).sel ps.sel)
    (e : (ps.fifo, ps.tagNext, ps.wel)
      = ((t.port p).fifo, (t.port p).tagNext, (t.port p).wel) := by rfl) :
    Moves k s (t.setPort p ps) := by
  simp only [Prod.mk.injEq] at e
  obtain ⟨hf, ht, hw⟩ := e
  exact h.step <| .port p ps ⟨hs, by rw [hf]; exact le_max_left _ _, by rw [ht]; exact id, fun _ => hw⟩

/-! ### Events, records, refusals -/

theorem shared_logEvent (t : State) (e : EventKind) (o g d : Byte) (a : Word) :
    shared (logEvent t e o g d a) = shared t := by
  unfold logEvent
  split <;> rfl

theorem length_log_logEvent (t : State) (e : EventKind) (o g d : Byte) (a : Word) :
    (logEvent t e o g d a).log.length ≤ max t.log.length Config.logDepth := by
  unfold logEvent
  split
  · rw [List.length_append, List.length_singleton]
    omega
  · exact le_max_left _ _

theorem moves_logEvent (h : Moves k s t) {e : EventKind} {o g d : Byte} {a : Word} :
    Moves k s (logEvent t e o g d a) :=
  h.step <| .rest (shared_logEvent t e o g d a) ⟨length_log_logEvent t e o g d a, by simp, by simp, by
    simp [StoreSound]⟩

theorem moves_pushCompletion (h : Moves k s t) {p : Port} {r : Completion} :
    Moves k s (pushCompletion t p r) := by
  unfold pushCompletion
  dsimp only
  split
  · refine h.step <| .port p _ ⟨selMoves_of_eq rfl, ?_, id, fun _ => rfl⟩
    rw [List.length_append, List.length_singleton]
    omega
  · refine h.step <| .port p _ ⟨selMoves_noteLoss _ _, ?_, id, fun _ => rfl⟩
    rw [List.length_append, List.length_singleton, List.length_drop]
    simp only [Config.fifoDepth] at *
    omega

theorem moves_refuse (h : Moves k s t) {p : Port} {code : RefusalCode} : Moves k s (refuse t p code) :=
  moves_setPort h

theorem moves_refuseTorn (h : Moves k s t) {p : Port} {c : Command} : Moves k s (refuseTorn t p c) :=
  moves_refuse (moves_logEvent h)

theorem firstFailure_eq_none {checks : List (Bool × RefusalCode)} (h : firstFailure checks = none) :
    ∀ c ∈ checks, c.1 = false := by
  induction checks with
  | nil => simp
  | cons c cs ih =>
    obtain ⟨failed, code⟩ := c
    cases failed with
    | true => simp [firstFailure] at h
    | false =>
      rintro d (_ | ⟨_, hd⟩)
      · rfl
      · exact ih (by simpa [firstFailure] using h) d hd

/-- A decision is a refusal, or the acceptance with every check passed. -/
theorem moves_decided (h : Moves k s t) {p : Port} {checks : List (Bool × RefusalCode)}
    {accept : State → State} (ha : (∀ c ∈ checks, c.1 = false) → Moves k s (accept t)) :
    Moves k s (decided t p checks accept) := by
  unfold decided
  split
  · exact moves_refuse h
  · exact ha (firstFailure_eq_none ‹_›)

theorem nextTag_ne_zero (g : Byte) : nextTag g ≠ 0 := by
  revert g
  decide

theorem moves_noteTag (h : Moves k s t) {p : Port} {g : Byte} : Moves k s (noteTag t p g) :=
  h.step <| .port p _ ⟨selMoves_of_eq rfl, le_max_left _ _, fun _ => nextTag_ne_zero g, fun _ => rfl⟩

theorem moves_discardLatch (h : Moves k s t) {p : Port} : Moves k s (discardLatch t p) :=
  moves_setPort h

theorem moves_receiveData (h : Moves k s t) {p : Port} {start : Nat} {data : List Byte} :
    Moves k s (receiveData t p start data) := moves_setPort h

/-! ### The mailbox and the watchdog -/

/-- After RELEASING slots have had their turn, one that is left has a full queue before it (R17, R46). -/
theorem mailboxSound_fillFromMailbox (t : State) : MailboxSound (fillFromMailbox t) := by
  have grows (q : List Entry) (sl : MailSlot) : q.length ≤ (queueAfter q sl).length := by
    unfold queueAfter
    split <;> simp
  have full {q : List Entry} {sl : MailSlot} (h : (slotAfter q sl).state = .releasing) :
      8 ≤ q.length := by
    unfold slotAfter at h
    split at h
    · cases h
    · rename_i hn
      exact Nat.not_lt.mp fun hq => hn ⟨h, hq⟩
  intro _ h
  rw [queueFull_eq_true, fillFromMailbox_eq]
  rw [fillFromMailbox_eq] at h
  obtain h | h := h
  · exact (full h).trans ((grows _ _).trans (grows _ _))
  · exact (full h).trans (grows _ _)

theorem room_of_not_full (h : ¬ queueFull t = true) : t.queue.length < Config.queueDepth :=
  Nat.not_le.mp fun hq => h (queueFull_eq_true.mpr hq)

/-- A change of a slot that leaves its state and its buffer. -/
theorem moves_setSlot (h : Moves k s t) {i : SlotId} {sl : MailSlot}
    (e : (sl.state, sl.buffer) = ((t.slot i).state, (t.slot i).buffer) := by rfl) :
    Moves k s (t.setSlot i sl) := by
  simp only [Prod.mk.injEq] at e
  obtain ⟨hs, hb⟩ := e
  exact h.step <| .slot i sl ⟨hb, by rw [hs], fun hr => .inl (hs ▸ hr)⟩

theorem moves_releaseSlot (h : Moves k s t) {i : SlotId} (hf : (t.slot i).state ≠ .empty) :
    Moves k s (releaseSlot t i) := by
  unfold releaseSlot
  split
  · refine h.step <| .slot i _ ⟨rfl, ?_, fun _ => .inr ‹_›⟩
    simpa using hf
  · exact h.step <| .pass i hf (room_of_not_full ‹_›)

theorem moves_slotTakesEntry (h : Moves k s t) {i : SlotId} : Moves k s (slotTakesEntry t i) := by
  unfold slotTakesEntry
  split
  · rename_i hc
    simp only [Bool.and_eq_true, beq_iff_eq, Bool.not_eq_true'] at hc
    obtain ⟨hr, hq⟩ := hc
    exact h.step <| .pass i (by simp [hr]) (room_of_not_full (by simp [hq]))
  · exact h

/-- Whatever has left the queue before, RELEASING slots have been let in then (R17). -/
theorem moves_fillFromMailbox (h : Moves ⟨k.arm, True⟩ s t) : Moves k s (fillFromMailbox t) :=
  .settle (moves_slotTakesEntry (moves_slotTakesEntry h)) (mailboxSound_fillFromMailbox t)

theorem moves_denySlot (h : Moves k s t) {i : SlotId} {auto : Bool} : Moves k s (denySlot t i auto) :=
  moves_pushCompletion (h.step <| .clear i)

theorem moves_resolveByDefault (h : Moves k s t) {i : SlotId} {auto : Bool} {e : EventKind}
    (hf : (t.slot i).state ≠ .empty) : Moves k s (resolveByDefault t i auto e) := by
  unfold resolveByDefault
  dsimp only
  split
  · exact moves_logEvent (moves_releaseSlot (moves_setSlot h) (by simpa using hf))
  · exact moves_logEvent (moves_denySlot h)

theorem moves_lapseSlot (h : Moves k s t) {i : SlotId} : Moves k s (lapseSlot t i) := by
  unfold lapseSlot
  split
  · rename_i hs
    exact moves_resolveByDefault h (by simp [hs])
  · exact h

theorem moves_lapse (h : Moves k s t) : Moves k s (lapse t) :=
  have stopped : Moves k s { t with watchdog := stoppedWatchdog .lapsed } := moves_of_same h
  moves_lapseSlot (moves_lapseSlot (moves_logEvent stopped))

theorem moves_redirectSlot (h : Moves k s t) {i : SlotId} {a : Nat} (hf : (t.slot i).state ≠ .empty) :
    Moves k s (redirectSlot t i a) :=
  moves_releaseSlot (moves_logEvent (moves_setSlot h)) (by simpa using hf)

theorem moves_writeSlotBuffer (h : Moves k s t) {p : Port} (b : Option (Fin 6)) :
    Moves k s (writeSlotBuffer t p b) := by
  unfold writeSlotBuffer
  split
  · exact h
  · split
    · exact h
    · rename_i i _ pb hpb
      refine h.step <| .data _ fun (j : Fin 6) => ?_
      rw [Fin.getElem_fin, Vector.getElem_set]
      split
      · rename_i hij
        obtain rfl : i = j := Fin.ext hij
        rw [hpb]
        rfl
      · rfl

theorem moves_startWatchdog (h : Moves k s t) : Moves k s (startWatchdog t) := moves_of_same h

theorem moves_watchdogWritten (h : Moves k s t) : Moves k s (watchdogWritten t) := by
  unfold watchdogWritten
  split
  · split
    · exact h
    · exact moves_of_same h
    · exact moves_logEvent (moves_of_same h)
  · split
    · exact moves_startWatchdog h
    · exact moves_startWatchdog h
    · exact h

theorem moves_watchdogLoaded (h : Moves k s t) : Moves k s (watchdogLoaded t) := by
  unfold watchdogLoaded
  split
  · exact moves_of_same h
  · exact moves_startWatchdog h

theorem moves_takeDefaults (h : Moves k s t) {p : Port} : Moves k s (takeDefaults t p) := by
  cases p
  · exact moves_setPort (p := .a) h
  · exact moves_setPort (p := .m) h

end

end Sys2Proof.Machine

namespace Sys2Proof.Machine

set_option Elab.async false

section
variable {k : Licence} {s t : State}

/-! ### Requests that join the queue -/

/-- Where buffers do not fall short, the free one of lowest number goes to its new holder (R44, R52). -/
theorem takes_takeFree {o : Origin} (h : bufferShort t o = false) (d : Memory) :
    Takes t o (freeBuffer? t) (takeFree t o d).pool := by
  simp only [bufferShort, Bool.or_eq_false_iff, decide_eq_false_iff_not, Nat.not_le] at h
  obtain ⟨hfree, hcap⟩ := h
  cases hi : freeBuffer? t with
  | none => simp [hi] at hfree
  | some i =>
    refine .inr ⟨i, d, rfl, ((freeBuffer?_eq_some t i).mp hi).1, hcap, ?_⟩
    simp [takeFree, hi, takeBuffer]

/-- A request takes a buffer for a program alone (R37, R52). -/
theorem takes_bufferChoice {o : Origin} {kind : Kind} {d : Memory}
    (h : kind = .pageProgram → bufferShort t o = false) :
    Takes t o (bufferChoice t kind)
      (if kind = .pageProgram then (takeFree t o d).pool else t.pool) := by
  unfold bufferChoice
  split
  · exact takes_takeFree (h ‹_›) d
  · exact .inl ⟨rfl, rfl⟩

/-- The room of a request's origin and the buffer that it may need (R43, R44). -/
def ModifyRoom (t : State) (p : Port) (kind : Kind) : Prop :=
  outstanding t p < Config.outstandingCap
    ∧ (kind = .pageProgram → bufferShort t (portOrigin p) = false)

theorem modifyRoom_of_checks {p : Port} {kind : Kind}
    (h : ∀ c ∈ modifyChecks t p kind, c.1 = false) : ModifyRoom t p kind := by
  simp only [modifyChecks, List.forall_mem_cons, decide_eq_false_iff_not, Nat.not_le] at h
  obtain ⟨-, hout, hbuf, -⟩ := h
  refine ⟨hout, fun hk => ?_⟩
  simpa [hk] using hbuf

theorem originRoom_port {p : Port} (h : outstanding t p < Config.outstandingCap) :
    OriginRoom t (portOrigin p) := by
  cases p <;> exact h

theorem moves_acceptModify (h : Moves k s t) {p : Port} {kind : Kind} {a : Nat} {auto : Bool}
    (hr : ModifyRoom t p kind) (hq : t.queue.length < Config.queueDepth) :
    Moves k s (acceptModify t p kind a auto) := by
  obtain ⟨hout, hbuf⟩ := hr
  have htag := moves_noteTag (p := p) (g := tagFor t p) h
  rw [noteTag, ← tagged] at htag
  have takes : Takes (t.setPort p (tagged (t.port p) (tagFor t p))) (portOrigin p)
      (bufferChoice t kind) (poolAfter t p kind) := by
    have ht := takes_bufferChoice (t := t) (d := bufferFromLatch t p) hbuf
    cases p <;> exact ht
  have joined := htag.step <| .join (newEntry (tagFor t p) (portOrigin p) kind (granule kind a)
    (bufferChoice t kind) false auto) (poolAfter t p kind) rfl (by simpa using hq)
    (originRoom_port (by simpa using hout)) takes
  rw [State.setPort_queue] at joined
  rw [acceptModify_eq]
  exact joined

theorem moves_queueModify (h : Moves k s t) {p : Port} {kind : Kind} {a : Nat}
    (hr : ModifyRoom t p kind) : Moves k s (queueModify t p kind a) := by
  unfold queueModify
  split
  · exact moves_refuse h
  · exact moves_acceptModify h hr (room_of_not_full ‹_›)

theorem emptySlotId_state {i : SlotId} (h : emptySlotId t = some i) : (t.slot i).state = .empty := by
  unfold emptySlotId at h
  split at h
  · cases h; assumption
  · split at h
    · cases h; assumption
    · cases h

theorem moves_holdRequest (h : Moves k s t) {i : SlotId} {kind : Kind} {j : Fin 16} {a b : Nat}
    (he : (t.slot i).state = .empty) (hr : ModifyRoom t .a kind) :
    Moves k s (holdRequest t i kind j a b) := by
  obtain ⟨hout, hbuf⟩ := hr
  have htag : Moves k s (t.setPort .a (tagged t.portA (tagFor t .a))) :=
    moves_noteTag (p := .a) (g := tagFor t .a) h
  have hold := htag.step <| .hold i (heldSlot t kind j a b) (poolAfter t .a kind) (by simpa using he) rfl
    (by simpa using hout) (takes_bufferChoice (t := t) (d := bufferFromLatch t .a) hbuf)
  rw [holdRequest, takeProgramBuffer_noteTag]
  exact moves_of_same hold (by cases i <;> rfl) (by cases i <;> rfl)

theorem moves_denyAtOnce (h : Moves k s t) {kind : Kind} {a : Nat} : Moves k s (denyAtOnce t kind a) :=
  moves_pushCompletion (moves_logEvent (moves_noteTag h))

theorem moves_releaseAtOnce (h : Moves k s t) {kind : Kind} {a : Nat} (hr : ModifyRoom t .a kind) :
    Moves k s (releaseAtOnce t kind a) := by
  unfold releaseAtOnce
  split
  · exact moves_refuse h
  · exact moves_logEvent (moves_acceptModify h hr (room_of_not_full ‹_›))

theorem moves_trapStep (h : Moves k s t) {kind : Kind} {j : Fin 16} {a b : Nat}
    (hr : ModifyRoom t .a kind) : Moves k s (trapStep t kind j a b) := by
  unfold trapStep
  split
  · split
    · split
      · exact moves_releaseAtOnce h hr
      · exact moves_denyAtOnce h
    · split
      · exact moves_holdRequest h (emptySlotId_state ‹_›) hr
      · exact moves_refuse h
  · exact moves_queueModify h hr

theorem moves_decideModify (h : Moves k s t) {p : Port} {kind : Kind} {f : Frame} :
    Moves k s (decideModify t p kind f) := by
  unfold decideModify
  dsimp only
  split
  · exact moves_refuse h
  · split
    · exact moves_refuse h
    · split
      · exact moves_refuse (moves_logEvent h)
      · rename_i phys covering hm
        refine moves_decided h fun hc => ?_
        have hr := modifyRoom_of_checks hc
        cases covering with
        | none => exact moves_queueModify h hr
        | some i =>
          cases p with
          | a => exact moves_trapStep h hr
          | m => exact absurd hm modifyTarget_m_none

/-- An armed request consumes the latch of its port (R35). -/
theorem moves_armedDecision {p : Port} (hk : k.arm p) (h : Moves k s t) {decide : State → State}
    (hd : ∀ u, Moves k s u → Moves k s (decide u)) : Moves k s (armedDecision t p decide) := by
  unfold armedDecision
  split
  · exact hd _ (h.step <| .port p _ ⟨selMoves_of_eq rfl, le_max_left _ _, id, fun hn => absurd hk hn⟩)
  · exact moves_refuse h

theorem moves_acceptEntry (h : Moves k s t) {kind : Kind} {target : Target} {b : Option (Fin 6)}
    {pool : Vector (Option PageBuf) 6} (hout : outstanding t .m < Config.outstandingCap)
    (hq : t.queue.length < Config.queueDepth) (hb : Takes t .m b pool) :
    Moves k s (acceptEntry { t with pool := pool } kind target b) :=
  (moves_noteTag (p := .m) h).step <| .join
    (newEntry (tagFor { t with pool := pool } .m) .m kind target b false false) pool rfl hq
    (by simpa [noteTag, OriginRoom, newEntry] using hout) hb

theorem roomChecks_passed (h : ∀ c ∈ roomChecks t, c.1 = false) :
    outstanding t .m < Config.outstandingCap ∧ t.queue.length < Config.queueDepth := by
  simp only [roomChecks, List.forall_mem_cons, decide_eq_false_iff_not, Nat.not_le] at h
  exact ⟨h.1, room_of_not_full (by simp [h.2.1])⟩

/-- A request of Port M that needs no buffer, its room checks passed (R140, R144, R148). -/
theorem moves_acceptEntry_of_room (h : Moves k s t) {kind : Kind} {target : Target}
    (hr : ∀ c ∈ roomChecks t, c.1 = false) : Moves k s (acceptEntry t kind target none) :=
  moves_acceptEntry h (roomChecks_passed hr).1 (roomChecks_passed hr).2 (.inl ⟨rfl, rfl⟩)

/-- The first item with a property leaves a list. -/
theorem perm_eraseP_of_find? {α : Type} {f : α → Bool} {l : List α} {a : α}
    (h : l.find? f = some a) : l.Perm ([a] ++ l.eraseP f) := by
  induction l with
  | nil => cases h
  | cons b l ih =>
    rw [List.find?_cons] at h
    by_cases hb : f b = true
    · rw [hb] at h
      cases h
      rw [List.eraseP_cons_of_pos hb]
      exact .refl _
    · rw [Bool.not_eq_true] at hb
      rw [hb] at h
      rw [List.eraseP_cons_of_neg (by simp [hb])]
      exact ((ih h).cons b).trans (.swap a b _)

/-- One entry leaves the queue with its buffer (R53). -/
theorem moves_releaseBuffer (hk : k.shrink) (h : Moves k s t) {q : List Entry} {e : Entry}
    (hq : t.queue.Perm ([e] ++ q)) : Moves k s (releaseBuffer { t with queue := q } e.buffer) := by
  rw [releaseBuffer_eq]
  exact h.leave hk [e] q hq

theorem moves_cancelEntry (h : Moves ⟨k.arm, True⟩ s t) {p : Port} {e : Entry}
    (he : t.queue.find? (namedBy p e.tag) = some e) : Moves k s (cancelEntry t p e) :=
  moves_fillFromMailbox (moves_pushCompletion
    (moves_releaseBuffer trivial h (perm_eraseP_of_find? he)))

theorem moves_cancelSlot (h : Moves k s t) {i : SlotId} : Moves k s (cancelSlot t i) :=
  moves_pushCompletion (h.step <| .clear i)

theorem tag_of_find? {p : Port} {g : Byte} {e : Entry} (h : t.queue.find? (namedBy p g) = some e) :
    e.tag = g := by
  have := List.find?_some h
  simp only [namedBy, Bool.and_eq_true, beq_iff_eq] at this
  exact this.2

/-- A run may also do what a larger licence allows. -/
theorem Moves.licensed (h : Moves k s t) : Moves ⟨k.arm, True⟩ s t := by
  induction h with
  | refl k s => exact .refl _ s
  | step _ m ih => exact ih.step m
  | leave _ _ gone q hq ih => exact ih.leave trivial gone q hq
  | settle _ _ ih => exact ih

theorem moves_decideCancel (h : Moves k s t) {p : Port} {g : Byte} : Moves k s (decideCancel t p g) := by
  unfold decideCancel
  split
  · exact moves_refuse h
  · split
    · exact moves_cancelSlot h
    · split
      · exact moves_refuse h
      · rename_i e he
        split
        · exact moves_cancelEntry h.licensed (by rwa [tag_of_find? he])
        · exact moves_refuse h

theorem moves_takeSuspend (h : Moves k s t) : Moves k s (takeSuspend t) := by
  unfold takeSuspend
  split
  · exact h
  · exact h
  · exact moves_of_same h

theorem relabelled_refl (e : Entry) : Relabelled e e := ⟨_, _, _, rfl, id⟩

theorem relabelled_updateFirst {has : Entry → Bool} {g : Entry → Entry}
    (hg : ∀ e, Relabelled e (g e)) (q : List Entry) :
    List.Forall₂ Relabelled q (updateFirst has g q) := by
  induction q with
  | nil => exact .nil
  | cons e q ih =>
    unfold updateFirst
    split
    · exact .cons (hg e) (List.forall₂_same.mpr fun e _ => relabelled_refl e)
    · exact .cons (relabelled_refl e) ih

theorem moves_setResumePending (h : Moves k s t) : Moves k s (setResumePending t) :=
  h.step <| .relabel _ (relabelled_updateFirst (fun _ => ⟨_, _, _, rfl, id⟩) _)

theorem moves_withHeldSlot (h : Moves k s t) {p : Port} {field : Byte} {act : SlotId → State}
    (ha : ∀ i, (t.slot i).state ≠ .empty → Moves k s (act i)) :
    Moves k s (withHeldSlot t p field act) := by
  unfold withHeldSlot
  split
  · exact moves_refuse h
  · split
    · rename_i hs
      exact ha _ (by simp [hs])
    · exact moves_refuse h

/-! ### The configuration -/

theorem moves_writeLive (h : Moves k s t) {off : Nat} {v : Byte} : Moves k s (writeLive t off v) := by
  unfold writeLive
  dsimp only
  split
  · exact moves_watchdogWritten (moves_of_same h)
  · exact moves_of_same h

theorem moves_setStoreClass (h : Moves k s t) {i : SlotId} {c : SlotClass} :
    Moves k s (t.setStoreClass i c) := by cases i <;> exact moves_of_same h

theorem moves_startCommit (h : Moves k s t) : Moves k s (startCommit t) := by
  unfold startCommit
  split
  · exact moves_of_same h
  · exact moves_setStoreClass (moves_of_same h)

theorem moves_applyStaging (h : Moves k s t) : Moves k s (applyStaging t) := by
  unfold applyStaging
  dsimp only
  split
  · exact moves_of_same h
  · exact moves_watchdogWritten (moves_of_same h)

theorem moves_applyCommit (h : Moves k s t) {e : EventKind} {g d : Byte} {a : Word} :
    Moves k s (applyCommit t e g d a) := by
  unfold applyCommit
  split
  · exact moves_logEvent (moves_applyStaging h)
  · exact moves_applyStaging (moves_logEvent h)

/-- A store slot gets 213 bytes (chapter 8.3). -/
theorem moves_setStore (h : Moves k s t) {i : SlotId} {bs : List Byte}
    (hb : bs.length = Config.slotBytes) : Moves k s (t.setStore i bs) := by
  refine h.step <| .rest (by cases i <;> rfl) ⟨by simp, by simp, by simp, fun hs => ?_⟩
  cases i
  · exact ⟨hb, hs.2⟩
  · exact ⟨hs.1, hb⟩

theorem length_imageToBytes (im : Image) : (imageToBytes im).length = 205 := by
  simp [imageToBytes, List.length_flatMap]

theorem length_slotOf (gen : Word) (im : Image) : (slotOf gen im).length = Config.slotBytes := by
  simp [slotOf, slotBody, length_imageToBytes, Config.slotBytes]

theorem length_commitBytes (t : State) : (commitBytes t).length = Config.slotBytes := length_slotOf _ _

theorem moves_commitResult (h : Moves k s t) {g : Byte} {stuck : StuckBits} :
    Moves k s (commitResult t g stuck).1 := by
  have run : Moves k s { t with commitRun := none } := moves_of_same h
  unfold commitResult
  dsimp only
  split
  · rename_i i _
    split
    · have written := moves_setStoreClass (i := i) (c := .valid)
        (moves_setStore (i := i) run (length_commitBytes t))
      exact moves_applyCommit (moves_of_same written)
    · exact moves_logEvent (moves_setStoreClass (moves_setStore run
        (unfinishedSlot_length (by rw [slotWithStuck, List.length_mapIdx, length_commitBytes]))))
  · exact moves_applyCommit run
  · exact moves_applyCommit run

theorem moves_logTornSlot (h : Moves k s t) {i : SlotId} : Moves k s (logTornSlot t i) := by
  unfold logTornSlot
  split
  · exact moves_logEvent h
  · exact h

theorem moves_takeImage (h : Moves k s t) : Moves k s (takeImage t) := by
  unfold takeImage
  split
  · exact moves_of_same h
  · exact moves_logEvent (moves_of_same (u := { t with
      activeImage := factoryImage, stagingImage := factoryImage, selected := none
      generation := 0, dirty := true, validation := 0 }) h)

theorem moves_loadConfig (h : Moves k s t) : Moves k s (loadConfig t) := by
  have classes : Moves k s (classified t) := moves_of_same h
  unfold loadConfig
  exact moves_takeDefaults (moves_takeDefaults (moves_watchdogLoaded (moves_takeImage
    (moves_logTornSlot (moves_logTornSlot classes)))))

/-! ### The engine -/

/-- A change of the job list that adds nothing to it. -/
theorem moves_jobs (h : Moves k s t) {u : State} (hj : u.jobs.length ≤ t.jobs.length)
    (e : shared u = shared t := by rfl)
    (e' : (u.log, u.jobIdNext, u.store0, u.store1) = (t.log, t.jobIdNext, t.store0, t.store1) := by rfl) :
    Moves k s u := by
  have hr : RestMoves { t with jobs := u.jobs } u := restMoves_of_eq (by
    simp only [Prod.mk.injEq] at e'
    simp [e'])
  exact (h.step <| .rest (u := { t with jobs := u.jobs }) rfl
    ⟨le_max_left _ _, hj.trans (le_max_left _ _), id, id⟩).step <| .rest e hr

theorem moves_setCurrentJob (h : Moves k s t) {d : Descriptor} : Moves k s (setCurrentJob t d) := by
  unfold setCurrentJob
  split
  · exact moves_jobs h (by simp)
  · exact h

theorem moves_beginJob (h : Moves k s t) {i : Nat} : Moves k s (beginJob t i) := by
  unfold beginJob
  split
  · exact moves_jobs h (by simp)
  · exact h

theorem moves_drainCheck (h : Moves k s t) : Moves k s (drainCheck t) := by
  unfold drainCheck
  split
  case isFalse => exact h
  split
  case h_4 => exact moves_jobs h (by simp [endAbort, enterIdle])
  case h_5 =>
    split
    · exact moves_of_same h
    · exact h
  case h_6 =>
    split
    · exact moves_of_same h
    · split <;> exact moves_of_same h
  all_goals exact h

theorem moves_moveOn (h : Moves k s t) : Moves k s (moveOn t) := by
  unfold moveOn
  split
  · split
    · exact moves_beginJob h
    · exact moves_of_same h
  all_goals exact moves_of_same h

theorem moves_finishJob (h : Moves k s t) {d : Descriptor} : Moves k s (finishJob t d) :=
  moves_moveOn (moves_logEvent (moves_setCurrentJob h))

theorem moves_faultJob (h : Moves k s t) {d : Descriptor} {c : JobFault} {a : Nat} :
    Moves k s (faultJob t d c a) := by
  unfold faultJob
  split
  · exact h
  · exact moves_logEvent (moves_setCurrentJob h)

/-- The conditions of R122 give a step its place in the queue and, a page step, its buffer. -/
theorem room_of_stepReady {d : Descriptor} {kind : Kind} (h : stepReady t d kind = true) :
    t.queue.length < Config.queueDepth ∧ stepsOutstanding t < Config.jobWindow
      ∧ (kind = .pageProgram → bufferShort t .job = false) := by
  simp only [stepReady, Bool.and_eq_true, Bool.not_eq_true', decide_eq_true_eq, Bool.or_eq_true] at h
  obtain ⟨⟨⟨⟨hq, hout⟩, -⟩, hbuf⟩, -⟩ := h
  refine ⟨room_of_not_full (by simp [hq]), hout, fun hk => ?_⟩
  simpa [hk] using hbuf

theorem moves_issueStep (h : Moves k s t) {d : Descriptor} {kind : Kind} {a : Nat}
    (hr : stepReady t d kind = true) : Moves k s (issueStep t d kind a) := by
  obtain ⟨hq, hout, hbuf⟩ := room_of_stepReady hr
  have joined := h.step <| .join (newEntry d.id .job kind (granule kind a) (bufferChoice t kind) false false)
    _ rfl hq hout (takes_bufferChoice (d := stepData t d t.cursor) hbuf)
  unfold issueStep
  dsimp only
  split
  · rename_i hk
    rw [if_pos hk] at joined
    rw [takeFree_eq]
    exact moves_of_same joined
  · rename_i hk
    rw [if_neg hk] at joined
    exact moves_of_same joined

theorem moves_tryStep (h : Moves k s t) {d : Descriptor} {kind : Kind} {a : Nat} :
    Moves k s (tryStep t d kind a) := by
  unfold tryStep
  split
  · split
    · exact moves_drainCheck (moves_faultJob h)
    · exact moves_issueStep h ‹_›
  · exact h

theorem moves_stepCompleted (h : Moves k s t) {e : Entry} {out : OpOutcome} :
    Moves k s (stepCompleted t e out) := by
  have finished {u : State} (hu : Moves k s u) (d : Descriptor) : Moves k s (finishIfDone u d) := by
    unfold finishIfDone
    split
    · exact moves_finishJob hu
    · exact hu
  unfold stepCompleted
  dsimp only
  split
  · exact moves_drainCheck h
  · split
    · exact moves_drainCheck (moves_faultJob h)
    · exact moves_drainCheck (finished (moves_setCurrentJob h) _)

theorem moves_afterChunk (h : Moves k s t) {d : Descriptor} : Moves k s (afterChunk t d) := by
  unfold afterChunk
  split
  · exact moves_finishJob h
  · exact moves_setCurrentJob h

theorem moves_digestChunk (h : Moves k s t) {d : Descriptor} : Moves k s (digestChunk t d) := by
  unfold digestChunk
  dsimp only
  split
  · exact moves_afterChunk (moves_of_same h)
  · exact h

theorem moves_verifyChunk (h : Moves k s t) {d : Descriptor} : Moves k s (verifyChunk t d) := by
  unfold verifyChunk
  dsimp only
  split
  · split
    · exact moves_drainCheck (moves_faultJob h)
    · exact moves_afterChunk h
  · exact h

theorem moves_startNext (h : Moves k s t) {p : Port} : Moves k s (startNext t p) := by
  unfold startNext
  split
  · exact moves_beginJob (moves_of_same h)
  · exact moves_refuse h

theorem moves_removeEntries (hk : k.shrink) (h : Moves k s t) {has : Entry → Bool} :
    Moves k s (removeEntries t has) := by
  rw [removeEntries_eq]
  exact h.leave hk _ _ (List.filter_append_perm has t.queue).symm

/-! ### The sequencer -/

theorem relabelled_startOldest {susp : Option Entry} {older q q' : List Entry} {e : Entry}
    (h : startOldest susp older q = some (e, q')) : List.Forall₂ Relabelled (older ++ q) q' := by
  induction q generalizing older with
  | nil => cases h
  | cons d q ih =>
    unfold startOldest at h
    split at h
    · cases h
      exact List.rel_append (List.forall₂_same.mpr fun e _ => relabelled_refl e)
        (.cons ⟨_, _, _, rfl, id⟩ (List.forall₂_same.mpr fun e _ => relabelled_refl e))
    · simpa using ih h

theorem moves_startEffect (h : Moves k s t) {e : Entry} : Moves k s (startEffect t e) := by
  have hq : Moves k s (if isEraseKind e.kind then startQuantum t else { t with quantum := none }) := by
    split <;> exact moves_of_same h
  unfold startEffect
  dsimp only
  split
  · exact moves_startCommit hq
  · exact hq

theorem moves_operationResult (h : Moves k s t) {e : Entry} {stuck : StuckBits} :
    Moves k s (operationResult t e stuck).1 := by
  unfold operationResult
  split
  case h_4 => exact moves_commitResult h
  case h_5 =>
    have blown : Moves k s { t with fuse := true } := moves_of_same h
    split
    · exact moves_logEvent blown
    · exact h
  case h_7 page _ _ _ =>
    have locked : Moves k s { t with sealLocks := t.sealLocks ||| lockBit page } := moves_of_same h
    split
    · exact moves_logEvent locked
    · exact h
  case h_8 => exact h
  all_goals exact moves_of_same h

/-- An operation's result leaves the queue as it was (R82). -/
theorem queue_operationResult (t : State) (e : Entry) (stuck : StuckBits) :
    (operationResult t e stuck).1.queue = t.queue := by
  have watchdog (u : State) : (watchdogWritten u).queue = u.queue := by
    unfold watchdogWritten
    split <;> split <;> simp [startWatchdog]
  have staging (u : State) : (applyStaging u).queue = u.queue := by
    unfold applyStaging
    dsimp only
    split
    · rfl
    · rw [watchdog]
  have commit (u : State) (k : EventKind) (g d : Byte) (a : Word) :
      (applyCommit u k g d a).queue = u.queue := by
    unfold applyCommit
    split <;> simp [staging]
  unfold operationResult
  split
  case h_4 =>
    unfold commitResult
    dsimp only
    split
    · split <;> simp [commit]
    · rw [commit]
    · rw [commit]
  case h_5 => split <;> simp
  case h_7 => split <;> simp
  all_goals rfl

theorem moves_reportOutcome (h : Moves k s t) {e : Entry} {out : OpOutcome} :
    Moves k s (reportOutcome t e out) := by
  have hl : Moves k s (logFailed t e out) := by
    unfold logFailed
    split
    · exact moves_logEvent h
    · exact h
  unfold reportOutcome
  dsimp only
  split
  · exact hl
  · split
    · exact moves_pushCompletion hl
    · exact moves_pushCompletion hl
    · exact moves_stepCompleted hl

theorem moves_removeActive (hk : k.shrink) (h : Moves k s t) {e : Entry}
    (he : activeEntry t = some e) : Moves k s (removeActive t e) :=
  moves_releaseBuffer (t := { t with suspend := .none, quantum := none }) hk (moves_of_same h)
    (perm_eraseP_of_find? he)

theorem moves_expireHold (h : Moves k s t) {e : Entry} : Moves k s (expireHold t e) := by
  have stopped : Moves k s { t with hold := none } := moves_of_same h
  unfold expireHold
  split
  · exact stopped
  · exact moves_logEvent (moves_setResumePending stopped)

end

end Sys2Proof.Machine

namespace Sys2Proof.Machine

set_option Elab.async false

/-! ### Transactions and the rows that end them -/

/-- The outcome is a next state that a run of moves leads to, before the outputs are driven. -/
def Ends (k : Licence) (s : State) (o : Host.Outcome State Fault Refusal) : Prop :=
  ∃ u, o = finish u ∧ Moves k s u

theorem ends_refl (k : Licence) (s : State) : Ends k s (finish s) := ⟨s, rfl, .refl k s⟩

section
variable {k : Licence} {s t : State} {p : Port} {f : Frame}

theorem moves_beginTransaction (h : Moves k s t) : Moves k s (beginTransaction t p) := by
  unfold beginTransaction
  dsimp only
  split
  · split
    · refine moves_setSel h (fun tx htx => ?_)
      cases htx
      exact .inl ⟨‹_›, rfl⟩
    · refine moves_setSel h (fun tx htx => ?_)
      cases htx
      exact .inr (.inl ⟨‹_›, rfl, rfl⟩)
    all_goals exact moves_setSel h (selMoves_of_closed fun tx => Sel.noConfusion)
  · exact h
  · exact h

theorem moves_deselect (h : Moves k s t) : Moves k s (deselect t p) :=
  moves_setSel h (selMoves_of_closed fun _ => Sel.noConfusion)

theorem moves_ended (k : Licence) (s : State) (p : Port) : Moves k s (ended s p) :=
  moves_setSel (moves_beginTransaction (.refl k s)) (selMoves_of_closed fun _ => Sel.noConfusion)

theorem ends_endTransaction {fits : Tx → Bool} {act : Tx → State → State}
    (h : ∀ tx, Live s p tx → fits tx = true → Moves k s (act tx (ended s p))) :
    Ends k s (endTransaction s p fits act) := by
  have hb : Moves k s (beginTransaction s p) := moves_beginTransaction (.refl k s)
  obtain he | he | he | ⟨tx, hl, hf, he⟩ := endTransaction_cases s p fits act <;> rw [he]
  · exact ends_refl k s
  · exact ⟨_, rfl, hb⟩
  · exact ⟨_, rfl, moves_deselect hb⟩
  · exact ⟨_, rfl, h tx hl hf⟩

/-- A request, by what its decision does where it arrives (R8, R9, R10). -/
theorem ends_arriving {c : Command} {act : Tx → State → State}
    (h : ∀ tx, Delivered s p c tx → recognises p c = true → torn c f = false →
      Moves k s (act tx (ended s p))) : Ends k s (requestEnd s p c f act) := by
  refine ends_endTransaction fun tx hl hf => ?_
  have he := moves_ended k s p
  split
  · exact moves_refuse he
  · rename_i hr
    split
    · exact moves_refuseTorn he
    · rename_i ht
      exact h tx ⟨hl, hf⟩ (by simpa using hr) (by simpa using ht)

theorem ends_requestEnd {c : Command} {act : Tx → State → State}
    (h : ∀ tx t, Moves k s t → Moves k s (act tx t)) : Ends k s (requestEnd s p c f act) :=
  ends_arriving fun tx _ _ _ => h tx _ (moves_ended k s p)

theorem ends_readEnd {c : Command} {act : Tx → List Byte → State → State}
    (h : ∀ tx bs t, Moves k s t → Moves k s (act tx bs t)) : Ends k s (readEnd s p c f act) := by
  refine ends_endTransaction fun tx _ _ => ?_
  have he := moves_ended k s p
  split
  · exact moves_refuse he
  · split
    · exact h tx _ _ he
    · exact he

/-- A request whose whole effect, after some checks perhaps, is on its port's settings. -/
theorem ends_settings {c : Command} {checks : List (Bool × RefusalCode)} {g : PortState → PortState}
    (hg : ∀ ps, ((g ps).sel, (g ps).fifo, (g ps).tagNext, (g ps).wel)
      = (ps.sel, ps.fifo, ps.tagNext, ps.wel)) :
    Ends k s (requestEnd s p c f fun _ s' =>
      decided s' p checks fun s' => s'.setPort p (g (s'.port p))) :=
  ends_requestEnd fun _ _ ht => moves_decided ht fun _ => moves_setPort ht (hg _)

/-- ARM_WRITE and DISARM_WRITE (R34). -/
theorem ends_latch {c : Command} (hk : k.arm p) (b : Bool) :
    Ends k s (requestEnd s p c f fun _ s' => s'.setPort p { s'.port p with wel := b }) :=
  ends_requestEnd fun _ _ ht => ht.step <| .port p _ ⟨selMoves_of_eq rfl, le_max_left _ _, id,
    fun hn => absurd hk hn⟩

/-! ### The modify requests and the queue requests -/

/-- An operation adds moves to any run and needs no licence for them. -/
def Quiet (g : State → State) : Prop := ∀ k s t, Moves k s t → Moves k s (g t)

/-- A request that is decided only with the latch armed, and refused with no effect else (R35). -/
def ArmedRequest (p : Port) (c : Command) (f : Frame)
    (run : State → Host.Outcome State Fault Refusal) : Prop :=
  ∃ prepare finalise decide : State → State, Quiet prepare ∧ Quiet finalise ∧ Quiet decide
    ∧ (∀ s, finalise (refuse (prepare s) p .notArmed) = refuse s p .notArmed)
    ∧ ∀ s, run s = requestEnd s p c f fun _ s' => finalise (armedDecision (prepare s') p decide)

theorem ends_armed {c : Command} {run : State → Host.Outcome State Fault Refusal}
    (h : ArmedRequest p c f run) (hk : k.arm p) : Ends k s (run s) := by
  obtain ⟨prepare, finalise, decide, hp, hf, hd, -, he⟩ := h
  rw [he]
  exact ends_requestEnd fun _ _ ht => hf _ _ _ (moves_armedDecision hk (hp _ _ _ ht) fun _ hu => hd _ _ _ hu)

/-- A refusal discards what the latch has received (R7). -/
theorem discardLatch_refuse_receiveData (s : State) (p : Port) (start : Nat) (data : List Byte)
    (code : RefusalCode) :
    discardLatch (refuse (receiveData s p start data) p code) p = refuse s p code := by
  have same : refuse (receiveData s p start data) p code = refuse s p code := by
    simp [refuse, receiveData]
  rw [same, discardLatch_refuse]

theorem armed_pageProgram (p : Port) (f : Frame) :
    ArmedRequest p .pageProgram f (execPageProgram p f) :=
  ⟨fun s' => receiveData s' p (byteAt f.bytes 3).toNat (f.bytes.drop 4), fun s' => discardLatch s' p,
    fun s' => decideModify s' p .pageProgram f, fun _ _ _ ht => moves_receiveData ht,
    fun _ _ _ ht => moves_discardLatch ht, fun _ _ _ hu => moves_decideModify hu,
    fun s' => discardLatch_refuse_receiveData s' p _ _ _, fun _ => rfl⟩

theorem armed_sectorErase (p : Port) (f : Frame) :
    ArmedRequest p .sectorErase f (execSectorErase p f) :=
  ⟨id, fun s' => discardLatch s' p, fun s' => decideModify s' p .sectorErase f, fun _ _ _ => id,
    fun _ _ _ ht => moves_discardLatch ht, fun _ _ _ hu => moves_decideModify hu,
    fun s' => discardLatch_refuse s' p .notArmed, fun _ => rfl⟩

theorem armed_blockErase (p : Port) (f : Frame) :
    ArmedRequest p .blockErase f (execBlockErase p f) :=
  ⟨id, fun s' => discardLatch s' p, fun s' => decideModify s' p .blockErase f, fun _ _ _ => id,
    fun _ _ _ ht => moves_discardLatch ht, fun _ _ _ hu => moves_decideModify hu,
    fun s' => discardLatch_refuse s' p .notArmed, fun _ => rfl⟩

theorem ends_suspend : Ends k s (execSuspend p f s) := by
  refine ends_requestEnd fun _ t ht => ?_
  split
  · exact moves_refuse ht
  · exact moves_decided ht fun _ => moves_takeSuspend ht

theorem ends_resume : Ends k s (execResume p f s) := by
  refine ends_requestEnd fun _ t ht => ?_
  split
  · exact moves_refuse ht
  · exact moves_decided ht fun _ => moves_setResumePending ht

theorem ends_cancel : Ends k s (execCancel p f s) :=
  ends_requestEnd fun _ _ ht => moves_decideCancel ht

/-! ### The mailbox and watchdog requests -/

theorem ends_mailboxRelease : Ends k s (execMailboxRelease p f s) :=
  ends_requestEnd fun _ _ ht => moves_withHeldSlot ht fun _ hs => moves_releaseSlot ht hs

theorem ends_mailboxRedirect : Ends k s (execMailboxRedirect p f s) := by
  refine ends_requestEnd fun _ t ht => moves_withHeldSlot ht fun i hs => ?_
  dsimp only
  split
  · exact moves_refuse ht
  · split
    · exact moves_refuse ht
    · exact moves_redirectSlot ht hs

theorem ends_mailboxDeny : Ends k s (execMailboxDeny p f s) :=
  ends_requestEnd fun _ _ ht => moves_withHeldSlot ht fun _ _ => moves_logEvent (moves_denySlot ht)

theorem ends_mailboxDataWrite : Ends k s (execMailboxDataWrite p f s) :=
  ends_requestEnd fun _ _ ht =>
    have hr := moves_receiveData ht
    moves_discardLatch (moves_withHeldSlot hr fun _ _ =>
      moves_decided hr fun _ => moves_writeSlotBuffer hr _)

theorem ends_heartbeat : Ends k s (execHeartbeat p f s) := by
  refine ends_requestEnd fun _ t ht => ?_
  split
  · exact ht
  · exact moves_startWatchdog ht
  · exact moves_logEvent (moves_startWatchdog ht)

/-! ### The configuration requests -/

theorem ends_tableWriteEntry : Ends k s (execTableWriteEntry p f s) := by
  refine ends_requestEnd fun _ t ht => moves_decided ht fun _ => ?_
  split
  · exact moves_of_same ht
  · exact moves_refuse ht

theorem ends_tableClearEntry : Ends k s (execTableClearEntry p f s) := by
  refine ends_requestEnd fun _ t ht => moves_decided ht fun _ => ?_
  split
  · exact moves_of_same ht
  · exact moves_refuse ht

theorem ends_stageFromActive : Ends k s (execStageFromActive p f s) :=
  ends_requestEnd fun _ _ ht => moves_decided ht fun _ => moves_of_same ht

theorem ends_settingsWriteStaged : Ends k s (execSettingsWriteStaged p f s) :=
  ends_requestEnd fun _ _ ht => moves_decided ht fun _ => moves_of_same ht

theorem ends_settingsWriteLive : Ends k s (execSettingsWriteLive p f s) :=
  ends_requestEnd fun _ _ ht => moves_decided ht fun _ => moves_writeLive ht

theorem ends_swapViews : Ends k s (execSwapViews p f s) := by
  refine ends_requestEnd fun _ t ht => moves_decided ht fun _ => ?_
  split
  · split
    · exact moves_of_same ht
    · exact moves_refuse ht
  · exact moves_refuse ht

theorem ends_lockSession : Ends k s (execLockSession p f s) := by
  refine ends_requestEnd fun _ t ht => ?_
  have locked : Moves k s { t with sessionLock := true } := moves_of_same ht
  split
  · exact ht
  · exact moves_logEvent locked

theorem armed_commit (p : Port) (f : Frame) : ArmedRequest p .commit f (execCommit p f) := by
  refine ⟨id, id, _, fun _ _ _ => id, fun _ _ _ => id, fun k s u hu => ?_, fun _ => rfl, fun _ => rfl⟩
  have hv : Moves k s { u with validation := validationDetail u.stagingImage } := moves_of_same hu
  exact moves_decided hu fun _ => moves_decided hv fun hc =>
    moves_acceptEntry_of_room hv fun c hm => hc c (List.mem_append_right _ hm)

theorem armed_guardFuse (p : Port) (f : Frame) : ArmedRequest p .guardFuse f (execGuardFuse p f) :=
  ⟨id, id, _, fun _ _ _ => id, fun _ _ _ => id, fun _ _ _ hu => moves_decided hu fun hc =>
    moves_acceptEntry_of_room hu fun c hm => hc c (List.mem_append_right _ hm),
    fun _ => rfl, fun _ => rfl⟩

theorem armed_sealLock (p : Port) (f : Frame) : ArmedRequest p .sealLock f (execSealLock p f) :=
  ⟨id, id, _, fun _ _ _ => id, fun _ _ _ => id, fun _ _ _ hu => moves_decided hu fun hc =>
    moves_acceptEntry_of_room hu fun c hm => hc c (List.mem_append_right _ hm),
    fun _ => rfl, fun _ => rfl⟩

theorem armed_sealProgram (p : Port) (f : Frame) :
    ArmedRequest p .sealProgram f (execSealProgram p f) := by
  refine ⟨fun s' => receiveData s' p (byteAt f.bytes 2).toNat (f.bytes.drop 3),
    fun s' => discardLatch s' p, _, fun _ _ _ ht => moves_receiveData ht,
    fun _ _ _ ht => moves_discardLatch ht, fun k s u hu => moves_decided hu fun hc => ?_,
    fun s' => discardLatch_refuse_receiveData s' p _ _ _, fun _ => rfl⟩
  simp only [List.forall_mem_cons, decide_eq_false_iff_not, Nat.not_le] at hc
  obtain ⟨-, -, -, -, hout, hbuf, hq, -⟩ := hc
  rw [takeFree_eq]
  exact moves_acceptEntry hu hout (room_of_not_full (by simp [hq])) (takes_takeFree hbuf _)

/-! ### The engine's controls -/

theorem ends_jobLoad : Ends k s (execJobLoad p f s) := by
  refine ends_requestEnd fun _ t ht => ?_
  split
  · exact moves_refuse ht
  · split
    · exact moves_refuse ht
    · refine moves_decided ht fun hc => ht.step <| .rest rfl
        ⟨le_max_left _ _, ?_, fun _ => nextTag_ne_zero _, id⟩
      simp only [List.forall_mem_cons, decide_eq_false_iff_not, Nat.not_le] at hc
      rw [List.length_append, List.length_singleton]
      omega

theorem ends_jobStart : Ends k s (execJobStart p f s) := by
  refine ends_requestEnd fun _ t ht => ?_
  split
  case h_1 | h_2 => exact moves_startNext ht
  case h_3 =>
    split
    · exact moves_of_same ht
    · exact moves_startNext ht
  all_goals exact moves_refuse ht

theorem ends_jobPause : Ends k s (execJobPause p f s) := by
  refine ends_requestEnd fun _ t ht => ?_
  split
  · exact moves_drainCheck (moves_of_same ht)
  · exact moves_refuse ht

theorem ends_jobAbort : Ends k s (execJobAbort p f s) := by
  refine ends_requestEnd fun _ t ht => ?_
  have aborting : Moves k s { t with engine := .aborting, jobAttn := false } := moves_of_same ht
  split
  case h_1 | h_2 | h_3 | h_4 =>
    exact moves_drainCheck (moves_fillFromMailbox (moves_removeEntries trivial aborting.licensed))
  all_goals exact moves_refuse ht

theorem ends_jobClear : Ends k s (execJobClear p f s) := by
  refine ends_requestEnd fun _ t ht => ?_
  split
  case h_1 | h_2 => exact moves_jobs ht (Nat.zero_le _)
  all_goals exact moves_refuse ht

/-! ### The reads -/

/-- A read whose end has no effect of its own (R10, R19). -/
theorem ends_quietRead {c : Command} : Ends k s (readEnd s p c f fun _ _ s' => s') :=
  ends_readEnd fun _ _ _ ht => ht

theorem ends_streamRead : Ends k s (execStreamRead p f s) :=
  ends_readEnd fun _ _ _ ht => moves_setPort ht

theorem ends_readPortStatus : Ends k s (execReadPortStatus p f s) := by
  refine ends_readEnd fun _ _ t ht => ?_
  split
  · exact moves_setPort ht
  · exact ht

theorem ends_eventRead : Ends k s (execEventRead p f s) := by
  refine ends_readEnd fun _ _ t ht => ?_
  split
  · exact moves_of_same ht
  · exact ht

theorem ends_continuationTransaction : Ends k s (execContinuationTransaction p f s) := by
  refine ends_endTransaction fun _ _ _ => ?_
  have he := moves_ended k s p
  split
  · exact moves_refuse he
  · split
    · exact moves_setPort he
    · exact he

theorem ends_unknownCommand (code : Byte) : Ends k s (execUnknownCommand p code f s) := by
  unfold execUnknownCommand
  exact ends_endTransaction fun _ _ _ => moves_refuse (moves_ended k s p)

theorem ends_ignoredTransactionEnd : Ends k s (execIgnoredTransactionEnd p s) := by
  unfold execIgnoredTransactionEnd
  split
  · exact ends_refl k s
  · exact ⟨_, rfl, moves_deselect (.refl k s)⟩
  · split
    · exact ends_refl k s
    · exact ⟨_, rfl, moves_deselect (.refl k s)⟩

/-- A consumption takes one record at most, and the delivery from its transaction (R155, R157). -/
theorem moves_consumeDelivery (h : Moves k s t) : Moves k s (consumeDelivery t p) := by
  unfold consumeDelivery
  dsimp only
  split
  case h_2 | h_3 => exact h
  case h_1 tx hs =>
    have sel {power : Power} : SelMoves power (t.port p).sel (.opened { tx with delivery := none }) :=
      selMoves_of_opened hs rfl rfl rfl
    split
    · split
      · refine h.step <| .port p _ ⟨sel, le_max_of_le_left ?_, id, fun _ => rfl⟩
        dsimp only
        split <;> simp
      · exact h
    · split
      · have popped : Moves k s { t with
            log := if (tx.delivery.map (·.present)).getD false then t.log.drop 1 else t.log } := by
          refine h.step <| .rest rfl ⟨le_max_of_le_left ?_, le_max_left _ _, id, id⟩
          dsimp only
          split <;> simp
        cases p <;> exact moves_setSel popped sel
      · exact h
    · exact h

theorem ends_completionPop : Ends k s (execCompletionPop p s) := by
  unfold execCompletionPop
  split
  · exact ⟨_, rfl, moves_consumeDelivery (.refl k s)⟩
  · exact ends_refl k s

theorem ends_eventPop : Ends k s (execEventPop s) := by
  unfold execEventPop
  split
  · exact ⟨_, rfl, moves_consumeDelivery (.refl k s)⟩
  · exact ends_refl k s

/-- The choice of a record is not that of another read (R155, R157). -/
theorem chooseDelivery_keeps (s : State) (p : Port) (r : ReadOp) (tx : Tx) :
    (chooseDelivery s p r tx).dormant = tx.dormant
      ∧ (chooseDelivery s p r tx).readOp = tx.readOp := by
  unfold chooseDelivery
  repeat' split
  all_goals exact ⟨rfl, rfl⟩

theorem moves_fetchByte (h : Moves k s t) (r : ReadOp) : Moves k s (fetchByte t p r) := by
  have hc : Moves k s (consumeDelivery t p) := moves_consumeDelivery h
  unfold fetchByte
  dsimp only
  split
  · rename_i tx hs
    obtain ⟨flags, he⟩ := dataByte_snd (consumeDelivery t p) p
      (chooseDelivery (consumeDelivery t p) p r tx) r
    obtain ⟨hd, hr⟩ := chooseDelivery_keeps (consumeDelivery t p) p r tx
    rw [he, setPort_setPort, port_setPort_same]
    exact moves_setSel hc (selMoves_of_opened hs rfl hd hr)
  · exact hc
  · exact hc

/-- Bytes taken in leave the transaction what it is. -/
theorem receiveWire_keeps (p : Port) (tx : Tx) (w : List Byte) :
    (receiveWire p tx w).dormant = tx.dormant ∧ (receiveWire p tx w).readOp = tx.readOp := by
  obtain ⟨phase, h⟩ := receiveWire_eq p tx w
  rw [h]
  exact ⟨rfl, rfl⟩

theorem moves_receiveBytes (h : Moves k s t) {tx : Tx} (hs : (t.port p).sel = .opened tx)
    {w : List Byte} : Moves k s (receiveBytes t p tx w) :=
  moves_setSel h (selMoves_of_opened hs rfl (receiveWire_keeps p tx w).1 (receiveWire_keeps p tx w).2)

/-- A read begins in an ACTIVE device alone, and not in a transaction of the dormant state (R168). -/
theorem moves_startRead (h : Moves k s t) {tx : Tx} {r : ReadOp} (hp : t.power = .active)
    (hd : tx.dormant = false) : Moves k s (startRead t p tx r) := by
  refine moves_setSel h fun tx' he => ?_
  cases he
  exact .inl ⟨hp, hd⟩

theorem ends_dataByteFetch (w : List Byte) : Ends k s (execDataByteFetch p w s) := by
  have hb : Moves k s (beginTransaction s p) := moves_beginTransaction (.refl k s)
  unfold execDataByteFetch
  dsimp only
  split
  · exact ends_refl k s
  · exact ends_refl k s
  · rename_i tx hs
    split
    · exact ends_refl k s
    · rename_i hc
      simp only [Bool.or_eq_true, bne_iff_ne, ne_eq, not_or, Bool.not_eq_true, not_not] at hc
      obtain ⟨hd, hp⟩ := hc
      have hr := moves_receiveBytes hb hs (w := w)
      split
      · exact ⟨_, rfl, moves_fetchByte hb _⟩
      · unfold firstFetch
        dsimp only
        split
        · exact ⟨_, rfl, moves_fetchByte (moves_startRead hr (by simpa [receiveBytes] using hp)
            ((receiveWire_keeps p tx w).1.trans hd)) _⟩
        · exact ⟨_, rfl, hr⟩

/-! ### The resets of one port and the dormant state -/

theorem relabelled_orphaned (o : Origin) (e : Entry) : Relabelled e (orphaned o e) := by
  unfold orphaned
  split
  · exact ⟨_, _, _, rfl, fun _ => rfl⟩
  · exact relabelled_refl e

theorem moves_orphanEntries (hk : k.shrink) (h : Moves k s t) {o : Origin} :
    Moves k s (orphanEntries t o) :=
  (moves_removeEntries hk h).step <| .relabel _
    (List.forall₂_map_right_iff.mpr (List.forall₂_same.mpr fun e _ => relabelled_orphaned o e))

theorem moves_resetEngine (hk : k.shrink) (h : Moves k s t) : Moves k s (resetEngine t) :=
  moves_jobs (moves_orphanEntries hk h) (Nat.zero_le _)

theorem mailboxSound_of_empty {u : State} (h : ∀ i, (u.slot i).state ≠ .releasing) : MailboxSound u :=
  fun _ hr => absurd hr (not_or.mpr ⟨h .s0, h .s1⟩)

theorem moves_resetShared (h : Moves ⟨k.arm, True⟩ s t) : Moves k s (resetShared t p) := by
  cases p with
  | a =>
    refine .settle ((h.step <| .clear .s0).step <| .clear .s1) (mailboxSound_of_empty fun i => ?_)
    rw [resetShared, emptySlots_eq]
    cases i <;> exact SlotState.noConfusion
  | m => exact moves_fillFromMailbox (moves_resetEngine trivial h)

/-- A soft reset puts its port's own state at its power-on values, the latch among it (R165). -/
theorem moves_resetPortState (hk : k.arm p) (h : Moves k s t) : Moves k s (resetPortState t p) := by
  have hp : PortMoves k.arm t p { PortState.reset with sel := (t.port p).sel } :=
    ⟨selMoves_of_eq rfl, Nat.zero_le _, fun _ => (by decide : PortState.reset.tagNext ≠ 0),
      fun hn => absurd hk hn⟩
  exact moves_takeDefaults (h.step <| .port p _ hp)

theorem moves_softReset (hk : k.arm p) (h : Moves k s t) : Moves k s (softReset t p) :=
  moves_logEvent (moves_resetShared
    (moves_orphanEntries trivial (moves_resetPortState hk h).licensed))

theorem ends_resetPort (hk : k.arm p) : Ends k s (execResetPort p f s) := by
  refine ends_requestEnd fun _ t ht => ?_
  split
  · exact moves_softReset hk ht
  · exact moves_refuse ht

theorem abandonPortA_keeps (ps : PortState) (w : List Byte) :
    ((abandonPortA ps w).fifo, (abandonPortA ps w).tagNext, (abandonPortA ps w).wel)
        = (ps.fifo, ps.tagNext, ps.wel)
      ∧ ∀ tx, (abandonPortA ps w).sel ≠ .opened tx := by
  unfold abandonPortA
  split
  · rename_i hs
    exact ⟨rfl, by simp [hs]⟩
  · rename_i hs
    exact ⟨rfl, by simp [hs]⟩
  · split <;> exact ⟨rfl, settledSel_ne_opened _⟩

/-- An accepted DORMANT leaves neither port in a transaction (R167). -/
theorem moves_enterDormant (h : Moves k s t) (w : List Byte) (hp : t.power = .active)
    (hm : ∀ tx, t.portM.sel ≠ .opened tx) : Moves k s (enterDormant t w) := by
  obtain ⟨hkept, hclosed⟩ := abandonPortA_keeps t.portA w
  refine (moves_setSel (p := .a) h (selMoves_of_closed hclosed) hkept).step <| .power .dormant (.inl ?_) ?_
  · intro q
    cases q
    · exact hclosed
    · exact hm
  · exact fun _ => operating_of_active hp

theorem ends_dormant (w : List Byte) : Ends k s (execDormant p f w s) := by
  refine ends_arriving fun tx hd hr _ => moves_decided (moves_ended k s p) fun _ => ?_
  obtain ⟨⟨hp, -⟩, -⟩ := hd
  obtain ⟨ps, he⟩ := ended_eq s p
  refine moves_enterDormant (moves_ended k s p) w (by rw [he, State.setPort_power, hp]) fun tx hs => ?_
  cases p with
  | a => cases hr
  | m => exact Sel.noConfusion ((ended_sel s .m).symm.trans hs)

theorem moves_wakeUp (h : Moves k s t) : Moves k s (wakeUp t p) := by
  have hl : Moves k s (t.setPort p { t.port p with latch := [], received := 0 }) := moves_setPort h
  unfold wakeUp
  dsimp only
  split
  · rename_i hd
    have woken := hl.step <| .power .active (.inr ⟨by rw [State.setPort_power, hd], rfl⟩)
      fun _ => by simp [operating, hd]
    split
    · exact moves_startWatchdog woken
    · exact woken
  · exact hl

theorem ends_wake : Ends k s (execWake p f s) := by
  have hb : Moves k s (beginTransaction s p) := moves_beginTransaction (.refl k s)
  unfold execWake
  dsimp only
  split
  · exact ⟨_, rfl, hb⟩
  · exact ⟨_, rfl, moves_deselect hb⟩
  · split
    · exact ⟨_, rfl, moves_deselect hb⟩
    · split
      · refine ⟨_, rfl, ?_⟩
        unfold wakeEnd
        split
        · split
          · exact moves_deselect hb
          · exact moves_refuseTorn (moves_ended k s p)
        · exact moves_wakeUp (moves_ended k s p)
      · exact ends_refl k s

/-! ### The events inside the device -/

theorem ends_releasingSlotEntry : Ends k s (execReleasingSlotEntry s) := by
  unfold execReleasingSlotEntry
  split
  · exact ⟨_, rfl, moves_fillFromMailbox (.refl _ s)⟩
  · exact ends_refl k s

theorem ends_entryStart : Ends k s (execEntryStart s) := by
  unfold execEntryStart
  split
  · split
    · rename_i e q hq
      have started : Moves k s { s with queue := q } :=
        (Moves.refl k s).step <| .relabel q (relabelled_startOldest hq)
      exact ⟨_, rfl, moves_startEffect started⟩
    · exact ends_refl k s
  · exact ends_refl k s

theorem ends_entryRestart : Ends k s (execEntryRestart s) := by
  have restarted := (Moves.refl k s).step <| .relabel _ (relabelled_updateFirst (has := isSuspended)
    (g := fun e => { e with state := .active, resumePending := false })
    (fun e => ⟨_, _, _, rfl, id⟩) s.queue)
  unfold execEntryRestart
  split
  · split
    · split
      · exact ⟨_, rfl, moves_of_same restarted⟩
      · exact ends_refl k s
    · exact ends_refl k s
  · exact ends_refl k s

theorem ends_suspendTaken : Ends k s (execSuspendTaken s) := by
  have suspended := (Moves.refl k s).step <| .relabel _ (relabelled_updateFirst (has := isActive)
    (g := fun e => { e with state := .suspended, resumePending := false })
    (fun e => ⟨_, _, _, rfl, id⟩) s.queue)
  unfold execSuspendTaken
  split
  · exact ⟨_, rfl, moves_of_same suspended⟩
  · exact ends_refl k s

theorem ends_runQuantumExpiry : Ends k s (execRunQuantumExpiry s) := by
  unfold execRunQuantumExpiry
  split
  · exact ⟨_, rfl, moves_of_same (.refl k s)⟩
  · exact ends_refl k s

theorem ends_holdDeadlineExpiry : Ends k s (execHoldDeadlineExpiry s) := by
  unfold execHoldDeadlineExpiry
  split
  · split
    · exact ⟨_, rfl, moves_expireHold (.refl k s)⟩
    · exact ends_refl k s
  · exact ends_refl k s

theorem ends_trapDeadlineExpiry (i : SlotId) : Ends k s (execTrapDeadlineExpiry i s) := by
  unfold execTrapDeadlineExpiry
  split
  · rename_i h
    obtain ⟨-, hs, -⟩ := h
    exact ⟨_, rfl, moves_resolveByDefault (.refl k s) (by simp [hs])⟩
  · exact ends_refl k s

theorem ends_watchdogWarningPoint : Ends k s (execWatchdogWarningPoint s) := by
  unfold execWatchdogWarningPoint
  split
  · exact ⟨_, rfl, moves_of_same (.refl k s)⟩
  · exact ends_refl k s

theorem ends_watchdogLapse : Ends k s (execWatchdogLapse s) := by
  unfold execWatchdogLapse
  split
  · exact ⟨_, rfl, moves_lapse (.refl k s)⟩
  · exact ends_refl k s

theorem ends_jobStepIssue : Ends k s (execJobStepIssue s) := by
  unfold execJobStepIssue
  split
  · split
    · exact ends_refl k s
    · split
      · exact ends_refl k s
      · exact ⟨_, rfl, moves_tryStep (.refl k s)⟩
  · exact ends_refl k s

theorem ends_chunkRead : Ends k s (execChunkRead s) := by
  unfold execChunkRead
  split
  · split
    · exact ends_refl k s
    · split
      · exact ⟨_, rfl, moves_verifyChunk (.refl k s)⟩
      · exact ⟨_, rfl, moves_digestChunk (.refl k s)⟩
      all_goals exact ends_refl k s
  · exact ends_refl k s

theorem ends_tick : Ends k s (execTick s) := by
  have ticked : Moves k s ((s.setSlot .s0 { s.slot0 with
      deadline := tickTimer s.started.trap0 s.slot0.deadline }).setSlot .s1 { s.slot1 with
      deadline := tickTimer s.started.trap1 s.slot1.deadline }) :=
    moves_setSlot (moves_setSlot (.refl k s))
  unfold execTick
  split
  · exact ⟨_, rfl, moves_of_same ticked⟩
  · exact ends_refl k s

theorem ends_operationCompletion (stuck : StuckBits) : Ends k s (execOperationCompletion stuck s) := by
  unfold execOperationCompletion
  split
  · split
    · exact ends_refl k s
    · rename_i e he
      have hr : activeEntry (operationResult s e stuck).1 = some e := by
        rw [activeEntry, queue_operationResult]
        exact he
      exact ⟨_, rfl, moves_fillFromMailbox (moves_reportOutcome
        (moves_removeActive trivial (moves_operationResult (.refl _ s)) hr))⟩
  · exact ends_refl k s

/-! ### The supply and RESET_N -/

theorem length_abandonedSlot (t : State) (slot : Option (List Byte)) :
    (abandonedSlot t slot).length = Config.slotBytes := by
  unfold abandonedSlot
  split
  · exact length_commitBytes t
  · exact unfinishedSlot_length (by simp [slotFit, blankSlot])

theorem moves_abortTarget (h : Moves k s t) {e : Entry} {stuck : StuckBits}
    {slot : Option (List Byte)} : Moves k s (abortTarget t e stuck slot) := by
  unfold abortTarget
  split
  case h_5 | h_6 =>
    split
    · exact moves_of_same h
    · exact h
  case h_7 =>
    split
    · exact moves_setStore h (length_abandonedSlot t slot)
    · exact h
    · exact h
  case h_8 => exact h
  all_goals exact moves_of_same h

theorem moves_abortOperations (k : Licence) (s : State) (left : Leftover) :
    Moves k s (abortOperations s left) := by
  have ha : Moves k s (abortActive s left) := by
    unfold abortActive
    split
    · exact moves_abortTarget (.refl k s)
    · exact .refl k s
  unfold abortOperations abortSuspended
  split
  · split
    · exact moves_abortTarget ha
    · exact ha
  · exact .refl k s

theorem moves_powerOnStep (hk : ∀ q, k.arm q) (h : Moves k s t) : Moves k s (powerOnStep t) :=
  moves_loadConfig (h.step <| .wipe hk .active)

theorem moves_foldl_logAborted (rs : List Aborted) (h : Moves k s t) :
    Moves k s (rs.foldl logAborted t) := by
  induction rs generalizing t with
  | nil => exact h
  | cons r rs ih => exact ih (moves_logEvent h)

theorem ends_powerOn (hk : ∀ q, k.arm q) (left : Leftover) : Ends k s (execPowerOn left s) := by
  have ha : Moves k s { abortOperations s left with sessionLock := false } :=
    moves_of_same (moves_abortOperations k s left)
  unfold execPowerOn
  dsimp only
  split
  · exact ⟨_, rfl, moves_powerOnStep hk ha⟩
  · exact ⟨_, rfl, ha.step <| .wipe hk .waiting⟩

theorem ends_powerLoss (hk : ∀ q, k.arm q) (left : Leftover) : Ends k s (execPowerLoss left s) := by
  have ha := (moves_abortOperations k s left).step <| .wipe hk .off
  unfold execPowerLoss
  split
  · exact ends_refl k s
  all_goals exact ⟨_, rfl, moves_of_same ha⟩

/-- The fall of RESET_N: what ran leaves the queue, the transactions are abandoned, the trap deadlines stop
(R162). -/
theorem moves_enterReset (k : Licence) (s : State) (left : Leftover) :
    Moves k s (enterReset s left) := by
  have closed (power : Power) (ps : PortState) : SelMoves power ps.sel (abandonTx ps).sel :=
    selMoves_of_closed (settledSel_ne_opened _)
  have gone : Moves ⟨k.arm, True⟩ s (removeEntries (abortOperations s left) fun e => !isWaiting e) :=
    moves_removeEntries trivial (moves_abortOperations _ s left)
  have abandoned := moves_setSel (p := .m) (moves_setSel (p := .a) gone (closed _ _)) (closed _ _)
  have stopped := moves_setSlot (i := .s1) (moves_setSlot (i := .s0) abandoned
    (sl := { (removeEntries (abortOperations s left) fun e => !isWaiting e).slot0 with
      deadline := none }))
    (sl := { (removeEntries (abortOperations s left) fun e => !isWaiting e).slot1 with
      deadline := none })
  have reset := stopped.step <| .power .inReset (.inl fun q => by cases q <;> exact settledSel_ne_opened _)
    fun ho => by cases ho
  exact .settle (moves_of_same reset) fun ho => by cases ho

theorem ends_resetNAssert (left : Leftover) : Ends k s (execResetNAssert left s) := by
  unfold execResetNAssert
  split
  case h_1 | h_2 => exact ⟨_, rfl, moves_enterReset k s left⟩
  all_goals exact ⟨_, rfl, moves_of_same (.refl k s)⟩

theorem ends_resetNRelease (hk : ∀ q, k.arm q) : Ends k s (execResetNRelease s) := by
  have high : Moves k s { s with resetN := true } := moves_of_same (.refl k s)
  have unlocked : Moves k s { s with resetN := true, sessionLock := false } :=
    moves_of_same (.refl k s)
  unfold execResetNRelease
  split
  · exact ⟨_, rfl, moves_foldl_logAborted _ (moves_powerOnStep hk high)⟩
  · exact ⟨_, rfl, moves_powerOnStep hk unlocked⟩
  all_goals exact ⟨_, rfl, high⟩

end

/-! ### Every command -/

/-- The commands that may change a port's write-arm latch (R34, R35, R161, R165). -/
def mayArm : Instr → Port → Prop
  | .armWrite p _, q | .disarmWrite p _, q | .pageProgram p _, q | .sectorErase p _, q
  | .blockErase p _, q | .commit p _, q | .sealProgram p _, q | .sealLock p _, q
  | .guardFuse p _, q | .resetPort p _, q => q = p
  | .powerOn _, _ | .powerLoss _, _ | .resetNRelease, _ => True
  | _, _ => False

/-- Every command is a run of moves, after which RELEASING slots have been let in. -/
theorem exec_moves (i : Instr) (s : State) : Ends ⟨mayArm i, False⟩ s (exec i s) := by
  cases i
  case dataByteFetch p w => exact ends_dataByteFetch w
  case armWrite p f => exact ends_latch rfl true
  case disarmWrite p f => exact ends_latch rfl false
  case setLanes p f => exact ends_settings (g := fun ps => { ps with lane := _ }) fun _ => rfl
  case setWait p f => exact ends_settings (g := fun ps => { ps with wait := _ }) fun _ => rfl
  case setWrap p f => exact ends_settings (g := fun ps => { ps with wrap := _ }) fun _ => rfl
  case setIrqMask p f =>
    exact ends_settings (checks := []) (g := fun ps => { ps with irqMask := _ }) fun _ => rfl
  case resetArm p f =>
    exact ends_settings (checks := []) (g := fun ps => { ps with resetArmed := _ }) fun _ => rfl
  case pageProgram p f => exact ends_armed (armed_pageProgram p f) rfl
  case sectorErase p f => exact ends_armed (armed_sectorErase p f) rfl
  case blockErase p f => exact ends_armed (armed_blockErase p f) rfl
  case suspend => exact ends_suspend
  case resume => exact ends_resume
  case cancel => exact ends_cancel
  case resetPort => exact ends_resetPort rfl
  case dormant => exact ends_dormant _
  case wake => exact ends_wake
  case tableWriteEntry => exact ends_tableWriteEntry
  case tableClearEntry => exact ends_tableClearEntry
  case stageFromActive => exact ends_stageFromActive
  case commit p f => exact ends_armed (armed_commit p f) rfl
  case swapViews => exact ends_swapViews
  case settingsWriteStaged => exact ends_settingsWriteStaged
  case settingsWriteLive => exact ends_settingsWriteLive
  case lockSession => exact ends_lockSession
  case mailboxRelease => exact ends_mailboxRelease
  case mailboxRedirect => exact ends_mailboxRedirect
  case mailboxDeny => exact ends_mailboxDeny
  case mailboxDataWrite => exact ends_mailboxDataWrite
  case releasingSlotEntry => exact ends_releasingSlotEntry
  case heartbeat => exact ends_heartbeat
  case jobLoad => exact ends_jobLoad
  case jobStart => exact ends_jobStart
  case jobPause => exact ends_jobPause
  case jobAbort => exact ends_jobAbort
  case jobClear => exact ends_jobClear
  case sealProgram p f => exact ends_armed (armed_sealProgram p f) rfl
  case sealLock p f => exact ends_armed (armed_sealLock p f) rfl
  case guardFuse p f => exact ends_armed (armed_guardFuse p f) rfl
  case streamRead => exact ends_streamRead
  case continuationTransaction => exact ends_continuationTransaction
  case readPortStatus => exact ends_readPortStatus
  case unknownCommand p code f => exact ends_unknownCommand (f := f) code
  case completionPop => exact ends_completionPop
  case eventRead => exact ends_eventRead
  case eventPop => exact ends_eventPop
  case entryStart => exact ends_entryStart
  case entryRestart => exact ends_entryRestart
  case operationCompletion stuck => exact ends_operationCompletion stuck
  case suspendTaken => exact ends_suspendTaken
  case runQuantumExpiry => exact ends_runQuantumExpiry
  case holdDeadlineExpiry => exact ends_holdDeadlineExpiry
  case trapDeadlineExpiry slot => exact ends_trapDeadlineExpiry slot
  case watchdogWarningPoint => exact ends_watchdogWarningPoint
  case watchdogLapse => exact ends_watchdogLapse
  case jobStepIssue => exact ends_jobStepIssue
  case chunkRead => exact ends_chunkRead
  case powerOn left => exact ends_powerOn (fun _ => trivial) left
  case powerLoss left => exact ends_powerLoss (fun _ => trivial) left
  case resetNAssert left => exact ends_resetNAssert left
  case resetNRelease => exact ends_resetNRelease fun _ => trivial
  case transactionBegin => exact ⟨_, rfl, moves_beginTransaction (.refl _ s)⟩
  case ignoredTransactionEnd => exact ends_ignoredTransactionEnd
  case tick => exact ends_tick
  case guardNChange => exact ⟨_, rfl, moves_of_same (.refl _ s)⟩
  all_goals exact ends_quietRead

theorem moves_of_ends {k : Licence} {s t : State} {o : Host.Outcome State Fault Refusal}
    (h : Ends k s o) (ho : o = .next t) : Moves k s t := by
  obtain ⟨u, hu, hm⟩ := h
  rw [hu] at ho
  cases ho
  exact moves_of_same hm

/-- Runs follow on each other. -/
theorem Moves.trans {k : Licence} {s t u : State} (h : Moves k s t) (h' : Moves k t u) :
    Moves k s u := by
  induction h' with
  | refl k s => exact h
  | step _ m ih => exact (ih h).step m
  | leave _ hk gone q hq ih => exact (ih h).leave hk gone q hq
  | settle _ hm ih => exact .settle (ih h.licensed) hm

/-- A step is a run of moves that leaves no RELEASING slot waiting (R17). -/
theorem step_moves {s t : State} (h : step s = .next t) : ∃ arm, Moves ⟨arm, False⟩ s t := by
  cases hp : s.pending with
  | nil =>
    rw [step_of_idle hp] at h
    cases h
    obtain ⟨waiting, coming, n, hn⟩ := nextInstant_eq s
    exact ⟨fun _ => False, by rw [hn]; exact moves_of_same (.refl _ s)⟩
  | cons c rest =>
    rw [step_of_pending hp] at h
    have hm := moves_of_ends (exec_moves c { s with pending := rest }) h
    exact ⟨_, (moves_of_same (.refl _ s)).trans hm⟩

end Sys2Proof.Machine

namespace Sys2Proof.Machine

set_option Elab.async false

/-! ### Invariants of every step, by the moves -/

/-- What every move keeps, and every departure from the queue, is kept by a run. -/
theorem Moves.keeps {P : State → Prop} {k : Licence} {s u : State} (h : Moves k s u)
    (move : ∀ {arm t u}, Move arm t u → P t → P u)
    (leave : ∀ {t : State} {gone q}, t.queue.Perm (gone ++ q) → P t →
      P { t with queue := q, pool := poolWithout t gone }) (hs : P s) : P u := by
  induction h with
  | refl k s => exact hs
  | step _ m ih => exact move m (ih hs)
  | leave _ _ gone q hq ih => exact leave hq (ih hs)
  | settle _ _ ih => exact ih hs

section
variable {arm : Port → Prop} {t u : State}

/-! ### Selections, counters, store slots and the mailbox -/

theorem shared_power (h : shared u = shared t) : u.power = t.power := congrArg (·.1.1) h

theorem shared_port (h : shared u = shared t) (p : Port) : u.port p = t.port p := by
  cases p
  · exact congrArg (·.1.2.1) h
  · exact congrArg (·.1.2.2) h

theorem shared_pool (h : shared u = shared t) : u.pool = t.pool := congrArg (·.2.1) h

theorem shared_queue (h : shared u = shared t) : u.queue = t.queue := congrArg (·.2.2.1) h

theorem shared_slot (h : shared u = shared t) (i : SlotId) : u.slot i = t.slot i := by
  cases i
  · exact congrArg (·.2.2.2.1) h
  · exact congrArg (·.2.2.2.2) h

theorem power_slotToQueue (t : State) (i : SlotId) : (slotToQueue t i).power = t.power := by
  simp [slotToQueue, enqueue]

theorem port_slotToQueue (t : State) (i : SlotId) (p : Port) : (slotToQueue t i).port p = t.port p := by
  rw [slotToQueue, port_setSlot]
  rfl

theorem selectionSound_of_eq (hp : u.power = t.power) (hs : ∀ p, u.port p = t.port p)
    (h : SelectionSound t) : SelectionSound u := by
  intro p tx htx
  rw [hs] at htx
  rw [hp]
  exact h p tx htx

theorem Move.selectionSound (m : Move arm t u) (h : SelectionSound t) : SelectionSound u := by
  cases m with
  | rest hs _ => exact selectionSound_of_eq (shared_power hs) (shared_port hs) h
  | port p qs hp =>
    intro q tx htx
    rw [State.setPort_power]
    by_cases hq : q = p
    · subst hq
      rw [port_setPort_same] at htx
      obtain ⟨ha, hd⟩ | ⟨hdo, hd, hr⟩ | ⟨tx', ho, hd, hr⟩ := hp.sel tx htx
      · exact ⟨.inl ha, by simp [hd]⟩
      · exact ⟨.inr ⟨hdo, hd⟩, fun _ => hr⟩
      · rw [hd, hr]
        exact h q tx' ho
    · exact h q tx (port_setPort_ne t qs hq ▸ htx)
  | power P hx _ =>
    intro p tx htx
    obtain hn | ⟨_, rfl⟩ := hx
    · exact absurd htx (hn p tx)
    · exact ⟨.inl rfl, (h p tx htx).2⟩
  | slot | hold => exact selectionSound_of_eq (by simp) (by simp [State.port]) h
  | clear i =>
    rw [emptySlotAt_eq]
    exact selectionSound_of_eq (by simp) (by simp [State.port]) h
  | pass => exact selectionSound_of_eq (power_slotToQueue t _) (port_slotToQueue t _) h
  | join | relabel | data => exact selectionSound_of_eq rfl (fun _ => rfl) h
  | wipe _ P =>
    intro p tx htx
    cases p <;> exact absurd htx (settledSel_ne_opened _ _)

/-- The counters that are never 0 and the store slots (R48, R113, chapter 8.3). -/
def CountersAndStoreSound (s : State) : Prop := TagsSound s ∧ StoreSound s

theorem countersAndStoreSound_of_eq
    (e : (u.portA.tagNext, u.portM.tagNext, u.jobIdNext, u.store0, u.store1)
      = (t.portA.tagNext, t.portM.tagNext, t.jobIdNext, t.store0, t.store1))
    (h : CountersAndStoreSound t) : CountersAndStoreSound u := by
  simp only [Prod.mk.injEq] at e
  obtain ⟨ha, hm, hj, h0, h1⟩ := e
  unfold CountersAndStoreSound TagsSound StoreSound
  rw [ha, hm, hj, h0, h1]
  exact h

theorem Move.countersAndStoreSound (m : Move arm t u) (h : CountersAndStoreSound t) :
    CountersAndStoreSound u := by
  cases m with
  | rest hs hr =>
    obtain ⟨⟨ha, hm, hj⟩, hst⟩ := h
    have ea : u.portA = t.portA := shared_port hs .a
    have em : u.portM = t.portM := shared_port hs .m
    exact ⟨⟨ea ▸ ha, em ▸ hm, hr.jobId hj⟩, hr.store hst⟩
  | port p qs hp =>
    obtain ⟨⟨ha, hm, hj⟩, hst⟩ := h
    cases p
    · exact ⟨⟨hp.tag ha, hm, hj⟩, hst⟩
    · exact ⟨⟨ha, hp.tag hm, hj⟩, hst⟩
  | slot | hold => exact countersAndStoreSound_of_eq (by simp) h
  | clear i =>
    rw [emptySlotAt_eq]
    exact countersAndStoreSound_of_eq (by simp) h
  | pass => exact countersAndStoreSound_of_eq (by simp [slotToQueue, enqueue]) h
  | power | join | relabel | data => exact countersAndStoreSound_of_eq rfl h
  | wipe =>
    have one : (1 : Byte) ≠ 0 := by decide
    exact ⟨⟨one, one, one⟩, h.2⟩

/-- A slot that is RELEASING was so before, and the queue has not become shorter. -/
theorem mailboxSound_of_grows (hm : MailboxSound t) (ho : operating u = operating t)
    (hs : ∀ i, (u.slot i).state = .releasing → (t.slot i).state = .releasing ∨ queueFull t = true)
    (hq : t.queue.length ≤ u.queue.length) : MailboxSound u := by
  intro hu hr
  have full : queueFull t = true := by
    obtain h0 | h1 := hr
    · obtain h | h := hs .s0 h0
      · exact hm (ho ▸ hu) (.inl h)
      · exact h
    · obtain h | h := hs .s1 h1
      · exact hm (ho ▸ hu) (.inr h)
      · exact h
  rw [queueFull_eq_true] at full ⊢
  exact full.trans hq

theorem operating_of_power (h : u.power = t.power) : operating u = operating t := by
  rw [operating, operating, h]

/-- A slot that is filled anew, and not RELEASING, or only as `SlotMoves` lets it be. -/
theorem releasing_setSlot {i : SlotId} {sl : MailSlot}
    (h : sl.state = .releasing → (t.slot i).state = .releasing ∨ queueFull t = true) (j : SlotId)
    (hj : ((t.setSlot i sl).slot j).state = .releasing) :
    (t.slot j).state = .releasing ∨ queueFull t = true := by
  by_cases hji : j = i
  · subst hji
    rw [slot_setSlot_same] at hj
    exact h hj
  · exact .inl (slot_setSlot_ne t sl hji ▸ hj)

theorem not_releasing_emptySlot : emptySlot.state ≠ .releasing := SlotState.noConfusion

theorem Move.mailboxSound (m : Move arm t u) (h : MailboxSound t) : MailboxSound u := by
  cases m with
  | rest hs _ =>
    exact mailboxSound_of_grows h (operating_of_power (shared_power hs))
      (fun i hi => .inl (shared_slot hs i ▸ hi)) (by rw [shared_queue hs])
  | port p qs _ =>
    exact mailboxSound_of_grows h (operating_of_power (by simp))
      (fun i hi => .inl (slot_setPort t p qs i ▸ hi)) (by simp)
  | power P _ ho => exact fun hu hr => h (ho hu) hr
  | slot i sl hs =>
    exact mailboxSound_of_grows h (operating_of_power (by simp))
      (releasing_setSlot hs.releasing) (by simp)
  | clear i =>
    rw [emptySlotAt_eq]
    exact mailboxSound_of_grows h (operating_of_power (by simp))
      (releasing_setSlot (t := { t with pool := _ }) fun he => absurd he not_releasing_emptySlot) (by simp)
  | pass i _ _ =>
    refine mailboxSound_of_grows h (operating_of_power (power_slotToQueue t i)) (fun j hj => ?_)
      (by simp [slotToQueue, enqueue])
    by_cases hji : j = i
    · subst hji
      rw [slotToQueue, slot_setSlot_same] at hj
      exact absurd hj not_releasing_emptySlot
    · rw [slotToQueue, slot_setSlot_ne _ _ hji] at hj
      exact .inl hj
  | hold i sl pool _ hs _ _ =>
    exact mailboxSound_of_grows h (operating_of_power (by simp))
      (releasing_setSlot (t := { t with pool := pool }) fun he => by simp [hs] at he) (by simp)
  | join e =>
    exact mailboxSound_of_grows h rfl (fun _ hi => .inl hi) (by simp)
  | relabel q hq => exact mailboxSound_of_grows h rfl (fun _ hi => .inl hi) hq.length_eq.le
  | data => exact mailboxSound_of_grows h rfl (fun _ hi => .inl hi) le_rfl
  | wipe => exact mailboxSound_of_empty fun i => by cases i <;> exact not_releasing_emptySlot

end

/-- A run that takes no entry out of the queue, or lets the RELEASING slots in after, keeps the mailbox
sound. -/
theorem Moves.mailboxSound {k : Licence} {s u : State} (h : Moves k s u) (hk : ¬ k.shrink)
    (hs : MailboxSound s) : MailboxSound u := by
  induction h with
  | refl k s => exact hs
  | step _ m ih => exact m.mailboxSound (ih hk hs)
  | leave _ hk' => exact absurd hk' hk
  | settle _ hm => exact hm

/-- Settles O9: the selection, the counters and the store slots move by move, the mailbox by the runs in which
RELEASING slots are let in after every departure from the queue. -/
theorem portsMailboxTagsStoreStaySound : Obligations.PortsMailboxTagsStoreStaySound := by
  unfold Obligations.PortsMailboxTagsStoreStaySound
  refine ⟨fun s t hs hst => ?_, fun s t ⟨hsel, hcs⟩ hst => ?_⟩
  · obtain ⟨arm, hm⟩ := step_moves hst
    exact hm.mailboxSound id hs
  · obtain ⟨arm, hm⟩ := step_moves hst
    exact ⟨hm.keeps Move.selectionSound (fun _ h => h) hsel,
      hm.keeps Move.countersAndStoreSound (fun _ h => h) hcs⟩

end Sys2Proof.Machine

namespace Sys2Proof.Machine

set_option Elab.async false

/-! ### The room of queue, FIFOs, log and job list -/

/-- What of an origin is outstanding (R50, R122), and how much of it there may be. -/
def liveCount (s : State) : Origin → Nat
  | .a => outstanding s .a
  | .m => outstanding s .m
  | .job => stepsOutstanding s

def liveCap : Origin → Nat
  | .a | .m => Config.outstandingCap
  | .job => Config.jobWindow

/-- The filled slots are Port A's (R50). -/
def heldFor (s : State) : Origin → Nat
  | .a => heldCount s .a
  | .m | .job => 0

theorem liveCount_eq (s : State) (o : Origin) :
    liveCount s o = s.queue.countP (ownedLive o) + heldFor s o := by cases o <;> rfl

theorem originRoom_iff {s : State} {o : Origin} : OriginRoom s o ↔ liveCount s o < liveCap o := by
  cases o <;> exact Iff.rfl

def QueueWithin (s : State) : Prop :=
  s.queue.length ≤ Config.queueDepth ∧ ∀ o, liveCount s o ≤ liveCap o

def ListsWithin (s : State) : Prop :=
  (∀ p, (s.port p).fifo.length ≤ Config.fifoDepth) ∧ s.log.length ≤ Config.logDepth
    ∧ s.jobs.length ≤ Config.jobListDepth

theorem withinCapacity_iff {s : State} : WithinCapacity s ↔ QueueWithin s ∧ ListsWithin s := by
  constructor
  · rintro ⟨hq, ha, hm, hj, hfa, hfm, hl, hjl⟩
    exact ⟨⟨hq, fun o => by cases o <;> assumption⟩, fun p => by cases p <;> assumption, hl, hjl⟩
  · rintro ⟨⟨hq, ho⟩, hf, hl, hj⟩
    exact ⟨hq, ho .a, ho .m, ho .job, hf .a, hf .m, hl, hj⟩

section
variable {arm : Port → Prop} {t u : State}

theorem heldFor_of_slots (h : ∀ i, slotFilled (u.slot i) = slotFilled (t.slot i)) (o : Origin) :
    heldFor u o = heldFor t o := by
  have h0 : slotFilled u.slot0 = slotFilled t.slot0 := h .s0
  have h1 : slotFilled u.slot1 = slotFilled t.slot1 := h .s1
  cases o <;> simp only [heldFor, heldCount, h0, h1]

/-- A slot counts for Port A while it is filled. -/
theorem liveCount_setSlot (t : State) (i : SlotId) (sl : MailSlot) (o : Origin) :
    liveCount (t.setSlot i sl) o + (if o = .a then bit (slotFilled (t.slot i)) else 0)
      = liveCount t o + if o = .a then bit (slotFilled sl) else 0 := by
  rw [liveCount_eq, liveCount_eq, State.setSlot_queue]
  cases o with
  | a => cases i <;> simp only [heldFor, heldCount, State.setSlot, State.slot, if_true] <;> omega
  | m | job => rfl

/-- One more entry, which is no orphan, counts for its own origin alone. -/
theorem liveCount_enqueue (t : State) {e : Entry} (hl : e.orphan = false) (o : Origin) :
    liveCount (enqueue t e) o = liveCount t o + if e.origin = o then 1 else 0 := by
  have one : (t.queue ++ [e]).countP (ownedLive o)
      = t.queue.countP (ownedLive o) + if e.origin = o then 1 else 0 := by
    simp [ownedLive, hl, List.countP_append, List.countP_singleton]
  have held : heldFor (enqueue t e) o = heldFor t o := heldFor_of_slots (fun i => by cases i <;> rfl) o
  rw [liveCount_eq, liveCount_eq, held, enqueue, one]
  omega

theorem queueWithin_of_le (hq : u.queue.length ≤ t.queue.length)
    (hc : ∀ o, liveCount u o ≤ liveCount t o) (h : QueueWithin t) : QueueWithin u :=
  ⟨hq.trans h.1, fun o => (hc o).trans (h.2 o)⟩

theorem queueWithin_of_same (hq : u.queue = t.queue) (hs : ∀ i, u.slot i = t.slot i)
    (h : QueueWithin t) : QueueWithin u := by
  refine queueWithin_of_le (by rw [hq]) (fun o => ?_) h
  rw [liveCount_eq, liveCount_eq, hq, heldFor_of_slots (fun i => congrArg slotFilled (hs i)) o]

theorem countP_relabelled {q q' : List Entry} (h : List.Forall₂ Relabelled q q') (o : Origin) :
    q'.countP (ownedLive o) ≤ q.countP (ownedLive o) := by
  induction h with
  | nil => exact le_rfl
  | @cons e e' q q' he _ ih =>
    obtain ⟨st, rp, orphan, rfl, ho⟩ := he
    have live (h : ownedLive o { e with state := st, resumePending := rp, orphan := orphan } = true) :
        ownedLive o e = true := by
      simp only [ownedLive, Bool.and_eq_true, Bool.not_eq_true'] at h ⊢
      obtain ⟨horigin, hlive⟩ := h
      refine ⟨horigin, Bool.eq_false_iff.mpr fun he => ?_⟩
      rw [ho he] at hlive
      cases hlive
    rw [List.countP_cons, List.countP_cons]
    refine Nat.add_le_add ih ?_
    split
    · rw [if_pos (live ‹_›)]
    · exact Nat.zero_le _

theorem queueWithin_setSlot {i : SlotId} {sl : MailSlot}
    (hs : bit (slotFilled sl) ≤ bit (slotFilled (t.slot i))) (h : QueueWithin t) :
    QueueWithin (t.setSlot i sl) := by
  refine queueWithin_of_le (by simp) (fun o => ?_) h
  have := liveCount_setSlot t i sl o
  split at this <;> omega

/-- A slot's request counts as an entry what it counted in the slot (R50, R100). -/
theorem liveCount_slotToQueue {i : SlotId} (hf : (t.slot i).state ≠ .empty) (o : Origin) :
    liveCount (slotToQueue t i) o = liveCount t o := by
  have set := liveCount_setSlot (enqueue t (slotEntry (t.slot i))) i emptySlot o
  have joined : liveCount (enqueue t (slotEntry (t.slot i))) o
      = liveCount t o + if .a = o then 1 else 0 := liveCount_enqueue t rfl o
  have filled : bit (slotFilled ((enqueue t (slotEntry (t.slot i))).slot i)) = 1 := by
    have : (enqueue t (slotEntry (t.slot i))).slot i = t.slot i := by cases i <;> rfl
    rw [this, slotFilled, bne_iff_ne.mpr hf]
    rfl
  rw [filled, joined] at set
  rw [slotToQueue]
  cases o <;> simp_all [slotFilled, emptySlot, bit]

theorem Move.queueWithin (m : Move arm t u) (h : QueueWithin t) : QueueWithin u := by
  obtain ⟨hlen, hlive⟩ := id h
  cases m with
  | rest hs _ => exact queueWithin_of_same (shared_queue hs) (shared_slot hs) h
  | port => exact queueWithin_of_same (by simp) (by simp) h
  | power | data => exact queueWithin_of_same rfl (fun _ => rfl) h
  | slot i sl hs =>
    have same : slotFilled sl = slotFilled (t.slot i) := by
      rw [slotFilled, slotFilled, Bool.eq_iff_iff]
      simp [hs.empty]
    exact queueWithin_setSlot (by rw [same]) h
  | clear i =>
    rw [emptySlotAt_eq]
    exact queueWithin_setSlot (Nat.zero_le _) (queueWithin_of_same rfl (fun _ => rfl) h)
  | pass i hf hq =>
    refine ⟨by simpa [slotToQueue, enqueue] using hq, fun o => ?_⟩
    rw [liveCount_slotToQueue hf]
    exact hlive o
  | hold i sl pool he hs hc _ =>
    refine ⟨by simpa using hlen, fun o => ?_⟩
    have set := liveCount_setSlot { t with pool := pool } i sl o
    have same : liveCount { t with pool := pool } o = liveCount t o := by cases o <;> rfl
    have one : bit (slotFilled sl) ≤ 1 := by cases slotFilled sl <;> decide
    have room : liveCount t .a < liveCap .a := hc
    have := hlive o
    cases o <;> simp_all
    omega
  | join e pool hl hq hc _ =>
    refine ⟨by simpa using hq, fun o => ?_⟩
    have joined := liveCount_enqueue t hl o
    have same : liveCount { t with queue := t.queue ++ [e], pool := pool } o
        = liveCount (enqueue t e) o := by cases o <;> rfl
    have room := originRoom_iff.mp hc
    have := hlive o
    rw [same, joined]
    split
    · subst o
      exact room
    · exact this
  | relabel q hq =>
    exact queueWithin_of_le hq.length_eq.ge (fun o => by
      rw [liveCount_eq, liveCount_eq]
      exact Nat.add_le_add_right (countP_relabelled hq o) _) h
  | wipe => exact ⟨Nat.zero_le _, fun o => by cases o <;> exact Nat.zero_le _⟩

theorem queueWithin_leave {gone q : List Entry} (hq : t.queue.Perm (gone ++ q)) (h : QueueWithin t) :
    QueueWithin { t with queue := q, pool := poolWithout t gone } := by
  refine queueWithin_of_le ?_ (fun o => ?_) h
  · rw [hq.length_eq, List.length_append]
    exact Nat.le_add_left _ _
  · rw [liveCount_eq, liveCount_eq, hq.countP_eq, List.countP_append]
    exact Nat.add_le_add_right (Nat.le_add_left _ _) _

theorem listsWithin_of_same (hp : ∀ p, u.port p = t.port p) (hl : u.log = t.log) (hj : u.jobs = t.jobs)
    (h : ListsWithin t) : ListsWithin u := by
  unfold ListsWithin
  rw [hl, hj]
  exact ⟨fun p => by rw [hp]; exact h.1 p, h.2⟩

theorem Move.listsWithin (m : Move arm t u) (h : ListsWithin t) : ListsWithin u := by
  cases m with
  | rest hs hr =>
    obtain ⟨hf, hl, hj⟩ := h
    exact ⟨fun p => by rw [shared_port hs]; exact hf p, hr.log.trans (max_le hl le_rfl),
      hr.jobs.trans (max_le hj le_rfl)⟩
  | port p qs hp =>
    obtain ⟨hf, hl, hj⟩ := h
    refine ⟨fun q => ?_, by simpa using hl, by simpa using hj⟩
    by_cases hq : q = p
    · subst hq
      rw [port_setPort_same]
      exact hp.fifo.trans (max_le (hf q) le_rfl)
    · rw [port_setPort_ne t qs hq]
      exact hf q
  | slot | hold => exact listsWithin_of_same (by simp [State.port]) (by simp) (by simp) h
  | clear i =>
    rw [emptySlotAt_eq]
    exact listsWithin_of_same (by simp [State.port]) (by simp) (by simp) h
  | pass i =>
    exact listsWithin_of_same (port_slotToQueue t i) (by simp [slotToQueue, enqueue])
      (by simp [slotToQueue, enqueue]) h
  | power | join | relabel | data => exact listsWithin_of_same (fun _ => rfl) rfl rfl h
  | wipe =>
    exact ⟨fun p => by cases p <;> exact Nat.zero_le _, Nat.zero_le _, Nat.zero_le _⟩

end

/-- Settles O6: only what has room joins the queue or is held, and no list grows past its depth. -/
theorem capacitiesStayWithin : Obligations.CapacitiesStayWithin := by
  unfold Obligations.CapacitiesStayWithin
  intro s t hs hst
  obtain ⟨arm, hm⟩ := step_moves hst
  obtain ⟨hq, hl⟩ := withinCapacity_iff.mp hs
  exact withinCapacity_iff.mpr ⟨hm.keeps Move.queueWithin queueWithin_leave hq,
    hm.keeps Move.listsWithin (fun _ h => h) hl⟩

end Sys2Proof.Machine

namespace Sys2Proof.Machine

set_option Elab.async false

/-! ### The owners of the page buffers -/

/-- Each buffer that is not free belongs to one of the holders, of its own origin, and to no other (R51). -/
def Owned (holders : List (Option (Fin 6) × Origin)) (pool : Vector (Option PageBuf) 6) : Prop :=
  ∀ i : Fin 6, holders.countP (fun h => h.1 == some i) = bit pool[i].isSome
    ∧ ∀ b, pool[i] = some b → (some i, b.origin) ∈ holders

section
variable {hs hs' : List (Option (Fin 6) × Origin)} {pool : Vector (Option PageBuf) 6} {t : State}

theorem Owned.perm (h : Owned hs pool) (hp : hs.Perm hs') : Owned hs' pool := fun i =>
  ⟨hp.countP_eq _ ▸ (h i).1, fun b hb => hp.mem_iff.mp ((h i).2 b hb)⟩

/-- What has no buffer owns none. -/
theorem owned_cons_none {o : Origin} : Owned ((none, o) :: hs) pool ↔ Owned hs pool := by
  simp [Owned]

theorem bufferHolders_congr {u : State} (hq : u.queue = t.queue) (hs : ∀ i, u.slot i = t.slot i) :
    bufferHolders u = bufferHolders t := by
  have h0 : u.slot0 = t.slot0 := hs .s0
  have h1 : u.slot1 = t.slot1 := hs .s1
  rw [bufferHolders, bufferHolders, hq, h0, h1]

/-- A new holder owns the buffer that it takes (R52). -/
theorem Owned.take (h : Owned hs t.pool) {o : Origin} {b : Option (Fin 6)} (ht : Takes t o b pool) :
    Owned ((b, o) :: hs) pool := by
  obtain ⟨rfl, rfl⟩ | ⟨i, data, rfl, hfree, -, rfl⟩ := ht
  · exact owned_cons_none.mpr h
  · intro j
    obtain ⟨hc, hm⟩ := h j
    by_cases hij : i = j
    · subst hij
      have none_before : hs.countP (fun h => h.1 == some i) = 0 := by rw [hc, hfree]; rfl
      rw [List.countP_cons, none_before]
      simp [bit]
    · have hv : (i : ℕ) ≠ j := fun he => hij (Fin.ext he)
      rw [List.countP_cons, hc]
      simp only [Fin.getElem_fin, Vector.getElem_set_ne _ _ hv]
      exact ⟨by simp [hij], fun b hb => List.mem_cons_of_mem _ (hm b hb)⟩

theorem countP_holders (gone : List Entry) (i : Fin 6) :
    (gone.map fun e => (e.buffer, e.origin)).countP (fun h => h.1 == some i)
      = gone.countP fun e => e.buffer == some i := List.countP_map

/-- Holders that go away free their buffers, and theirs alone (R53). -/
theorem Owned.free {gone : List Entry}
    (h : Owned (gone.map (fun e => (e.buffer, e.origin)) ++ hs) t.pool) :
    Owned hs (poolWithout t gone) := by
  intro i
  obtain ⟨hc, hm⟩ := h i
  rw [List.countP_append, countP_holders] at hc
  rw [Fin.getElem_fin, getElem_poolWithout]
  split
  · rename_i hany
    have some_gone : 0 < gone.countP fun e => e.buffer == some i :=
      List.countP_pos_iff.mpr (List.any_eq_true.mp hany)
    have atMost : bit t.pool[i].isSome ≤ 1 := by cases t.pool[i].isSome <;> decide
    refine ⟨?_, fun b hb => by cases hb⟩
    simp only [Option.isSome_none, bit, Bool.false_eq_true, if_false]
    omega
  · rename_i hany
    have others : ∀ e ∈ gone, ¬ (e.buffer == some i) = true := fun e he hb =>
      hany (List.any_eq_true.mpr ⟨e, he, hb⟩)
    rw [List.countP_eq_zero.mpr others, Nat.zero_add] at hc
    refine ⟨hc, fun b hb => (List.mem_append.mp (hm b hb)).resolve_left fun hg => ?_⟩
    obtain ⟨e, he, hh⟩ := List.mem_map.mp hg
    exact others e he (beq_iff_eq.mpr (congrArg (·.1) hh))

/-- The holders but one slot. -/
def holdersBut (s : State) (i : SlotId) : List (Option (Fin 6) × Origin) :=
  s.queue.map (fun e => (e.buffer, e.origin)) ++ [((s.slot (otherSlot i)).buffer, .a)]

theorem perm_bufferHolders (s : State) (i : SlotId) :
    (bufferHolders s).Perm (((s.slot i).buffer, .a) :: holdersBut s i) := by
  cases i
  · exact List.perm_middle
  · have swapped := (List.Perm.swap (s.slot1.buffer, Origin.a) (s.slot0.buffer, .a) []).append_left
      (s.queue.map fun e => (e.buffer, e.origin))
    exact swapped.trans List.perm_middle

theorem perm_bufferHolders_setSlot (s : State) (i : SlotId) (sl : MailSlot) :
    (bufferHolders (s.setSlot i sl)).Perm ((sl.buffer, .a) :: holdersBut s i) := by
  have := perm_bufferHolders (s.setSlot i sl) i
  rw [slot_setSlot_same] at this
  cases i <;> exact this

/-- One entry more, one holder more. -/
theorem perm_bufferHolders_append (s : State) (e : Entry) (pool : Vector (Option PageBuf) 6) :
    (bufferHolders { s with queue := s.queue ++ [e], pool := pool }).Perm
      ((e.buffer, e.origin) :: bufferHolders s) := by
  simp only [bufferHolders, List.map_append, List.map_singleton, List.append_assoc]
  exact List.perm_middle

end

/-- What `BuffersSound` says, with the holders by themselves. -/
theorem buffersSound_iff {s : State} : BuffersSound s ↔ Owned (bufferHolders s) s.pool
    ∧ (∀ i, (s.slot i).state = .empty → (s.slot i).buffer = none)
    ∧ ∀ o, buffersOwned s o ≤ bufferCap o := Iff.rfl

section
variable {arm : Port → Prop} {t u : State}

/-! ### The caps -/

theorem buffersOwned_le
    (h : ∀ i : Fin 6, ∀ b', u.pool[i] = some b' → ∃ b, t.pool[i] = some b ∧ b.origin = b'.origin)
    (o : Origin) : buffersOwned u o ≤ buffersOwned t o := by
  refine List.countP_mono_left fun i _ hi => ?_
  simp only [beq_iff_eq, Option.map_eq_some_iff] at hi ⊢
  obtain ⟨b', hb', rfl⟩ := hi
  exact h i b' hb'

theorem countP_self : ∀ i : Fin 6, (List.finRange 6).countP (fun j => decide (j = i)) = 1 := by decide

/-- A buffer taken counts one for its origin and none for the others (R51). -/
theorem buffersOwned_set {i : Fin 6} (hfree : t.pool[i] = none) (b : PageBuf)
    (hu : u.pool = t.pool.set i (some b)) (o : Origin) :
    buffersOwned u o = buffersOwned t o + if b.origin = o then 1 else 0 := by
  have one : (List.finRange 6).countP (fun j => decide (j = i ∧ b.origin = o))
      = if b.origin = o then 1 else 0 := by
    split
    · subst o
      simpa only [and_true] using countP_self i
    · simp [*]
  rw [buffersOwned, buffersOwned, ← one, countP_or_of_disjoint]
  · refine List.countP_congr fun j _ => ?_
    rw [hu]
    by_cases hij : i = j
    · subst hij
      simp [hfree]
    · have hv : (i : ℕ) ≠ j := fun he => hij (Fin.ext he)
      simp [Vector.getElem_set_ne _ _ hv, Ne.symm hij]
  · intro j hj
    refine decide_eq_false ?_
    rintro ⟨rfl, -⟩
    rw [hfree] at hj
    cases hj

/-- No origin is past its cap after a buffer was taken (R44). -/
theorem buffersOwned_take {o : Origin} {b : Option (Fin 6)} {pool : Vector (Option PageBuf) 6}
    (ht : Takes t o b pool) (hu : u.pool = pool) (h : ∀ o, buffersOwned t o ≤ bufferCap o) (o' : Origin) :
    buffersOwned u o' ≤ bufferCap o' := by
  obtain ⟨-, rfl⟩ | ⟨i, data, -, hfree, hcap, rfl⟩ := ht
  · rw [buffersOwned, hu]
    exact h o'
  · rw [buffersOwned_set hfree _ hu]
    have := h o'
    split
    · subst o'
      exact hcap
    · exact this

theorem buffersOwned_poolWithout {gone : List Entry} (hu : u.pool = poolWithout t gone)
    (h : ∀ o, buffersOwned t o ≤ bufferCap o) (o : Origin) : buffersOwned u o ≤ bufferCap o := by
  refine (buffersOwned_le (fun i b hb => ⟨b, ?_, rfl⟩) o).trans (h o)
  rw [hu, Fin.getElem_fin, getElem_poolWithout] at hb
  split at hb
  · cases hb
  · exact hb

/-! ### The moves -/

theorem buffersSound_of_same (hp : u.pool = t.pool) (hq : u.queue = t.queue)
    (hs : ∀ i, u.slot i = t.slot i) (h : BuffersSound t) : BuffersSound u := by
  rw [buffersSound_iff] at h ⊢
  obtain ⟨howned, hempty, hcap⟩ := h
  rw [bufferHolders_congr hq hs, hp]
  refine ⟨howned, fun i => by rw [hs]; exact hempty i, fun o => ?_⟩
  rw [buffersOwned, hp]
  exact hcap o

/-- The slots by themselves: one is set, the other is as it was. -/
theorem emptyUnbuffered_setSlot {i : SlotId} {sl : MailSlot} (hsl : sl.state = .empty → sl.buffer = none)
    (h : ∀ j, (t.slot j).state = .empty → (t.slot j).buffer = none) (j : SlotId) :
    ((t.setSlot i sl).slot j).state = .empty → ((t.setSlot i sl).slot j).buffer = none := by
  by_cases hji : j = i
  · subst hji
    rw [slot_setSlot_same]
    exact hsl
  · rw [slot_setSlot_ne t sl hji]
    exact h j

theorem buffersSound_leave {gone q : List Entry} (hq : t.queue.Perm (gone ++ q)) (h : BuffersSound t) :
    BuffersSound { t with queue := q, pool := poolWithout t gone } := by
  obtain ⟨howned, hempty, hcap⟩ := buffersSound_iff.mp h
  refine buffersSound_iff.mpr ⟨Owned.free (howned.perm ?_), hempty, buffersOwned_poolWithout rfl hcap⟩
  have holders := (hq.map fun e => (e.buffer, e.origin)).append_right
    [(t.slot0.buffer, Origin.a), (t.slot1.buffer, .a)]
  rwa [List.map_append, List.append_assoc] at holders

/-- A slot's request goes away with its buffer (R53, R102). -/
theorem buffersSound_emptySlotAt (i : SlotId) (h : BuffersSound t) : BuffersSound (emptySlotAt t i) := by
  obtain ⟨howned, hempty, hcap⟩ := buffersSound_iff.mp h
  rw [emptySlotAt_eq]
  have freed : Owned (holdersBut t i) (poolWithout t [slotEntry (t.slot i)]) :=
    Owned.free (gone := [slotEntry (t.slot i)]) (howned.perm (perm_bufferHolders t i))
  refine buffersSound_iff.mpr ⟨?_, emptyUnbuffered_setSlot (fun _ => rfl) hempty, ?_⟩
  · rw [State.setSlot_pool]
    refine Owned.perm ?_ (perm_bufferHolders_setSlot { t with pool := _ } i emptySlot).symm
    cases i <;> exact owned_cons_none.mpr freed
  · exact buffersOwned_poolWithout (State.setSlot_pool ..) hcap

theorem perm_holdersBut_enqueue (s : State) (e : Entry) (i : SlotId) :
    (holdersBut (enqueue s e) i).Perm ((e.buffer, e.origin) :: holdersBut s i) := by
  have same : (enqueue s e).slot (otherSlot i) = s.slot (otherSlot i) := by cases i <;> rfl
  rw [holdersBut, same, holdersBut, enqueue, List.map_append, List.map_singleton, List.append_assoc]
  exact List.perm_middle

/-- A slot's buffer passes over to the entry (R100). -/
theorem buffersSound_slotToQueue (i : SlotId) (h : BuffersSound t) : BuffersSound (slotToQueue t i) := by
  obtain ⟨howned, hempty, hcap⟩ := buffersSound_iff.mp h
  have same (j : SlotId) : (enqueue t (slotEntry (t.slot i))).slot j = t.slot j := by cases j <;> rfl
  refine buffersSound_iff.mpr ⟨?_, emptyUnbuffered_setSlot (fun _ => rfl)
    fun j => by rw [same]; exact hempty j, fun o => ?_⟩
  · have passed : Owned ((none, .a) :: holdersBut (enqueue t (slotEntry (t.slot i))) i) t.pool :=
      owned_cons_none.mpr ((howned.perm (perm_bufferHolders t i)).perm
        (perm_holdersBut_enqueue t (slotEntry (t.slot i)) i).symm)
    rw [slotToQueue, State.setSlot_pool]
    exact passed.perm (perm_bufferHolders_setSlot _ i emptySlot).symm
  · rw [buffersOwned, slotToQueue, State.setSlot_pool]
    exact hcap o

/-- A slot that was EMPTY holds a request with the buffer that this took (R52, R96). -/
theorem buffersSound_hold {i : SlotId} {sl : MailSlot} {pool : Vector (Option PageBuf) 6}
    (he : (t.slot i).state = .empty) (hs : sl.state = .held) (hb : Takes t .a sl.buffer pool)
    (h : BuffersSound t) : BuffersSound (State.setSlot { t with pool := pool } i sl) := by
  obtain ⟨howned, hempty, hcap⟩ := buffersSound_iff.mp h
  have others : Owned (holdersBut t i) t.pool := by
    have := howned.perm (perm_bufferHolders t i)
    rw [hempty i he] at this
    exact owned_cons_none.mp this
  refine buffersSound_iff.mpr ⟨?_, emptyUnbuffered_setSlot (fun hem => by simp [hs] at hem) hempty,
    buffersOwned_take hb (State.setSlot_pool ..) hcap⟩
  rw [State.setSlot_pool]
  refine Owned.perm ?_ (perm_bufferHolders_setSlot { t with pool := pool } i sl).symm
  cases i <;> exact others.take hb

theorem buffersSound_join {e : Entry} {pool : Vector (Option PageBuf) 6}
    (hb : Takes t e.origin e.buffer pool) (h : BuffersSound t) :
    BuffersSound { t with queue := t.queue ++ [e], pool := pool } := by
  obtain ⟨howned, hempty, hcap⟩ := buffersSound_iff.mp h
  exact buffersSound_iff.mpr ⟨(howned.take hb).perm (perm_bufferHolders_append t e pool).symm,
    hempty, buffersOwned_take hb rfl hcap⟩

/-- Entries keep their buffers and origins through every state (R51). -/
theorem holders_relabelled {q q' : List Entry} (h : List.Forall₂ Relabelled q q') :
    q'.map (fun e => (e.buffer, e.origin)) = q.map fun e => (e.buffer, e.origin) := by
  induction h with
  | nil => rfl
  | cons he _ ih =>
    obtain ⟨st, rp, orphan, rfl, -⟩ := he
    rw [List.map_cons, List.map_cons, ih]

/-- New content leaves a buffer's owner (R103). -/
theorem buffersSound_data {pool : Vector (Option PageBuf) 6}
    (hp : ∀ i : Fin 6, pool[i].map (·.origin) = t.pool[i].map (·.origin)) (h : BuffersSound t) :
    BuffersSound { t with pool := pool } := by
  obtain ⟨howned, hempty, hcap⟩ := buffersSound_iff.mp h
  refine buffersSound_iff.mpr ⟨fun i => ?_, hempty, fun o => ?_⟩
  · obtain ⟨hc, hm⟩ := howned i
    have hi := hp i
    refine ⟨?_, fun b hb => ?_⟩
    · rw [← Option.isSome_map (f := (·.origin)), hi, Option.isSome_map]
      exact hc
    · rw [hb] at hi
      obtain ⟨b', hb', ho⟩ := Option.map_eq_some_iff.mp hi.symm
      have owner := hm b' hb'
      rwa [show b'.origin = b.origin from ho] at owner
  · rw [buffersOwned]
    simp only [hp]
    exact hcap o

theorem buffersSound_of_none (hq : u.queue = []) (hs : ∀ i, u.slot i = emptySlot)
    (hp : ∀ i : Fin 6, u.pool[i] = none) : BuffersSound u := by
  have holders : bufferHolders u = [(none, .a), (none, .a)] := by
    rw [bufferHolders, hq, show u.slot0 = emptySlot from hs .s0, show u.slot1 = emptySlot from hs .s1]
    rfl
  refine buffersSound_iff.mpr ⟨?_, fun i _ => by rw [hs]; rfl, fun o => ?_⟩
  · rw [holders, owned_cons_none, owned_cons_none]
    exact fun i => by simp [hp i, bit]
  · have none_owned : buffersOwned u o = 0 := List.countP_eq_zero.mpr fun i _ => by simp [hp i]
    rw [none_owned]
    exact Nat.zero_le _

theorem Move.buffersSound (m : Move arm t u) (h : BuffersSound t) : BuffersSound u := by
  cases m with
  | rest hs _ => exact buffersSound_of_same (shared_pool hs) (shared_queue hs) (shared_slot hs) h
  | port => exact buffersSound_of_same (by simp) (by simp) (by simp) h
  | power => exact buffersSound_of_same rfl rfl (fun _ => rfl) h
  | slot i sl hs =>
    obtain ⟨howned, hempty, hcap⟩ := buffersSound_iff.mp h
    refine buffersSound_iff.mpr ⟨?_, emptyUnbuffered_setSlot (fun he => ?_) hempty, fun o => ?_⟩
    · rw [State.setSlot_pool]
      refine (howned.perm (perm_bufferHolders t i)).perm (.symm ?_)
      rw [← hs.buffer]
      exact perm_bufferHolders_setSlot t i sl
    · rw [hs.buffer]
      exact hempty i (hs.empty.mp he)
    · rw [buffersOwned, State.setSlot_pool]
      exact hcap o
  | clear i => exact buffersSound_emptySlotAt i h
  | pass i => exact buffersSound_slotToQueue i h
  | hold i sl pool he hs _ hb => exact buffersSound_hold he hs hb h
  | join e pool _ _ _ hb => exact buffersSound_join hb h
  | relabel q hq =>
    obtain ⟨howned, hempty, hcap⟩ := buffersSound_iff.mp h
    refine buffersSound_iff.mpr ⟨?_, hempty, hcap⟩
    rw [bufferHolders, holders_relabelled hq]
    exact howned
  | data pool hp => exact buffersSound_data hp h
  | wipe => exact buffersSound_of_none rfl (fun i => by cases i <;> rfl) fun i => by simp [volatileReset]

end

/-- Settles O7: who takes a buffer owns it alone, within the cap, and who goes away frees it. -/
theorem buffersStayOwned : Obligations.BuffersStayOwned := by
  unfold Obligations.BuffersStayOwned
  intro s t hs hst
  obtain ⟨arm, hm⟩ := step_moves hst
  exact hm.keeps Move.buffersSound buffersSound_leave hs

end Sys2Proof.Machine

namespace Sys2Proof.Machine

set_option Elab.async false

/-! ### The write-arm latch -/

theorem Move.wel {arm : Port → Prop} {t u : State} (m : Move arm t u) {p : Port} (hk : ¬ arm p) :
    (u.port p).wel = (t.port p).wel := by
  cases m with
  | rest hs _ => rw [shared_port hs]
  | port q qs hp =>
    by_cases hq : p = q
    · subst hq
      rw [port_setPort_same]
      exact hp.wel hk
    · rw [port_setPort_ne t qs hq]
  | slot => rw [port_setSlot]
  | hold =>
    rw [port_setSlot]
    rfl
  | clear i =>
    rw [emptySlotAt_eq, port_setSlot]
    rfl
  | pass i => rw [port_slotToQueue]
  | power | join | relabel | data => rfl
  | wipe hk' => exact absurd (hk' p) hk

/-- A run changes the latch of no port but those that its licence names. -/
theorem Moves.wel {k : Licence} {s u : State} (h : Moves k s u) {p : Port} (hk : ¬ k.arm p) :
    (u.port p).wel = (s.port p).wel := by
  induction h with
  | refl => rfl
  | step _ m ih => exact (m.wel hk).trans (ih hk)
  | leave _ _ _ _ _ ih => exact ih hk
  | settle _ _ ih => exact ih hk

theorem wel_of_ends {k : Licence} {s t : State} {o : Host.Outcome State Fault Refusal}
    (h : Ends k s o) (ho : o = .next t) {p : Port} (hk : ¬ k.arm p) :
    (t.port p).wel = (s.port p).wel := (moves_of_ends h ho).wel hk

/-- The licence that lets nothing happen to a latch. -/
def noLicence : Licence := ⟨fun _ => False, False⟩

theorem Quiet.wel {g : State → State} (h : Quiet g) (s : State) (p : Port) :
    ((g s).port p).wel = (s.port p).wel := (h noLicence s s (.refl _ s)).wel id

/-- After an armed decision the latch is 0: it was, or the request has consumed it (R35). -/
theorem wel_armedDecision {decide : State → State} (hd : Quiet decide) (s : State) (p : Port) :
    ((armedDecision s p decide).port p).wel = false := by
  unfold armedDecision
  split
  · rw [hd.wel, port_setPort_same]
  · rename_i h
    rw [refuse, port_setPort_same]
    exact Bool.eq_false_iff.mpr h

/-- The seven requests that need the latch are decided with it armed alone (R35). -/
theorem armed_of_needsArming {i : Instr} {p : Port} {c : Command} {f : Frame}
    (h : requestOf i = some (p, c, f)) (hn : needsArming c = true) : ArmedRequest p c f (exec i) := by
  cases i <;> cases h
  case pageProgram => exact armed_pageProgram p f
  case sectorErase => exact armed_sectorErase p f
  case blockErase => exact armed_blockErase p f
  case commit => exact armed_commit p f
  case sealProgram => exact armed_sealProgram p f
  case sealLock => exact armed_sealLock p f
  case guardFuse => exact armed_guardFuse p f
  all_goals exact absurd hn Bool.false_ne_true

theorem wel_of_armed {p : Port} {c : Command} {f : Frame} {run : State → Host.Outcome State Fault Refusal}
    (h : ArmedRequest p c f run) {s t : State} (ha : Arrives s p c f) (ht : run s = .next t) :
    (t.port p).wel = false := by
  obtain ⟨prepare, finalise, decide, -, hf, hd, -, he⟩ := h
  rw [he, requestEnd_of_arrives ha fun s' => finalise (armedDecision (prepare s') p decide)] at ht
  cases ht
  calc
    _ = ((finalise (armedDecision (prepare (ended s p)) p decide)).port p).wel := by cases p <;> rfl
    _ = false := by rw [hf.wel, wel_armedDecision hd]

/-- A request that does not arrive leaves every latch (R8, R9, R35). -/
theorem wel_of_not_arrives {i : Instr} {p : Port} {c : Command} {f : Frame}
    (h : requestOf i = some (p, c, f)) {s t : State} (hn : ¬ Arrives s p c f)
    (ht : exec i s = .next t) : (t.port p).wel = (s.port p).wel := by
  obtain ⟨act, he⟩ := exec_request h
  rw [he] at ht
  exact wel_of_ends (k := noLicence)
    (ends_arriving fun tx hd hr hw => absurd ⟨tx, hd, hr, hw⟩ hn) ht id

/-- A RESET_PORT that is not carried out leaves every latch (R165). -/
theorem wel_resetPort_of_disarmed {s t : State} {p : Port} {f : Frame}
    (h : ∀ tx, Delivered s p .resetPort tx → torn .resetPort f = false → tx.resetArmed = false)
    (ht : exec (.resetPort p f) s = .next t) : (t.port p).wel = (s.port p).wel := by
  have ends : Ends noLicence s (execResetPort p f s) := ends_arriving fun tx hd _ hw => ?_
  · exact wel_of_ends ends ht id
  rw [h tx hd hw]
  exact moves_refuse (moves_ended _ s p)

theorem exec_resetNRelease_of_running {s : State} (h : s.power ≠ .inReset ∧ s.power ≠ .waiting) :
    exec .resetNRelease s = finish { s with resetN := true } := by
  simp only [exec, execResetNRelease]
  split
  · exact absurd ‹_› h.1
  · exact absurd ‹_› h.2
  all_goals rfl

theorem exec_armWrite (p : Port) (f : Frame) (s : State) : exec (.armWrite p f) s
    = requestEnd s p .armWrite f fun _ s' => s'.setPort p { s'.port p with wel := true } := rfl

theorem exec_disarmWrite (p : Port) (f : Frame) (s : State) : exec (.disarmWrite p f) s
    = requestEnd s p .disarmWrite f fun _ s' => s'.setPort p { s'.port p with wel := false } := rfl

theorem wel_powerOnStep (s : State) (p : Port) : ((powerOnStep s).port p).wel = false := by
  obtain ⟨st, he⟩ := powerOnStep_eq s
  rw [he]
  cases p <;> rfl

theorem wel_foldl_logAborted (rs : List Aborted) (s : State) (p : Port) :
    ((rs.foldl logAborted s).port p).wel = (s.port p).wel :=
  (moves_foldl_logAborted rs (.refl noLicence s)).wel id

theorem wel_resetNRelease {s t : State} (hp : s.power = .inReset ∨ s.power = .waiting)
    (ht : exec .resetNRelease s = .next t) (p : Port) : (t.port p).wel = false := by
  simp only [exec, execResetNRelease] at ht
  obtain hp | hp := hp <;> rw [hp] at ht <;> cases ht <;> rw [port_driveIrq]
  · rw [wel_foldl_logAborted, wel_powerOnStep]
  · exact wel_powerOnStep _ p

/-- ARM_WRITE or DISARM_WRITE torn (R9). -/
theorem latch_of_part {s : State} {p : Port} {c : Command} {tx : Tx} {f : Frame} (hd : Delivered s p c tx)
    (hc : portMOnly c = false) (hr : commandClass c = .request) (hf : f.part = true)
    (act : Tx → State → State) : ∃ t, requestEnd s p c f act = .next t
      ∧ (t.port p).wel = (s.port p).wel ∧ (t.port p).lastRefusal = .frameTorn
      ∧ (t.port p).refusalNew = true := by
  have hw : torn c f = true := by simp [torn, hr, hf]
  have frame : requestEnd s p c f act = .next (driveIrq (refuseTorn (ended s p) p c)) := by
    rw [requestEnd_of_delivered hd, recognises_shared hc, hw]
    rfl
  refine ⟨_, frame, ?_, ?_⟩
  · exact wel_of_ends (k := noLicence) ⟨_, rfl, moves_refuseTorn (moves_ended _ s p)⟩ rfl id
  · cases p <;> exact ⟨rfl, rfl⟩

/-- What may change a port's latch, as the statement lists it. -/
theorem wel_of_others {i : Instr} {s t : State} {p : Port} (ht : exec i s = .next t)
    (harm : ∀ f, i ≠ .armWrite p f) (hdis : ∀ f, i ≠ .disarmWrite p f)
    (hreset : ∀ f tx, i = .resetPort p f → Delivered s p .resetPort tx → torn .resetPort f = false →
      tx.resetArmed = false)
    (hreq : ∀ c f, requestOf i = some (p, c, f) → needsArming c = false)
    (hon : ∀ left, i ≠ .powerOn left) (hloss : ∀ left, i ≠ .powerLoss left)
    (hrel : i = .resetNRelease → s.power ≠ .inReset ∧ s.power ≠ .waiting) :
    (t.port p).wel = (s.port p).wel := by
  by_cases hm : mayArm i p
  · cases i
    case armWrite q f => exact absurd (hm ▸ rfl) (harm f)
    case disarmWrite q f => exact absurd (hm ▸ rfl) (hdis f)
    case resetPort q f =>
      obtain rfl : p = q := hm
      exact wel_resetPort_of_disarmed (fun tx => hreset f tx rfl) ht
    case powerOn left => exact absurd rfl (hon left)
    case powerLoss left => exact absurd rfl (hloss left)
    case resetNRelease =>
      rw [exec_resetNRelease_of_running (hrel rfl)] at ht
      cases ht
      cases p <;> rfl
    case pageProgram q f | sectorErase q f | blockErase q f | commit q f | sealProgram q f | sealLock q f
        | guardFuse q f =>
      obtain rfl : p = q := hm
      exact absurd (hreq _ f rfl) Bool.noConfusion
    all_goals exact hm.elim
  · exact wel_of_ends (exec_moves i s) ht hm

/-- Settles O14: a run of moves changes the latches of its licence alone; the commands that have one are taken
one by one. -/
theorem writeArmLatch : Obligations.WriteArmLatch := by
  unfold Obligations.WriteArmLatch
  refine ⟨fun s p f h => by rw [exec_armWrite, requestEnd_of_arrives h]; rfl,
    fun s p f h => by rw [exec_disarmWrite, requestEnd_of_arrives h]; rfl,
    fun s p tx f hf => ⟨fun hd => by rw [exec_armWrite]; exact latch_of_part hd rfl rfl hf _,
      fun hd => by rw [exec_disarmWrite]; exact latch_of_part hd rfl rfl hf _⟩,
    fun i s t p ht harm hdis hreset hreq hon hloss hrel =>
      wel_of_others ht harm hdis hreset hreq hon hloss hrel,
    fun i s t p c f h hn ht => ⟨fun ha => wel_of_armed (armed_of_needsArming h hn) ha ht,
      fun ha => wel_of_not_arrives h ha ht⟩, ?_, ?_, ?_, ?_, ?_⟩
  · intro s p f tx t hd hw harmed ht
    rw [exec_resetPort hd hw, if_pos harmed] at ht
    cases ht
    rw [port_driveIrq, port_softReset]
    cases p <;> rfl
  · intro s left t p ht
    cases hr : s.resetN with
    | true =>
      rw [exec_powerOn hr] at ht
      cases ht
      rw [port_driveIrq, wel_powerOnStep]
    | false =>
      rw [exec_powerOn_waiting hr] at ht
      cases ht
      cases p <;> rfl
  · intro s left t p hp ht
    rw [exec_powerLoss hp] at ht
    cases ht
    cases p <;> rfl
  · intro s t p hp ht
    exact wel_resetNRelease hp ht p
  · intro s p cont
    exact (List.cons.inj (bits_statusByte0 s p cont)).1

end Sys2Proof.Machine

namespace Sys2Proof.Machine

set_option Elab.async false

/-! ### Tags -/

/-- The tags in use on a port, one for each request outstanding (R48, R50). -/
def tagsInUse (s : State) (p : Port) : List Byte :=
  (s.queue.filter (ownedLive (portOrigin p))).map (·.tag)
    ++ (if p = .a then ([s.slot0, s.slot1].filter slotFilled).map (·.tag) else [])

theorem length_tagsInUse (s : State) (p : Port) : (tagsInUse s p).length = outstanding s p := by
  rw [tagsInUse, outstanding, List.length_append, List.length_map, ← List.countP_eq_length_filter]
  cases p with
  | a =>
    rw [if_pos rfl, heldCount, List.length_map, ← List.countP_eq_length_filter]
    simp [List.countP_cons, bit, Nat.add_comm]
  | m => rfl

theorem tagInUse_iff_exists {s : State} {p : Port} {g : Byte} : tagInUse s p g = true ↔
    (∃ e ∈ s.queue, e.origin = portOrigin p ∧ e.orphan = false ∧ e.tag = g)
      ∨ (p = .a ∧ ∃ slot, (s.slot slot).state ≠ .empty ∧ (s.slot slot).tag = g) := by
  have slots (f : SlotId → Prop) : (∃ i, f i) ↔ f .s0 ∨ f .s1 :=
    ⟨fun ⟨i, h⟩ => by cases i <;> simp [h], fun h => h.elim (⟨_, ·⟩) (⟨_, ·⟩)⟩
  rw [slots]
  simp [tagInUse, ownedLive, slotFilled, State.slot, and_assoc]

theorem tagInUse_iff_mem {s : State} {p : Port} {g : Byte} :
    tagInUse s p g = true ↔ g ∈ tagsInUse s p := by
  cases p <;> simp [tagInUse, tagsInUse, and_assoc, or_and_right, exists_or]

/-- Four values in a row are four values, none of them 0 (R48). -/
theorem four_tags : ∀ g : Byte, g ≠ 0 →
    ((List.range 4).map fun n => nextTag^[n] g).Nodup ∧ ∀ n < 4, nextTag^[n] g ≠ 0 := by
  decide

/-- The first free value is found, if one comes in time (R48). -/
theorem findTag_eq {used : Byte → Bool} {n k : Nat} {g : Byte} (hk : k < n)
    (hfree : used (nextTag^[k] g) = false) (hused : ∀ m < k, used (nextTag^[m] g) = true) :
    findTag used n g = nextTag^[k] g := by
  induction n generalizing k g with
  | zero => cases hk
  | succ n ih =>
    cases k with
    | zero => exact if_neg (Bool.eq_false_iff.mp hfree)
    | succ k =>
      have taken : used g = true := hused 0 k.succ_pos
      rw [findTag, if_pos taken]
      exact ih (Nat.lt_of_succ_lt_succ hk) hfree fun m hm => hused (m + 1) (Nat.succ_lt_succ hm)

/-- With fewer than four requests outstanding one of four values in a row is free (R48). -/
theorem exists_free_tag {s : State} {p : Port} (h : outstanding s p < Config.outstandingCap)
    (hg : (s.port p).tagNext ≠ 0) :
    ∃ n, n < 4 ∧ tagInUse s p (nextTag^[n] (s.port p).tagNext) = false := by
  by_contra hn
  have used : (List.range 4).map (fun n => nextTag^[n] (s.port p).tagNext) ⊆ tagsInUse s p := by
    intro g hg
    obtain ⟨n, hn4, rfl⟩ := List.mem_map.mp hg
    refine tagInUse_iff_mem.mp (Bool.not_eq_false _ ▸ fun hf => hn ⟨n, List.mem_range.mp hn4, hf⟩)
  have := (List.subperm_of_subset (four_tags _ hg).1 used).length_le
  rw [length_tagsInUse, List.length_map, List.length_range] at this
  exact absurd h (Nat.not_lt.mpr this)

theorem tagFor_spec {s : State} {p : Port} (h : outstanding s p < Config.outstandingCap)
    (hg : (s.port p).tagNext ≠ 0) : tagInUse s p (tagFor s p) = false ∧ tagFor s p ≠ 0
      ∧ ∃ n, n < 4 ∧ tagFor s p = nextTag^[n] (s.port p).tagNext
        ∧ ∀ m, m < n → tagInUse s p (nextTag^[m] (s.port p).tagNext) = true := by
  have hex := exists_free_tag h hg
  obtain ⟨hn4, hfree⟩ := Nat.find_spec hex
  have hused : ∀ m < Nat.find hex, tagInUse s p (nextTag^[m] (s.port p).tagNext) = true := fun m hm =>
    (Bool.not_eq_false _).mp fun hf => Nat.find_min hex hm ⟨hm.trans hn4, hf⟩
  have found : tagFor s p = nextTag^[Nat.find hex] (s.port p).tagNext :=
    findTag_eq (hn4.trans (by decide)) hfree hused
  exact ⟨found ▸ hfree, found ▸ (four_tags _ hg).2 _ hn4, _, hn4, found, hused⟩

/-! ### The log and the FIFO -/

theorem logEvent_of_room {s : State} (h : s.log.length < 16) (k : EventKind) (o g d : Byte) (a : Word) :
    logEvent s k o g d a =
      { s with log := s.log ++ [⟨s.seqNext, k, o, g, d, a⟩], seqNext := s.seqNext + 1 } := if_pos h

/-- A count of dropped events stops at 255 (R156). -/
theorem count_stops : ∀ n : Byte, (if n = 255 then 255 else n + 1)
    = BitVec.ofNat 8 (min (n.toNat + 1) 255) := by decide

theorem logEvent_of_full {s : State} (h : 16 ≤ s.log.length) (k : EventKind) (o g d : Byte) (a : Word) :
    logEvent s k o g d a = { s with
      seqNext := s.seqNext + 1, overflow := BitVec.ofNat 8 (min (s.overflow.toNat + 1) 255) } := by
  rw [← count_stops]
  exact if_neg (Nat.not_lt.mpr h)

theorem pushCompletion_of_full {s : State} {p : Port} (h : 8 ≤ (s.port p).fifo.length)
    (r : Completion) : pushCompletion s p r = s.setPort p { s.port p with
      fifo := (s.port p).fifo.drop 1 ++ [r], completionLost := true
      sel := noteLoss (s.port p).sel } := if_neg (Nat.not_lt.mpr h)

theorem noteLoss_of_closed {sel : Sel} (h : ∀ tx, sel ≠ .opened tx) : noteLoss sel = sel := by
  cases sel with
  | opened tx => exact absurd rfl (h tx)
  | high | ignored => rfl

/-- Settles O17: the tags by counting those in use, the log and the FIFO by whether they have room. -/
theorem tagsLogAndFifo : Obligations.TagsLogAndFifo := by
  unfold Obligations.TagsLogAndFifo
  refine ⟨fun s p h hg => tagFor_spec h hg, fun s p g => tagInUse_iff_exists,
    fun s k o g d a => ⟨fun h => logEvent_of_room h k o g d a, fun h => logEvent_of_full h k o g d a⟩,
    fun s p r => ⟨fun h => if_pos h, fun h => ⟨fun hc => ?_, fun tx hs => ?_⟩⟩⟩
  · rw [pushCompletion_of_full h, noteLoss_of_closed hc]
  · rw [pushCompletion_of_full h, hs]
    rfl

end Sys2Proof.Machine

namespace Sys2Proof.Machine

set_option Elab.async false

/-! ### The checks of the latch, the guard and the barrier -/

/-- An armed request with the latch clear is refused and has no other effect (R35). -/
theorem exec_of_notArmed {p : Port} {c : Command} {f : Frame}
    {run : State → Host.Outcome State Fault Refusal} (h : ArmedRequest p c f run) {s : State}
    (ha : Arrives s p c f) (hw : (s.port p).wel = false) :
    run s = .next (driveIrq (refuse (ended s p) p .notArmed)) := by
  obtain ⟨prepare, finalise, decide, hp, -, -, hr, he⟩ := h
  have unarmed : armedDecision (prepare (ended s p)) p decide
      = refuse (prepare (ended s p)) p .notArmed := by
    refine if_neg (Bool.eq_false_iff.mp ?_)
    rw [hp.wel, ended_wel ha, hw]
  rw [he, requestEnd_of_arrives ha fun s' => finalise (armedDecision (prepare s') p decide), unarmed, hr]
  rfl

/-- A decision whose first checks are the guard's and the barrier's (R63, R134, R140, R144). -/
def ChecksEdits (p : Port) (decide : State → State) : Prop :=
  ∃ more : State → List (Bool × RefusalCode), ∃ accept : State → State → State,
    ∀ s, decide s = decided s p (editChecks s ++ more s) (accept s)

/-- What such a decision answers where one of the two fails. -/
def RefusesEdit (p : Port) (b r : State) : Prop :=
  (guardPermits b = false → r = refuse b p .guarded)
    ∧ (guardPermits b = true → barrierPending b = true → r = refuse b p .storeUpdating)

theorem ChecksEdits.refuses {p : Port} {decide : State → State} (h : ChecksEdits p decide) (s : State) :
    RefusesEdit p s (decide s) := by
  obtain ⟨more, accept, he⟩ := h
  rw [he]
  refine ⟨fun hg => ?_, fun hg hb => ?_⟩
  · exact decided_fail (by rw [hg]; rfl)
  · rw [editChecks, List.cons_append, decided_pass (by rw [hg]; rfl)]
    exact decided_fail hb

theorem checksEdits_of_editChecks {p : Port} {accept : State → State} :
    ChecksEdits p fun s => decided s p (editChecks s) accept :=
  ⟨fun _ => [], fun _ => accept, fun s => by rw [List.append_nil]⟩

/-- The five edits make these checks first (R63, R134). -/
theorem exec_edit {i : Instr} {p : Port} {c : Command} {f : Frame} (h : requestOf i = some (p, c, f))
    (hc : c ∈ [Command.tableWriteEntry, .tableClearEntry, .stageFromActive, .settingsWriteStaged,
      .settingsWriteLive]) :
    ∃ decide, (∀ s, exec i s = requestEnd s p c f fun _ => decide) ∧ ChecksEdits p decide := by
  cases i <;> cases h
  case tableWriteEntry =>
    refine ⟨_, fun s => show execTableWriteEntry p f s = _ from rfl, ?_⟩
    exact ⟨fun _ => [(!entryInRange (entryOf (f.bytes.drop 1)), .badArgument)], _, fun _ => rfl⟩
  case tableClearEntry => exact ⟨_, fun _ => rfl, checksEdits_of_editChecks⟩
  case stageFromActive => exact ⟨_, fun _ => rfl, checksEdits_of_editChecks⟩
  case settingsWriteStaged =>
    refine ⟨_, fun s => show execSettingsWriteStaged p f s = _ from rfl, ?_⟩
    exact ⟨fun _ => [(!(decide ((byteAt f.bytes 0).toNat ≤ 12)
      && settingInRange (byteAt f.bytes 0).toNat (byteAt f.bytes 1)), .badArgument)], _, fun _ => rfl⟩
  case settingsWriteLive =>
    refine ⟨_, fun s => show execSettingsWriteLive p f s = _ from rfl, ?_⟩
    exact ⟨fun _ => [(!(decide (8 ≤ (byteAt f.bytes 0).toNat) && decide ((byteAt f.bytes 0).toNat ≤ 11)
      && settingInRange (byteAt f.bytes 0).toNat (byteAt f.bytes 1)), .badArgument)], _, fun _ => rfl⟩
  all_goals simp at hc

/-- COMMIT and GUARD_FUSE make them once they are armed (R140, R144). -/
theorem exec_storeRequest {i : Instr} {p : Port} {c : Command} {f : Frame}
    (h : requestOf i = some (p, c, f)) (hc : c ∈ [Command.commit, .guardFuse]) :
    ∃ decide, (∀ s, exec i s = requestEnd s p c f fun _ s' => armedDecision s' p decide)
      ∧ ChecksEdits p decide := by
  cases i <;> cases h
  case commit =>
    refine ⟨_, fun _ => rfl, ?_⟩
    exact ⟨fun _ => [], _, fun _ => rfl⟩
  case guardFuse =>
    refine ⟨_, fun _ => rfl, ?_⟩
    exact ⟨fun s => [(s.dirty, .dirty)] ++ roomChecks s, _, fun _ => rfl⟩
  all_goals simp at hc

/-- The refusals, seen from the state in which the request arrives. -/
theorem RefusesEdit.exec {i : Instr} {s b r : State} (h : RefusesEdit .m b r)
    (he : exec i s = finish r) (hb : ∃ ps, b = s.setPort .m ps) :
    (guardPermits s = false → exec i s = .next (driveIrq (refuse b .m .guarded)))
      ∧ (guardPermits s = true → barrierPending s = true →
        exec i s = .next (driveIrq (refuse b .m .storeUpdating))) := by
  obtain ⟨ps, hb⟩ := hb
  obtain ⟨hg, hp⟩ := h
  have guard : guardPermits b = guardPermits s := by rw [hb, guardPermits_setPort]
  have barrier : barrierPending b = barrierPending s := by rw [hb, barrierPending_setPort]
  rw [guard] at hg hp
  rw [barrier] at hp
  rw [he]
  exact ⟨fun h => by rw [hg h]; rfl, fun h h' => by rw [hp h h']; rfl⟩

theorem guardPermits_iff {s : State} : guardPermits s = true ↔ s.fuse = false
    ∧ (s.activeImage.settings.guardMode = 0 ∨ s.guardN = true) ∧ s.sessionLock = false := by
  unfold guardPermits baseMode
  cases s.fuse with
  | true => simp
  | false =>
    rw [if_neg Bool.false_ne_true]
    by_cases h : s.activeImage.settings.guardMode = 0
    · rw [if_pos h]
      simp [h]
    · rw [if_neg h, iff_false_intro h]
      simp

theorem barrierPending_iff {s : State} : barrierPending s = true ↔
    ∃ e ∈ s.queue, (e.kind = .commit ∨ e.kind = .guardFuse) ∧ e.state ≠ .suspended := by
  simp [barrierPending, isBarrierKind, isSuspended]

/-- Settles O28: the latch by the armed requests in general, the guard and the barrier by the two checks that
the edits and the store's requests make first. -/
theorem armingAndGuardChecks : Obligations.ArmingAndGuardChecks := by
  unfold Obligations.ArmingAndGuardChecks
  refine ⟨fun i s p c f h hn ha hw => exec_of_notArmed (armed_of_needsArming h hn) ha hw,
    fun i s c f h ha hc => ?_, fun s => ⟨guardPermits_iff, fun hf => if_pos hf, fun hf hm => ?_,
      fun hf hm => ?_, barrierPending_iff⟩⟩
  · obtain hc | ⟨hc, hw⟩ := hc
    · obtain ⟨decide, he, hd⟩ := exec_edit h hc
      have unarmed : needsArming c = false := by
        simp only [List.mem_cons, List.not_mem_nil, or_false] at hc
        obtain rfl | rfl | rfl | rfl | rfl := hc <;> rfl
      rw [unarmed]
      exact (hd.refuses (ended s .m)).exec (by rw [he, requestEnd_of_arrives ha]) (ended_eq s .m)
    · obtain ⟨decide, he, hd⟩ := exec_storeRequest h hc
      have armed : needsArming c = true := by
        simp only [List.mem_cons, List.not_mem_nil, or_false] at hc
        obtain rfl | rfl := hc <;> rfl
      have hw' : ((ended s .m).port .m).wel = true := (ended_wel ha).trans hw
      have run : exec i s = finish (decide (consumed (ended s .m) .m)) := by
        rw [he, requestEnd_of_arrives ha, armedDecision_of_armed hw']
      obtain ⟨ps, hb, -⟩ := consumed_ended_of_arrives ha
      rw [armed]
      exact (hd.refuses (consumed (ended s .m) .m)).exec run ⟨ps, hb⟩
  · rw [baseMode, hf, hm]
    rfl
  · rw [baseMode, hf, if_neg Bool.false_ne_true, if_neg hm]

end Sys2Proof.Machine

namespace Sys2Proof.Machine

set_option Elab.async false

/-! ### The refusals of a modify request -/

section
variable {b s : State} {p : Port} {k : Kind} {f : Frame}

theorem addressInSpace_eq_true {w : Word} : addressInSpace w = true ↔ w.toNat < 0x2000000 :=
  decide_eq_true_iff

theorem addressInSpace_eq_false {w : Word} : addressInSpace w = false ↔ 0x2000000 ≤ w.toNat := by
  rw [addressInSpace, decide_eq_false_iff_not]
  exact Nat.not_lt

/-- A refused request leaves the latch as its refusal does (R7). -/
theorem exec_modify_of_refused {i : Instr} (hi : modifyOf i = some (p, k, f))
    (ha : Arrives s p (modifyCommand k) f) (hw : (s.port p).wel = true) {t : State} {code : RefusalCode}
    (h : decideModify (modifyBase s p k f) p k f = refuse t p code) :
    exec i s = .next (driveIrq (refuse t p code)) := by
  rw [exec_modify hi ha hw, h, discardLatch_refuse]

theorem decideModify_of_outside (h : addressInSpace (be32 f.bytes 0) = false) :
    decideModify b p k f = refuse b p .addressRange := if_pos (by rw [h]; rfl)

theorem decideModify_of_noData (ha : addressInSpace (be32 f.bytes 0) = true)
    (hl : f.bytes.length ≤ 4) : decideModify b p .pageProgram f = refuse b p .noData := by
  have empty : f.bytes.drop 4 = [] := List.drop_eq_nil_of_le hl
  unfold decideModify
  rw [if_neg (by simp [ha]), if_pos (by simp [empty])]

theorem hasData_of (hd : k = .pageProgram → 4 < f.bytes.length) :
    (k == .pageProgram && (f.bytes.drop 4).isEmpty) = false := by
  by_cases hk : k = .pageProgram
  · simpa [hk] using hd hk
  · simp [hk]

/-- A request with its data goes on to its target, which may be refused (R41, R42). -/
theorem decideModify_of_targetError (ha : addressInSpace (be32 f.bytes 0) = true)
    (hd : k = .pageProgram → 4 < f.bytes.length) {code : RefusalCode}
    (ht : modifyTarget b p (be32 f.bytes 0).toNat = .error code) :
    decideModify b p k f = refuseModify b p (be32 f.bytes 0).toNat code := by
  unfold decideModify
  rw [if_neg (by simp [ha]), if_neg (by simp [hasData_of hd]), ht]

/-- A request whose target stands goes on to steps 7 to 9 (R43, R44). -/
theorem decideModify_of_checkFailed (ha : addressInSpace (be32 f.bytes 0) = true)
    (hd : k = .pageProgram → 4 < f.bytes.length) {phys : Nat} {cov : Option (Fin 16)}
    (ht : modifyTarget b p (be32 f.bytes 0).toNat = .ok (phys, cov)) {code : RefusalCode}
    (hc : ∀ accept, decided b p (modifyChecks b p k) accept = refuse b p code) :
    decideModify b p k f = refuse b p code := by
  unfold decideModify
  rw [if_neg (by simp [ha]), if_neg (by simp [hasData_of hd]), ht]
  exact hc _

/-- Steps 5 and 6 of R40, with their event (R42). -/
theorem exec_modify_of_targetError {i : Instr} (hi : modifyOf i = some (p, k, f))
    (hm : ModifyArrives s p k f) {code : RefusalCode}
    (h : modifyTarget s p (be32 f.bytes 0).toNat = .error code) :
    exec i s = .next (driveIrq (refuse (logEvent (modifyBase s p k f) .modifyRefused (portCode p) 0
      (refusalByte code) (be32 f.bytes 0)) p code)) := by
  obtain ⟨ha, hw, hsp, hd⟩ := hm
  obtain ⟨ps, hb⟩ := modifyBase_eq s p k f
  have ht : modifyTarget (modifyBase s p k f) p (be32 f.bytes 0).toNat = .error code := by
    rw [hb, modifyTarget_setPort, h]
  refine exec_modify_of_refused hi ha hw ?_
  rw [decideModify_of_targetError hsp hd ht, refuseModify, addressWord, BitVec.ofNat_toNat,
    BitVec.setWidth_eq]

theorem modifyTarget_a_of_unmapped {a : Nat} (h : translate s.activeImage a = none) :
    modifyTarget s .a a = .error .unmapped := by simp only [modifyTarget, h]

theorem modifyTarget_a_of_readOnly {a phys : Nat} {j : Fin 16}
    (h : translate s.activeImage a = some (j, phys)) (hr : s.activeImage.entries[j].aRights ≠ 2) :
    modifyTarget s .a a = .error .protected_ := by
  simp only [modifyTarget, h]
  exact if_neg hr

theorem modifyTarget_m_of_refusal {a : Nat} {code : RefusalCode}
    (h : portMWriteRefusal s a = some code) : modifyTarget s .m a = .error code := by
  simp only [modifyTarget, h]

theorem portMWriteRefusal_of_partition {a : Nat} {j : Fin 16} (h : partitionOf s.activeImage a = some j) :
    portMWriteRefusal s a
      = if s.activeImage.entries[j].mRights = 2 then none else some .protected_ := by
  simp only [portMWriteRefusal, h]

theorem portMWriteRefusal_of_unpartitioned {a : Nat} (h : partitionOf s.activeImage a = none) :
    portMWriteRefusal s a = if guardPermits s then none else some .guarded := by
  simp only [portMWriteRefusal, h]

/-- A request whose target stands comes to steps 7 to 9 (R43, R44). -/
theorem exec_modify_of_target {i : Instr} (hi : modifyOf i = some (p, k, f))
    (hm : ModifyArrives s p k f) {phys : Nat} {cov : Option (Fin 16)}
    (ht : TargetFound s p (be32 f.bytes 0).toNat phys cov) {code : RefusalCode}
    (h : ∀ accept, decided (modifyBase s p k f) p (modifyChecks s p k) accept
      = refuse (modifyBase s p k f) p code) :
    exec i s = .next (driveIrq (refuse (modifyBase s p k f) p code)) := by
  obtain ⟨ha, hw, hsp, hd⟩ := hm
  obtain ⟨ps, hb⟩ := modifyBase_eq s p k f
  have target : modifyTarget (modifyBase s p k f) p (be32 f.bytes 0).toNat = .ok (phys, cov) := by
    rw [hb, modifyTarget_setPort, modifyTarget_of_found ht]
  have checks : modifyChecks (modifyBase s p k f) p k = modifyChecks s p k := by
    simp only [modifyChecks, hb, barrierPending_setPort, outstanding_setPort, bufferShort_setPort]
  exact exec_modify_of_refused hi ha hw
    (decideModify_of_checkFailed hsp hd target (by rw [checks]; exact h))

theorem queueModify_of_full {a : Nat} (h : 8 ≤ s.queue.length) :
    queueModify s p k a = refuse s p .queueFull := if_pos (queueFull_eq_true.mpr h)

/-- Step 11: an untrapped request that meets a full queue (R46). -/
theorem exec_modify_of_queueFull {i : Instr} (hi : modifyOf i = some (p, k, f))
    (hm : ModifyArrives s p k f) {phys : Nat} {cov : Option (Fin 16)}
    (ht : TargetFound s p (be32 f.bytes 0).toNat phys cov) (hr : RoomFound s p k)
    (hn : NotTrapped s k cov) (hq : 8 ≤ s.queue.length) :
    exec i s = .next (driveIrq (refuse (modifyBase s p k f) p .queueFull)) := by
  obtain ⟨ha, hw, hsp, hd⟩ := hm
  obtain ⟨ps, hb⟩ := modifyBase_eq s p k f
  have full : 8 ≤ (modifyBase s p k f).queue.length := by rwa [hb, State.setPort_queue]
  refine exec_modify_of_refused hi ha hw ?_
  rw [decideModify_of_room hb hsp hd ht hr]
  cases cov with
  | none => exact queueModify_of_full full
  | some j =>
    obtain ⟨-, -, h, -⟩ | ⟨rfl, -⟩ := ht
    · cases h
    · rw [trapOrQueue, trapStep_of_untrapped (by rw [hb]; exact hn j rfl)]
      exact queueModify_of_full full

theorem emptySlotId_of_filled (h0 : s.slot0.state ≠ .empty) (h1 : s.slot1.state ≠ .empty) :
    emptySlotId s = none := (if_neg h0).trans (if_neg h1)

/-- Step 10: a trapped request that meets two filled slots (R45). -/
theorem exec_modify_of_trapFull {i : Instr} (hi : modifyOf i = some (p, k, f))
    (hm : ModifyArrives s p k f) {phys : Nat} {cov : Option (Fin 16)} {j : Fin 16}
    (ht : TargetFound s p (be32 f.bytes 0).toNat phys cov) (hr : RoomFound s p k)
    (htr : Trapped s k cov j) (hw : s.watchdog.state ≠ .lapsed) (h0 : s.slot0.state ≠ .empty)
    (h1 : s.slot1.state ≠ .empty) :
    exec i s = .next (driveIrq (refuse (modifyBase s p k f) p .trapFull)) := by
  obtain ⟨hcov, -⟩ := id htr
  obtain ⟨-, -, h, -⟩ | ⟨rfl, -⟩ := id ht
  · rw [hcov] at h
    cases h
  · rw [exec_trapped hi hm ht htr hr, if_neg hw, emptySlotId_of_filled h0 h1]
    dsimp only
    rw [discardLatch_refuse]
    rfl

/-! ### The counts and the rights that the checks look at -/

theorem outstanding_eq (s : State) (p : Port) : outstanding s p
    = (s.queue.countP fun e => e.origin = portOrigin p ∧ e.orphan = false)
      + (if p = .a then [SlotId.s0, .s1].countP fun i => (s.slot i).state ≠ .empty else 0) := by
  have live : (s.queue.countP fun e => e.origin = portOrigin p ∧ e.orphan = false)
      = s.queue.countP (ownedLive (portOrigin p)) :=
    List.countP_congr fun e _ => by simp [ownedLive]
  rw [outstanding, live]
  cases p with
  | a =>
    by_cases h0 : s.slot0.state = .empty <;> by_cases h1 : s.slot1.state = .empty <;>
      simp [heldCount, slotFilled, bit, State.slot, h0, h1]
  | m => rfl

theorem freeBuffer?_eq_none : freeBuffer? s = none ↔ ∀ i : Fin 6, s.pool[i] ≠ none := by
  simp [freeBuffer?]

theorem buffersOwned_eq (s : State) (o : Origin) : buffersOwned s o
    = (List.finRange 6).countP fun i => s.pool[i].any fun b => b.origin = o :=
  List.countP_congr fun i _ => by cases s.pool[i] <;> simp

theorem bufferShort_iff {o : Origin} : bufferShort s o = true ↔ (∀ i : Fin 6, s.pool[i] ≠ none)
    ∨ (match o with | .a => 3 | .m => 3 | .job => 2)
      ≤ (List.finRange 6).countP fun i => s.pool[i].any fun b => b.origin = o := by
  rw [bufferShort, Bool.or_eq_true, Option.isNone_iff_eq_none, freeBuffer?_eq_none, decide_eq_true_eq,
    buffersOwned_eq]
  rfl

/-- Port M's column of R61. -/
theorem portMWriteRefusal_spec (s : State) (a : Nat) :
    (portMWriteRefusal s a = none ↔
        (∃ j, partitionOf s.activeImage a = some j ∧ s.activeImage.entries[j].mRights = 2)
          ∨ partitionOf s.activeImage a = none ∧ guardPermits s = true)
      ∧ ∀ code, portMWriteRefusal s a = some code →
        (code = .protected_ ∧ ∃ j, partitionOf s.activeImage a = some j)
          ∨ (code = .guarded ∧ partitionOf s.activeImage a = none) := by
  cases h : partitionOf s.activeImage a with
  | none =>
    rw [portMWriteRefusal_of_unpartitioned h]
    cases guardPermits s <;> simp [eq_comm]
  | some j =>
    rw [portMWriteRefusal_of_partition h]
    by_cases hr : s.activeImage.entries[j].mRights = 2
    · rw [if_pos hr]
      exact ⟨⟨fun _ => .inl ⟨j, rfl, hr⟩, fun _ => rfl⟩, fun _ hc => by cases hc⟩
    · rw [if_neg hr]
      refine ⟨⟨fun hc => (by cases hc), ?_⟩, fun code hc => ?_⟩
      · rintro (⟨_, hj, hm⟩ | ⟨hj, -⟩) <;> cases hj
        exact absurd hm hr
      · cases hc
        exact .inl ⟨rfl, j, rfl⟩

end

/-- Settles O31: the request goes through the steps of R40 in their order. -/
theorem modifyRefusals : Obligations.ModifyRefusals := by
  unfold Obligations.ModifyRefusals
  refine ⟨fun i s p k f hi ha hw => ?_, fun i s p k f phys cov hi hm ht => ?_, outstanding_eq,
    fun s o => bufferShort_iff, portMWriteRefusal_spec⟩
  · refine ⟨fun h => ?_, fun h hk hl => ?_, fun hm hp ht => ?_, fun j phys hm hp ht hr => ?_,
      fun j hm hp ht hr => ?_, fun hm hp ht hg => ?_⟩
    · exact exec_modify_of_refused hi ha hw (decideModify_of_outside (addressInSpace_eq_false.mpr h))
    · subst hk
      exact exec_modify_of_refused hi ha hw
        (decideModify_of_noData (addressInSpace_eq_true.mpr h) hl.le)
    · subst hp
      exact exec_modify_of_targetError hi hm (modifyTarget_a_of_unmapped ht)
    · subst hp
      exact exec_modify_of_targetError hi hm (modifyTarget_a_of_readOnly ht hr)
    · subst hp
      refine exec_modify_of_targetError hi hm (modifyTarget_m_of_refusal ?_)
      rw [portMWriteRefusal_of_partition ht, if_neg hr]
    · subst hp
      refine exec_modify_of_targetError hi hm (modifyTarget_m_of_refusal ?_)
      rw [portMWriteRefusal_of_unpartitioned ht, hg]
      rfl
  · refine ⟨fun hbar => ?_, fun hbar hout => ?_, fun hbar hout hk hbuf => ?_,
      fun j hr htr hw h0 h1 => exec_modify_of_trapFull hi hm ht hr htr hw h0 h1,
      fun hr hn hq => exec_modify_of_queueFull hi hm ht hr hn hq⟩
    · exact exec_modify_of_target hi hm ht fun _ => decided_fail hbar
    · exact exec_modify_of_target hi hm ht fun _ => (decided_pass hbar).trans
        (decided_fail (decide_eq_true hout))
    · exact exec_modify_of_target hi hm ht fun _ => (decided_pass hbar).trans ((decided_pass
        (decide_eq_false (Nat.not_le.mpr hout))).trans (decided_fail (by rw [hk, hbuf]; rfl)))

end Sys2Proof.Machine

namespace Sys2Proof.Machine

set_option Elab.async false

/-! ### What a program and an erase leave in each byte -/

/-- The bits that a program leaves: the AND, but for the cells that kept an old 1 against a new 0 (R38,
R81). -/
theorem programmedByte_eq (old new mask : Byte) :
    programmedByte old new mask = (old &&& new) ||| (old &&& mask &&& ~~~ new) := by
  refine BitVec.eq_of_getLsbD_eq fun i hi => ?_
  simp only [programmedByte, BitVec.getLsbD_or, BitVec.getLsbD_and, BitVec.getLsbD_not, hi, decide_true,
    Bool.true_and]
  cases old.getLsbD i <;> cases new.getLsbD i <;> cases mask.getLsbD i <;> rfl

/-- A byte of FFh changes nothing (R38). -/
theorem programmedByte_erased (old mask : Byte) : programmedByte old erasedByte mask = old := by
  refine BitVec.eq_of_getLsbD_eq fun i hi => ?_
  have ones : erasedByte.getLsbD i = true := by
    rw [show erasedByte = BitVec.allOnes 8 from rfl, BitVec.getLsbD_allOnes, decide_eq_true hi]
  simp only [programmedByte, BitVec.getLsbD_or, BitVec.getLsbD_and, ones]
  cases old.getLsbD i <;> simp

theorem memProgram_cons (m : Memory) (base : Nat) (c : Host.Cell) (buf : Memory) (stuck : StuckBits) :
    memProgram m base (c :: buf) stuck = memProgram (memWrite m (base + c.1)
      (programmedByte (memRead m (base + c.1)) c.2 (stuckMask stuck c.1))) base buf stuck := rfl

/-- A program, byte by byte of its buffer (R38). -/
theorem memRead_memProgram {m buf : Memory} {lo : Nat} (base : Nat) (stuck : StuckBits) (a : Nat)
    (hm : m.wf = true) (hb : memWfFrom lo buf = true) :
    memRead (memProgram m base buf stuck) a = if base ≤ a then
      programmedByte (memRead m a) (memRead buf (a - base)) (stuckMask stuck (a - base))
    else memRead m a := by
  induction buf generalizing m lo with
  | nil =>
    rw [memRead_nil, programmedByte_erased]
    exact (ite_self _).symm
  | cons c buf ih =>
    obtain ⟨-, -, hrest⟩ := (memWfFrom_cons lo c buf).mp hb
    rw [memProgram_cons, ih (memWrite_wf _ _ hm) hrest, memRead_memWrite hm, memRead_cons]
    by_cases ha : base ≤ a
    · by_cases hc : a = base + c.1
      · have hoff : a - base = c.1 := by omega
        have later : memRead buf c.1 = erasedByte := memRead_below hrest (Nat.lt_succ_self _)
        rw [if_pos ha, if_pos ha, if_pos hc, if_pos hoff, hoff, later, programmedByte_erased, hc]
      · have hoff : a - base ≠ c.1 := by omega
        rw [if_pos ha, if_pos ha, if_neg hc, if_neg hoff]
    · have hc : a ≠ base + c.1 := by omega
      rw [if_neg ha, if_neg ha, if_neg hc]

/-- What an erase leaves of one cell (R39). -/
def erasedCell (base len : Nat) (stuck : StuckBits) (c : Host.Cell) : Byte :=
  if base ≤ c.1 ∧ c.1 < base + len then erasedWith c.2 (stuckMask stuck (c.1 - base)) else c.2

/-- A cell that reads FFh after the erase is listed no longer. -/
theorem memErase_cons {m : Memory} {base len : Nat} {stuck : StuckBits} {c : Host.Cell}
    (hc : c.2 ≠ erasedByte) : memErase (c :: m) base len stuck =
      if erasedCell base len stuck c = erasedByte then memErase m base len stuck
      else (c.1, erasedCell base len stuck c) :: memErase m base len stuck := by
  unfold memErase erasedCell
  by_cases hr : base ≤ c.1 ∧ c.1 < base + len
  · by_cases hv : erasedWith c.2 (stuckMask stuck (c.1 - base)) = erasedByte <;>
      simp [hr, hv]
  · simp [hr, hc]

theorem memRead_memErase_cons {m : Memory} {base len : Nat} {stuck : StuckBits} {c : Host.Cell} {a : Nat}
    (hc : c.2 ≠ erasedByte) (hm : a = c.1 → memRead (memErase m base len stuck) a = erasedByte) :
    memRead (memErase (c :: m) base len stuck) a = if a = c.1 then erasedCell base len stuck c
      else memRead (memErase m base len stuck) a := by
  rw [memErase_cons hc]
  by_cases hv : erasedCell base len stuck c = erasedByte
  · rw [if_pos hv, hv]
    by_cases ha : a = c.1
    · rw [if_pos ha, hm ha]
    · rw [if_neg ha]
  · rw [if_neg hv, memRead_cons]

theorem erasedWith_erased (mask : Byte) : erasedWith erasedByte mask = erasedByte :=
  BitVec.allOnes_or

/-- An erase, byte by byte (R39). -/
theorem memRead_memErase {m : Memory} {lo : Nat} (base len : Nat) (stuck : StuckBits) (a : Nat)
    (hm : memWfFrom lo m = true) :
    memRead (memErase m base len stuck) a = if base ≤ a ∧ a < base + len then
      erasedWith (memRead m a) (stuckMask stuck (a - base)) else memRead m a := by
  induction m generalizing lo with
  | nil =>
    rw [memRead_nil, erasedWith_erased]
    exact (ite_self _).symm
  | cons c m ih =>
    obtain ⟨-, hc, hrest⟩ := (memWfFrom_cons lo c m).mp hm
    have later : a = c.1 → memRead (memErase m base len stuck) a = erasedByte := by
      rintro rfl
      rw [ih hrest, memRead_below hrest (Nat.lt_succ_self _), erasedWith_erased]
      exact ite_self _
    rw [memRead_memErase_cons hc later, memRead_cons]
    by_cases ha : a = c.1
    · rw [if_pos ha, if_pos ha, ha]
      rfl
    · rw [if_neg ha, if_neg ha, ih hrest]

/-! ### The completion of an array operation -/

section
variable {s : State} {e : Entry} {base len : Nat} {stuck : StuckBits}

theorem arrayAfter_of_program (h : e.kind = .pageProgram) :
    arrayAfter s e base len stuck = memProgram s.array base (bufferData s e.buffer) stuck := if_pos h

theorem arrayAfter_of_erase (h : e.kind ≠ .pageProgram) :
    arrayAfter s e base len stuck = memErase s.array base len stuck := if_neg h

theorem bufferData_of_owned {i : Fin 6} {b : PageBuf} (hb : e.buffer = some i) (hp : s.pool[i] = some b) :
    bufferData s e.buffer = b.data := by
  rw [hb]
  simp only [bufferData, hp]

/-- What an entry's buffer holds is canonical and lies within a page (R51). -/
theorem bufferData_sound (h : Canonical s) (b : Option (Fin 6)) : (bufferData s b).wf = true
    ∧ ∀ c ∈ bufferData s b, c.1 < Config.pageBytes := by
  cases b with
  | none => exact ⟨rfl, fun c hc => by cases hc⟩
  | some i =>
    cases hp : s.pool[i] with
    | none =>
      simp only [bufferData, hp]
      exact ⟨rfl, fun c hc => by cases hc⟩
    | some pb =>
      simp only [bufferData, hp]
      exact h.2.2 i pb hp

theorem memRead_of_not_mem {m : Memory} {a : Nat} (h : ∀ c ∈ m, c.1 ≠ a) :
    memRead m a = erasedByte := by
  induction m with
  | nil => rfl
  | cons c m ih =>
    rw [memRead_cons, if_neg fun ha => h c List.mem_cons_self ha.symm]
    exact ih fun d hd => h d (List.mem_cons_of_mem c hd)

/-- Every byte outside the target is as it was (R38, R39). -/
theorem memRead_arrayAfter_outside (h : Canonical s) (hl : e.kind = .pageProgram → len = 256) {a : Nat}
    (ha : a < base ∨ base + len ≤ a) :
    memRead (arrayAfter s e base len stuck) a = memRead s.array a := by
  obtain ⟨harray, -, -⟩ := id h
  by_cases hk : e.kind = .pageProgram
  · obtain ⟨hwf, hpage⟩ := bufferData_sound h e.buffer
    rw [arrayAfter_of_program hk, memRead_memProgram base stuck a harray hwf]
    split
    · have beyond : memRead (bufferData s e.buffer) (a - base) = erasedByte := by
        refine memRead_of_not_mem fun c hc hca => ?_
        have : c.1 < 256 := hpage c hc
        have := hl hk
        omega
      rw [beyond, programmedByte_erased]
    · rfl
  · rw [arrayAfter_of_erase hk, memRead_memErase base len stuck a harray, if_neg (by omega)]

theorem operationResult_of_array (hk : isArrayKind e.kind = true) (ht : e.target = .array base len) :
    operationResult s e stuck = ({ s with array := arrayAfter s e base len stuck },
      judged (arrayAfter s e base len stuck) (arrayAfter s e base len [])) := by
  obtain hk | hk | hk := (isArrayKind_iff e.kind).mp hk <;> simp only [operationResult, hk, ht]

/-- The report of an entry that is no job step of a job that is known still (R83, R131). -/
theorem reportOutcome_of_port {out : OpOutcome} (hk : isArrayKind e.kind = true)
    (ht : e.target = .array base len) (ho : e.origin ≠ .job ∨ e.orphan = true) :
    reportOutcome s e out =
      (let logged := if out = .failed then
          logEvent s .opFailed (originCode e.origin) e.tag (kindCode e.kind) (addressWord base)
        else s
      if e.orphan then logged
      else pushCompletion logged (if e.origin = .a then .a else .m)
        ⟨e.tag, e.kind, out, e.redirected, e.auto⟩) := by
  have logged : logFailed s e out = if out = .failed then
      logEvent s .opFailed (originCode e.origin) e.tag (kindCode e.kind) (addressWord base) else s := by
    simp only [logFailed, hk, and_true, ht]
    rfl
  unfold reportOutcome
  rw [logged]
  dsimp only
  cases horph : e.orphan with
  | true => rfl
  | false =>
    cases horig : e.origin with
    | a | m => rfl
    | job =>
      rw [horig, horph] at ho
      simp at ho

theorem exec_operationCompletion_of_array (hp : s.power = .active) (ha : activeEntry s = some e)
    (hk : isArrayKind e.kind = true) (ht : e.target = .array base len) :
    exec (.operationCompletion stuck) s = finish (fillFromMailbox (reportOutcome
      (removeActive { s with array := arrayAfter s e base len stuck } e) e
      (judged (arrayAfter s e base len stuck) (arrayAfter s e base len [])))) := by
  simp only [exec, execOperationCompletion, if_pos hp, ha, operationResult_of_array hk ht]

end

/-- Settles O48: the result is the array's alone, the report that of the entry's origin, and the bytes follow
from the buffer's cells and the range. -/
theorem arrayOperationCompletes : Obligations.ArrayOperationCompletes := by
  unfold Obligations.ArrayOperationCompletes
  refine ⟨fun s stuck e base len hp ha hk ht ho array' out gone harr hout hgone => ?_,
    fun m base buf stuck a hm hb => ?_, fun m base len stuck a hm => memRead_memErase base len stuck a hm,
    fun s e base len stuck => ⟨arrayAfter_of_program, arrayAfter_of_erase,
      fun i b hb hp => bufferData_of_owned hb hp⟩⟩
  · subst harr
    refine ⟨?_, fun hc hl a ha => memRead_arrayAfter_outside hc hl ha⟩
    rw [exec_operationCompletion_of_array hp ha hk ht, reportOutcome_of_port hk ht ho, hout, hgone]
    rfl
  · rw [memRead_memProgram base stuck a hm hb, programmedByte_eq]

end Sys2Proof.Machine

namespace Sys2Proof.Machine

-- As in the tests: a task for each proof would need more threads than the check's memory leaves.
set_option Elab.async false

/-! ## The discipline of the sequencer (R75, R86 to R88, R93)

The discipline speaks of the entries that have begun and of the suspend state. `sequencing` reads both off a
state, and leaves out the entries that it says nothing of, those that are WAITING and no orphans. One lemma per
operation says that it leaves them; the few commands that are the sequencer's own follow by themselves. -/

/-- As a new entry is: WAITING, and no orphan (R73). -/
def isFresh (e : Entry) : Bool := isWaiting e && !e.orphan

/-- The states and kinds of the entries that are not as new ones are, in the order of the queue. -/
def course (q : List Entry) : List (EntryState × Kind) :=
  (q.filter fun e => !isFresh e).map fun e => (e.state, e.kind)

/-- What the discipline speaks of. -/
def sequencing (s : State) : List (EntryState × Kind) × SuspendState := (course s.queue, s.suspend)

/-- `SequencerSound`, in what `sequencing` shows. -/
def Disciplined (c : List (EntryState × Kind)) (suspend : SuspendState) : Prop :=
  c.countP (·.1 == .active) ≤ 1 ∧ c.countP (·.1 == .suspended) ≤ 1
    ∧ (∀ x ∈ c, x.1 = .suspended → isEraseKind x.2 = true) ∧ (∀ x ∈ c, x.1 ≠ .waiting)
    ∧ (suspend ≠ .none → c.countP (·.1 == .active) = 1 ∧ c.countP (·.1 == .suspended) = 0)

theorem isFresh_iff {e : Entry} : isFresh e = true ↔ e.state = .waiting ∧ e.orphan = false := by
  simp [isFresh, isWaiting]

theorem isFresh_eq_false {e : Entry} : isFresh e = false ↔ (e.orphan = false → e.state ≠ .waiting) := by
  rw [Bool.eq_false_iff, ne_eq, isFresh_iff]
  tauto

theorem mem_course {q : List Entry} {x : EntryState × Kind} :
    x ∈ course q ↔ ∃ e ∈ q, isFresh e = false ∧ (e.state, e.kind) = x := by
  simp [course, and_assoc]

/-- An entry that is in a state other than WAITING shows. -/
theorem countP_course {st : EntryState} (h : st ≠ .waiting) (q : List Entry) :
    (course q).countP (·.1 == st) = q.countP (·.state == st) := by
  rw [course, List.countP_map, List.countP_filter]
  refine List.countP_congr fun e _ => ?_
  simp only [Function.comp_apply, Bool.and_eq_true, beq_iff_eq, Bool.not_eq_true', isFresh_eq_false,
    and_iff_left_iff_imp]
  rintro rfl _
  exact h

theorem sequencerSound_iff {s : State} : SequencerSound s ↔ Disciplined (course s.queue) s.suspend := by
  have erases : (∀ x ∈ course s.queue, x.1 = .suspended → isEraseKind x.2 = true)
      ↔ ∀ e ∈ s.queue, isSuspended e = true → isEraseKind e.kind = true := by
    simp only [mem_course, isSuspended, beq_iff_eq]
    constructor
    · exact fun h e he hs => h (e.state, e.kind) ⟨e, he, by simp [isFresh_eq_false, hs], rfl⟩ hs
    · rintro h _ ⟨e, he, -, rfl⟩ hs
      exact h e he hs
  have orphans : (∀ x ∈ course s.queue, x.1 ≠ .waiting)
      ↔ ∀ e ∈ s.queue, e.orphan = true → isWaiting e = false := by
    simp only [mem_course, isWaiting, beq_eq_false_iff_ne]
    constructor
    · exact fun h e he ho => h (e.state, e.kind) ⟨e, he, by simp [isFresh_eq_false, ho], rfl⟩
    · rintro h _ ⟨e, he, hf, rfl⟩
      cases ho : e.orphan with
      | true => exact h e he ho
      | false => exact isFresh_eq_false.mp hf ho
  rw [SequencerSound, Disciplined, countP_course (by decide), countP_course (by decide), erases, orphans]
  rfl

/-- An operation that leaves what the discipline speaks of keeps it. -/
theorem sequencerSound_congr {t u : State} (h : sequencing u = sequencing t) (hs : SequencerSound t) :
    SequencerSound u := by
  simp only [sequencing, Prod.mk.injEq] at h
  rw [sequencerSound_iff] at hs ⊢
  rwa [h.1, h.2]

/-! ### Queues that differ in new entries alone -/

theorem course_append (q q' : List Entry) : course (q ++ q') = course q ++ course q' := by
  rw [course, List.filter_append, List.map_append]
  rfl

theorem course_cons_of_fresh {e : Entry} (h : isFresh e = true) (q : List Entry) :
    course (e :: q) = course q := by
  rw [course, List.filter_cons_of_neg (by simp [h])]
  rfl

theorem course_append_of_fresh (q : List Entry) {e : Entry} (h : isFresh e = true) :
    course (q ++ [e]) = course q := by
  rw [course_append, course_cons_of_fresh h]
  exact List.append_nil _

/-- Entries that leave before they have begun (R85, R93, R118). -/
theorem course_filter_of_fresh {has : Entry → Bool} (h : ∀ e, has e = false → isFresh e = true)
    (q : List Entry) : course (q.filter has) = course q := by
  rw [course, List.filter_filter]
  refine congrArg _ (List.filter_congr fun e _ => ?_)
  cases he : has e with
  | true => simp
  | false => simp [h e he]

theorem course_eraseP_of_fresh {has : Entry → Bool} {q : List Entry} {e : Entry}
    (hf : q.find? has = some e) (he : isFresh e = true) : course (q.eraseP has) = course q := by
  induction q with
  | nil => cases hf
  | cons d q ih =>
    rw [List.find?_cons] at hf
    by_cases hd : has d = true
    · rw [hd] at hf
      cases hf
      rw [List.eraseP_cons_of_pos hd, course_cons_of_fresh he]
    · rw [Bool.not_eq_true] at hd
      rw [hd] at hf
      rw [List.eraseP_cons_of_neg (by simp [hd])]
      change course ([d] ++ _) = course ([d] ++ _)
      rw [course_append, course_append, ih hf]

/-- Entries that change in other fields than the discipline's. -/
def Indifferent (g : Entry → Entry) : Prop :=
  ∀ e, isFresh (g e) = isFresh e ∧ (g e).state = e.state ∧ (g e).kind = e.kind

theorem course_map {g : Entry → Entry} (hg : Indifferent g) (q : List Entry) :
    course (q.map g) = course q := by
  have fresh : (fun e => !isFresh e) ∘ g = fun e => !isFresh e := funext fun e => by
    rw [Function.comp_apply, (hg e).1]
  have shown : (fun e => (e.state, e.kind)) ∘ g = fun e => (e.state, e.kind) := funext fun e => by
    obtain ⟨-, hs, hk⟩ := hg e
    rw [Function.comp_apply, hs, hk]
  rw [course, List.filter_map, List.map_map, fresh, shown]
  rfl

theorem course_updateFirst {has : Entry → Bool} {g : Entry → Entry} (hg : Indifferent g)
    (q : List Entry) :
    course (updateFirst has g q) = course q := by
  induction q with
  | nil => rfl
  | cons e q ih =>
    unfold updateFirst
    split
    · change course ([e].map g ++ q) = course ([e] ++ q)
      rw [course_append, course_append, course_map hg]
    · change course ([e] ++ _) = course ([e] ++ _)
      rw [course_append, course_append, ih]

end Sys2Proof.Machine

namespace Sys2Proof.Machine

set_option Elab.async false

/-! ### Operations that leave the sequencer alone -/

@[simp] theorem sequencing_setPort (s : State) (p : Port) (ps : PortState) :
    sequencing (s.setPort p ps) = sequencing s := by cases p <;> rfl
@[simp] theorem sequencing_setSlot (s : State) (i : SlotId) (sl : MailSlot) :
    sequencing (s.setSlot i sl) = sequencing s := by cases i <;> rfl
@[simp] theorem sequencing_setStore (s : State) (i : SlotId) (bs : List Byte) :
    sequencing (s.setStore i bs) = sequencing s := by cases i <;> rfl
@[simp] theorem sequencing_setStoreClass (s : State) (i : SlotId) (c : SlotClass) :
    sequencing (s.setStoreClass i c) = sequencing s := by cases i <;> rfl
@[simp] theorem sequencing_logEvent (s : State) (k : EventKind) (o t d : Byte) (a : Word) :
    sequencing (logEvent s k o t d a) = sequencing s := by unfold logEvent; split <;> rfl
@[simp] theorem sequencing_refuse (s : State) (p : Port) (code : RefusalCode) :
    sequencing (refuse s p code) = sequencing s := sequencing_setPort ..
@[simp] theorem sequencing_refuseTorn (s : State) (p : Port) (c : Command) :
    sequencing (refuseTorn s p c) = sequencing s := by simp [refuseTorn]
@[simp] theorem sequencing_pushCompletion (s : State) (p : Port) (r : Completion) :
    sequencing (pushCompletion s p r) = sequencing s := by
  unfold pushCompletion
  dsimp only
  split <;> simp
@[simp] theorem sequencing_noteTag (s : State) (p : Port) (t : Byte) :
    sequencing (noteTag s p t) = sequencing s := sequencing_setPort ..
@[simp] theorem sequencing_takeFree (s : State) (o : Origin) (d : Memory) :
    sequencing (takeFree s o d) = sequencing s := by unfold takeFree; split <;> rfl
@[simp] theorem sequencing_releaseBuffer (s : State) (b : Option (Fin 6)) :
    sequencing (releaseBuffer s b) = sequencing s := by cases b <;> rfl

/-- A new entry at the tail is WAITING and no orphan (R73). -/
theorem sequencing_enqueue (s : State) {e : Entry} (h : isFresh e = true) :
    sequencing (enqueue s e) = sequencing s := by
  rw [sequencing, enqueue, course_append_of_fresh _ h]
  rfl
@[simp] theorem sequencing_enqueue_newEntry (s : State) (t : Byte) (o : Origin) (k : Kind) (g : Target)
    (b : Option (Fin 6)) (r a : Bool) :
    sequencing (enqueue s (newEntry t o k g b r a)) = sequencing s := sequencing_enqueue s rfl

theorem sequencing_decided {s t : State} {p : Port} {checks : List (Bool × RefusalCode)}
    {accept : State → State} (ht : sequencing t = sequencing s) (h : sequencing (accept t) = sequencing s) :
    sequencing (decided t p checks accept) = sequencing s := by
  unfold decided
  split
  · rw [sequencing_refuse, ht]
  · exact h

/-! The mailbox and the watchdog -/

@[simp] theorem sequencing_slotToQueue (s : State) (i : SlotId) :
    sequencing (slotToQueue s i) = sequencing s := by simp [slotToQueue, slotEntry]
@[simp] theorem sequencing_releaseSlot (s : State) (i : SlotId) :
    sequencing (releaseSlot s i) = sequencing s := by unfold releaseSlot; split <;> simp
@[simp] theorem sequencing_slotTakesEntry (s : State) (i : SlotId) :
    sequencing (slotTakesEntry s i) = sequencing s := by unfold slotTakesEntry; split <;> simp
@[simp] theorem sequencing_fillFromMailbox (s : State) :
    sequencing (fillFromMailbox s) = sequencing s := by simp [fillFromMailbox]
@[simp] theorem sequencing_emptySlotAt (s : State) (i : SlotId) :
    sequencing (emptySlotAt s i) = sequencing s := by simp [emptySlotAt]
@[simp] theorem sequencing_denySlot (s : State) (i : SlotId) (auto : Bool) :
    sequencing (denySlot s i auto) = sequencing s := by simp [denySlot]
@[simp] theorem sequencing_resolveByDefault (s : State) (i : SlotId) (auto : Bool) (k : EventKind) :
    sequencing (resolveByDefault s i auto k) = sequencing s := by
  unfold resolveByDefault
  dsimp only
  split <;> simp
@[simp] theorem sequencing_lapseSlot (s : State) (i : SlotId) :
    sequencing (lapseSlot s i) = sequencing s := by unfold lapseSlot; split <;> simp
@[simp] theorem sequencing_lapse (s : State) : sequencing (lapse s) = sequencing s := by
  simp only [lapse, sequencing_lapseSlot, sequencing_logEvent]; rfl
@[simp] theorem sequencing_redirectSlot (s : State) (i : SlotId) (a : Nat) :
    sequencing (redirectSlot s i a) = sequencing s := by simp [redirectSlot]
@[simp] theorem sequencing_writeSlotBuffer (s : State) (p : Port) (b : Option (Fin 6)) :
    sequencing (writeSlotBuffer s p b) = sequencing s := by
  unfold writeSlotBuffer
  repeat' split
  all_goals rfl
@[simp] theorem sequencing_startWatchdog (s : State) :
    sequencing (startWatchdog s) = sequencing s := rfl
@[simp] theorem sequencing_watchdogWritten (s : State) :
    sequencing (watchdogWritten s) = sequencing s := by
  unfold watchdogWritten
  split
  · split
    case h_3 => exact sequencing_logEvent ..
    all_goals rfl
  · split <;> rfl
@[simp] theorem sequencing_takeDefaults (s : State) (p : Port) :
    sequencing (takeDefaults s p) = sequencing s := by cases p <;> rfl

/-! Requests -/

@[simp] theorem sequencing_discardLatch (s : State) (p : Port) :
    sequencing (discardLatch s p) = sequencing s := sequencing_setPort ..
@[simp] theorem sequencing_receiveData (s : State) (p : Port) (start : Nat) (data : List Byte) :
    sequencing (receiveData s p start data) = sequencing s := sequencing_setPort ..

/-- An armed request leaves what its decision leaves (R35). -/
theorem sequencing_armedDecision {s t : State} {p : Port} {decide : State → State}
    (ht : sequencing t = sequencing s)
    (h : ∀ u, sequencing u = sequencing s → sequencing (decide u) = sequencing s) :
    sequencing (armedDecision t p decide) = sequencing s := by
  unfold armedDecision
  split
  · exact h _ (by rw [sequencing_setPort, ht])
  · rw [sequencing_refuse, ht]

@[simp] theorem sequencing_acceptModify (s : State) (p : Port) (k : Kind) (a : Nat) (auto : Bool) :
    sequencing (acceptModify s p k a auto) = sequencing s := by
  unfold acceptModify takeProgramBuffer
  dsimp only
  split <;> simp
@[simp] theorem sequencing_queueModify (s : State) (p : Port) (k : Kind) (a : Nat) :
    sequencing (queueModify s p k a) = sequencing s := by unfold queueModify; split <;> simp
@[simp] theorem sequencing_startTrapDeadline (s : State) (i : SlotId) :
    sequencing (startTrapDeadline s i) = sequencing s := rfl
@[simp] theorem sequencing_holdRequest (s : State) (i : SlotId) (k : Kind) (j : Fin 16) (a b : Nat) :
    sequencing (holdRequest s i k j a b) = sequencing s := by
  unfold holdRequest takeProgramBuffer
  split <;> simp
@[simp] theorem sequencing_denyAtOnce (s : State) (k : Kind) (a : Nat) :
    sequencing (denyAtOnce s k a) = sequencing s := by simp [denyAtOnce]
@[simp] theorem sequencing_releaseAtOnce (s : State) (k : Kind) (a : Nat) :
    sequencing (releaseAtOnce s k a) = sequencing s := by unfold releaseAtOnce; split <;> simp
@[simp] theorem sequencing_trapStep (s : State) (k : Kind) (i : Fin 16) (a b : Nat) :
    sequencing (trapStep s k i a b) = sequencing s := by
  unfold trapStep
  repeat' split
  all_goals simp
@[simp] theorem sequencing_decideModify (s : State) (p : Port) (k : Kind) (f : Frame) :
    sequencing (decideModify s p k f) = sequencing s := by
  unfold decideModify
  dsimp only
  split
  · simp
  · split
    · simp
    · split
      · simp [refuseModify]
      · refine sequencing_decided rfl ?_
        split <;> simp
@[simp] theorem sequencing_acceptEntry (s : State) (k : Kind) (t : Target) (b : Option (Fin 6)) :
    sequencing (acceptEntry s k t b) = sequencing s := by simp [acceptEntry]

/-- The entry that CANCEL takes out has not begun and is no orphan (R84, R85). -/
theorem sequencing_cancelEntry {s : State} {p : Port} {e : Entry}
    (hf : s.queue.find? (namedBy p e.tag) = some e) (hw : isWaiting e = true) :
    sequencing (cancelEntry s p e) = sequencing s := by
  have live : e.orphan = false := by
    have named := List.find?_some hf
    simp only [namedBy, ownedLive, Bool.and_eq_true, Bool.not_eq_true'] at named
    obtain ⟨⟨-, live⟩, -⟩ := named
    exact live
  have fresh : isFresh e = true := by simp [isFresh, hw, live]
  simp only [cancelEntry, sequencing_fillFromMailbox, sequencing_pushCompletion, sequencing_releaseBuffer]
  rw [sequencing, course_eraseP_of_fresh hf fresh]
  rfl
@[simp] theorem sequencing_cancelSlot (s : State) (i : SlotId) :
    sequencing (cancelSlot s i) = sequencing s := by simp [cancelSlot]
@[simp] theorem sequencing_decideCancel (s : State) (p : Port) (t : Byte) :
    sequencing (decideCancel s p t) = sequencing s := by
  unfold decideCancel
  split
  · simp
  · split
    · simp
    · split
      · simp
      · rename_i e he
        split
        · exact sequencing_cancelEntry (by rwa [tag_of_find? he]) ‹_›
        · simp
@[simp] theorem sequencing_setResumePending (s : State) :
    sequencing (setResumePending s) = sequencing s :=
  congrArg (·, s.suspend) (course_updateFirst (g := fun e => { e with resumePending := true })
    (fun _ => ⟨rfl, rfl, rfl⟩) s.queue)
theorem sequencing_withHeldSlot {s t : State} {p : Port} {field : Byte} {act : SlotId → State}
    (ht : sequencing t = sequencing s) (h : ∀ i, sequencing (act i) = sequencing s) :
    sequencing (withHeldSlot t p field act) = sequencing s := by
  unfold withHeldSlot
  repeat' split
  · rw [sequencing_refuse, ht]
  · exact h _
  · rw [sequencing_refuse, ht]

/-! The configuration -/

@[simp] theorem sequencing_writeLive (s : State) (off : Nat) (v : Byte) :
    sequencing (writeLive s off v) = sequencing s := by
  unfold writeLive
  dsimp only
  split
  · exact sequencing_watchdogWritten _
  · rfl
@[simp] theorem sequencing_startCommit (s : State) : sequencing (startCommit s) = sequencing s := by
  unfold startCommit
  split
  · rfl
  · exact sequencing_setStoreClass ..
@[simp] theorem sequencing_applyStaging (s : State) : sequencing (applyStaging s) = sequencing s := by
  unfold applyStaging
  dsimp only
  split
  · rfl
  · exact sequencing_watchdogWritten _
@[simp] theorem sequencing_applyCommit (s : State) (k : EventKind) (t d : Byte) (a : Word) :
    sequencing (applyCommit s k t d a) = sequencing s := by unfold applyCommit; split <;> simp
@[simp] theorem sequencing_commitResult (s : State) (t : Byte) (stuck : StuckBits) :
    sequencing (commitResult s t stuck).1 = sequencing s := by
  unfold commitResult
  dsimp only
  split
  · split
    · exact (sequencing_applyCommit ..).trans
        ((sequencing_setStoreClass ..).trans (sequencing_setStore ..))
    · simp only [sequencing_logEvent, sequencing_setStoreClass, sequencing_setStore]; rfl
  · exact sequencing_applyCommit ..
  · exact sequencing_applyCommit ..

/-! The engine -/

@[simp] theorem sequencing_setCurrentJob (s : State) (d : Descriptor) :
    sequencing (setCurrentJob s d) = sequencing s := by unfold setCurrentJob; split <;> rfl
@[simp] theorem sequencing_beginJob (s : State) (i : Nat) :
    sequencing (beginJob s i) = sequencing s := by unfold beginJob; split <;> rfl
@[simp] theorem sequencing_drainCheck (s : State) : sequencing (drainCheck s) = sequencing s := by
  unfold drainCheck
  repeat' split
  all_goals rfl
@[simp] theorem sequencing_moveOn (s : State) : sequencing (moveOn s) = sequencing s := by
  unfold moveOn
  split
  · split
    · exact sequencing_beginJob ..
    · rfl
  all_goals rfl
@[simp] theorem sequencing_finishJob (s : State) (d : Descriptor) :
    sequencing (finishJob s d) = sequencing s := by simp [finishJob]
@[simp] theorem sequencing_faultJob (s : State) (d : Descriptor) (c : JobFault) (a : Nat) :
    sequencing (faultJob s d c a) = sequencing s := by unfold faultJob; split <;> simp
@[simp] theorem sequencing_issueStep (s : State) (d : Descriptor) (k : Kind) (a : Nat) :
    sequencing (issueStep s d k a) = sequencing s := by
  refine (sequencing_enqueue_newEntry _ d.id .job k (granule k a) (bufferChoice s k) false false).trans ?_
  split <;> simp
@[simp] theorem sequencing_tryStep (s : State) (d : Descriptor) (k : Kind) (a : Nat) :
    sequencing (tryStep s d k a) = sequencing s := by
  unfold tryStep
  repeat' split
  all_goals simp
@[simp] theorem sequencing_stepCompleted (s : State) (e : Entry) (out : OpOutcome) :
    sequencing (stepCompleted s e out) = sequencing s := by
  unfold stepCompleted finishIfDone
  dsimp only
  repeat' split
  all_goals simp
@[simp] theorem sequencing_afterChunk (s : State) (d : Descriptor) :
    sequencing (afterChunk s d) = sequencing s := by unfold afterChunk; split <;> simp
@[simp] theorem sequencing_digestChunk (s : State) (d : Descriptor) :
    sequencing (digestChunk s d) = sequencing s := by
  unfold digestChunk
  dsimp only
  split
  · exact sequencing_afterChunk ..
  · rfl
@[simp] theorem sequencing_verifyChunk (s : State) (d : Descriptor) :
    sequencing (verifyChunk s d) = sequencing s := by
  unfold verifyChunk
  dsimp only
  repeat' split
  all_goals simp
@[simp] theorem sequencing_startNext (s : State) (p : Port) :
    sequencing (startNext s p) = sequencing s := by
  unfold startNext
  split
  · exact sequencing_beginJob ..
  · simp

theorem isFresh_of_waitingOf {o : Origin} {e : Entry} (h : waitingOf o e = true) : isFresh e = true := by
  simp only [waitingOf, ownedLive, Bool.and_eq_true, Bool.not_eq_true'] at h
  obtain ⟨⟨-, ho⟩, hw⟩ := h
  simp [isFresh, hw, ho]

/-- WAITING entries of an origin that are no orphans leave no gap that shows (R93, R118). -/
@[simp] theorem sequencing_removeEntries (s : State) (o : Origin) :
    sequencing (removeEntries s (waitingOf o)) = sequencing s := by
  rw [removeEntries_eq, sequencing,
    course_filter_of_fresh fun e he => isFresh_of_waitingOf (o := o) (by simpa using he)]
  rfl

/-! The results of operations -/

@[simp] theorem sequencing_operationResult (s : State) (e : Entry) (stuck : StuckBits) :
    sequencing (operationResult s e stuck).1 = sequencing s := by
  unfold operationResult
  split
  case h_4 => exact sequencing_commitResult ..
  case h_5 | h_7 =>
    split
    · exact sequencing_logEvent ..
    · rfl
  all_goals rfl
@[simp] theorem sequencing_logFailed (s : State) (e : Entry) (out : OpOutcome) :
    sequencing (logFailed s e out) = sequencing s := by unfold logFailed; split <;> simp
@[simp] theorem sequencing_reportOutcome (s : State) (e : Entry) (out : OpOutcome) :
    sequencing (reportOutcome s e out) = sequencing s := by
  unfold reportOutcome
  dsimp only
  repeat' split
  all_goals simp
@[simp] theorem sequencing_expireHold (s : State) (e : Entry) :
    sequencing (expireHold s e) = sequencing s := by
  unfold expireHold
  split
  · rfl
  · exact (sequencing_logEvent ..).trans (sequencing_setResumePending _)
@[simp] theorem sequencing_abortTarget (s : State) (e : Entry) (stuck : StuckBits)
    (slot : Option (List Byte)) : sequencing (abortTarget s e stuck slot) = sequencing s := by
  unfold abortTarget
  split
  case h_5 | h_6 => split <;> rfl
  case h_7 =>
    split
    · exact sequencing_setStore ..
    all_goals rfl
  all_goals rfl
@[simp] theorem sequencing_abortOperations (s : State) (left : Leftover) :
    sequencing (abortOperations s left) = sequencing s := by
  unfold abortOperations abortSuspended abortActive
  repeat' split
  all_goals simp

/-! Transactions -/

@[simp] theorem sequencing_beginTransaction (s : State) (p : Port) :
    sequencing (beginTransaction s p) = sequencing s := by
  obtain ⟨ps, h⟩ := beginTransaction_eq s p
  rw [h, sequencing_setPort]
@[simp] theorem sequencing_deselect (s : State) (p : Port) :
    sequencing (deselect s p) = sequencing s := sequencing_setPort ..
@[simp] theorem sequencing_closeTransaction (s : State) (p : Port) :
    sequencing (closeTransaction s p) = sequencing s := sequencing_setPort ..
@[simp] theorem sequencing_ended (s : State) (p : Port) : sequencing (ended s p) = sequencing s := by
  simp [ended]
@[simp] theorem sequencing_consumeDelivery (s : State) (p : Port) :
    sequencing (consumeDelivery s p) = sequencing s := by
  obtain h | ⟨tx, fifo, log, -, h⟩ := consumeDelivery_cases s p <;> rw [h]
  exact sequencing_setPort ..
@[simp] theorem sequencing_fetchByte (s : State) (p : Port) (r : ReadOp) :
    sequencing (fetchByte s p r) = sequencing s := by
  unfold fetchByte
  dsimp only
  split
  · rename_i tx _
    obtain ⟨flags, h⟩ := dataByte_snd (consumeDelivery s p) p
      (chooseDelivery (consumeDelivery s p) p r tx) r
    simp [h]
  all_goals simp
@[simp] theorem sequencing_firstFetch (s : State) (p : Port) (tx : Tx) (w : List Byte) :
    sequencing (firstFetch s p tx w) = sequencing s := by
  unfold firstFetch
  dsimp only
  split <;> simp [startRead, receiveBytes]
@[simp] theorem sequencing_wakeUp (s : State) (p : Port) : sequencing (wakeUp s p) = sequencing s := by
  have port (ps : PortState) : sequencing (s.setPort p ps) = sequencing s := sequencing_setPort ..
  unfold wakeUp
  dsimp only
  repeat' split
  all_goals exact port _

/-! The soft reset of one port -/

/-- An entry that has begun becomes an orphan, and goes on (R93). -/
theorem indifferent_orphaned (o : Origin) : Indifferent (orphaned o) := by
  intro e
  unfold orphaned
  split
  next h =>
    simp only [begunOf, Bool.and_eq_true, Bool.not_eq_true'] at h
    obtain ⟨-, begun⟩ := h
    exact ⟨by rw [isFresh, isFresh, begun]; exact congrArg (· && _) begun, rfl, rfl⟩
  · exact ⟨rfl, rfl, rfl⟩

@[simp] theorem sequencing_orphanEntries (s : State) (o : Origin) :
    sequencing (orphanEntries s o) = sequencing s := by
  rw [orphanEntries_eq, sequencing, course_map (indifferent_orphaned o),
    course_filter_of_fresh fun e he => isFresh_of_waitingOf (o := o) (by simpa using he)]
  rfl
@[simp] theorem sequencing_softReset (s : State) (p : Port) :
    sequencing (softReset s p) = sequencing s := by
  have engine (t : State) : sequencing (resetEngine t) = sequencing t := sequencing_orphanEntries t .job
  cases p <;> simp [softReset, resetShared, resetPortState, engine]

end Sys2Proof.Machine

namespace Sys2Proof.Machine

set_option Elab.async false

/-! ### The sequencer's own changes -/

/-- Without a suspend on its way, entries may leave (R75, R82). -/
theorem sequencerSound_of_sublist {t u : State} (hq : u.queue.Sublist t.queue) (hx : u.suspend = .none)
    (h : SequencerSound t) : SequencerSound u := by
  obtain ⟨hactive, hsuspended, herase, horphan, -⟩ := h
  exact ⟨(hq.countP_le).trans hactive, (hq.countP_le).trans hsuspended,
    fun e he => herase e (hq.subset he), fun e he => horphan e (hq.subset he), fun hn => absurd hx hn⟩

theorem sequencerSound_of_empty {u : State} (hq : u.queue = []) (hx : u.suspend = .none) :
    SequencerSound u := by simp [SequencerSound, hq, hx]

theorem countP_append_cons (f : Entry → Bool) (l r : List Entry) (e : Entry) :
    (l ++ e :: r).countP f = (l ++ r).countP f + if f e then 1 else 0 := by
  rw [List.countP_append, List.countP_append, List.countP_cons, Nat.add_assoc]

/-- One entry goes into another state, with no suspend on its way then. -/
theorem sequencerSound_replace {t u : State} {l r : List Entry} {e e' : Entry}
    (hq : t.queue = l ++ e :: r) (hu : u.queue = l ++ e' :: r) (hx : u.suspend = .none)
    (hactive : (l ++ r).countP isActive + (if isActive e' then 1 else 0) ≤ 1)
    (hsuspended : (l ++ r).countP isSuspended + (if isSuspended e' then 1 else 0) ≤ 1)
    (herase : isSuspended e' = true → isEraseKind e'.kind = true) (hwaiting : isWaiting e' = false)
    (h : SequencerSound t) : SequencerSound u := by
  obtain ⟨-, -, herases, horphans, -⟩ := h
  rw [hq] at herases horphans
  have old {x : Entry} (hx : x ∈ l ++ e' :: r) : x = e' ∨ x ∈ l ++ e :: r := by
    simp only [List.mem_append, List.mem_cons] at hx ⊢
    tauto
  refine ⟨?_, ?_, fun x hm => ?_, fun x hm => ?_, fun hn => absurd hx hn⟩
  · rwa [hu, countP_append_cons]
  · rwa [hu, countP_append_cons]
  · rw [hu] at hm
    obtain rfl | hm := old hm
    · exact herase
    · exact herases x hm
  · rw [hu] at hm
    obtain rfl | hm := old hm
    · exact fun _ => hwaiting
    · exact horphans x hm

/-- The first entry with a property stands between those before it, which have it not, and the rest. -/
theorem updateFirst_of_find? {has : Entry → Bool} {g : Entry → Entry} {q : List Entry} {e : Entry}
    (h : q.find? has = some e) :
    has e = true ∧ ∃ l r, q = l ++ e :: r ∧ updateFirst has g q = l ++ g e :: r := by
  refine ⟨List.find?_some h, ?_⟩
  induction q with
  | nil => cases h
  | cons d q ih =>
    rw [List.find?_cons] at h
    unfold updateFirst
    split at h
    · rename_i hd
      cases h
      exact ⟨[], q, rfl, if_pos hd⟩
    · rename_i hd
      obtain ⟨l, r, rfl, hu⟩ := ih h
      exact ⟨d :: l, r, rfl, by rw [if_neg (by simp [hd]), hu]; rfl⟩

theorem countP_eq_zero_of_find? {f : Entry → Bool} {q : List Entry} (h : q.find? f = none) :
    q.countP f = 0 := List.countP_eq_zero.mpr (List.find?_eq_none.mp h)

/-- No suspend is on its way where no entry is ACTIVE (R86, R87). -/
theorem suspend_eq_none_of_idle {t : State} (h : SequencerSound t) (ha : activeEntry t = none) :
    t.suspend = .none := by
  obtain ⟨-, -, -, -, hsuspend⟩ := h
  by_contra hn
  have one := (hsuspend hn).1
  rw [countP_eq_zero_of_find? ha] at one
  cases one

/-- A suspend that is on its way is taken (R88). -/
theorem sequencerSound_taken {t u : State} {e : Entry} (ha : activeEntry t = some e)
    (he : isEraseKind e.kind = true) (hs : t.suspend ≠ .none) (hu : u.queue = updateFirst isActive
      (fun e => { e with state := .suspended, resumePending := false }) t.queue)
    (hx : u.suspend = .none) (h : SequencerSound t) : SequencerSound u := by
  obtain ⟨hactive, l, r, hq, hq'⟩ := updateFirst_of_find?
    (g := fun e => { e with state := .suspended, resumePending := false }) ha
  obtain ⟨-, -, -, -, hsuspend⟩ := id h
  obtain ⟨one, zero⟩ := hsuspend hs
  rw [hq, countP_append_cons] at one zero
  rw [if_pos hactive] at one
  refine sequencerSound_replace hq (hu.trans hq') hx ?_ ?_ (fun _ => he) rfl h
  · rw [if_neg (by simp [isActive])]
    omega
  · split <;> omega

/-- The SUSPENDED entry goes on, with nothing ACTIVE (R91). -/
theorem sequencerSound_restarted {t u : State} {e : Entry} (ha : activeEntry t = none)
    (he : suspendedEntry t = some e) (hu : u.queue = updateFirst isSuspended
      (fun e => { e with state := .active, resumePending := false }) t.queue)
    (hx : u.suspend = t.suspend) (h : SequencerSound t) : SequencerSound u := by
  obtain ⟨hsuspended, l, r, hq, hq'⟩ := updateFirst_of_find?
    (g := fun e => { e with state := .active, resumePending := false }) he
  have zero := countP_eq_zero_of_find? ha
  obtain ⟨-, one, -⟩ := id h
  rw [hq, countP_append_cons] at zero one
  refine sequencerSound_replace hq (hu.trans hq') (hx.trans (suspend_eq_none_of_idle h ha)) ?_ ?_
    (by simp [isSuspended]) rfl h
  · split <;> omega
  · rw [if_pos hsuspended] at one
    rw [if_neg (by simp [isSuspended])]
    omega

/-- The entry that starts is eligible where it stands, no older one is where it stands, and it becomes ACTIVE
in its place (R77). -/
theorem startOldest_eq_some {susp : Option Entry} {older q q' : List Entry} {e : Entry} :
    startOldest susp older q = some (e, q') ↔ ∃ l r, q = l ++ e :: r
      ∧ q' = older ++ (l ++ { e with state := .active } :: r) ∧ eligible susp (older ++ l) e = true
      ∧ ∀ l' x r', l = l' ++ x :: r' → eligible susp (older ++ l') x = false := by
  induction q generalizing older with
  | nil => simp [startOldest]
  | cons d q ih =>
    unfold startOldest
    split
    next hd =>
      constructor
      · intro h
        cases h
        exact ⟨[], q, rfl, rfl, by simpa using hd, fun l' x r' hl => by simp at hl⟩
      · rintro ⟨l, r, hq, rfl, -, hl⟩
        cases l with
        | nil =>
          cases hq
          rfl
        | cons d' l =>
          cases hq
          have first := hl [] d l rfl
          rw [List.append_nil, hd] at first
          cases first
    next hd =>
      rw [ih]
      constructor
      · rintro ⟨l, r, rfl, rfl, he, hl⟩
        refine ⟨d :: l, r, rfl, by simp, by simpa using he, fun l' x r' h => ?_⟩
        cases l' with
        | nil =>
          cases h
          simpa using hd
        | cons d' l' =>
          cases h
          simpa using hl l' x r' rfl
      · rintro ⟨l, r, hq, rfl, he, hl⟩
        cases l with
        | nil =>
          cases hq
          rw [List.append_nil] at he
          exact absurd he hd
        | cons d' l =>
          cases hq
          exact ⟨l, r, rfl, by simp, by simpa using he,
            fun l' x r' h => by simpa using hl (d :: l') x r' (by rw [h]; rfl)⟩

/-- A WAITING entry starts, with nothing ACTIVE (R77). -/
theorem sequencerSound_started {t u : State} {e : Entry} {q : List Entry} (ha : activeEntry t = none)
    (hs : startOldest (suspendedEntry t) [] t.queue = some (e, q)) (hu : u.queue = q)
    (hx : u.suspend = t.suspend) (h : SequencerSound t) : SequencerSound u := by
  obtain ⟨l, r, hq, hq', he, -⟩ := startOldest_eq_some.mp hs
  have zero := countP_eq_zero_of_find? ha
  obtain ⟨-, one, -⟩ := id h
  rw [hq, countP_append_cons] at zero one
  refine sequencerSound_replace hq (hu.trans hq') (hx.trans (suspend_eq_none_of_idle h ha)) ?_ ?_
    (by simp [isSuspended]) rfl h
  · split <;> omega
  · rw [if_neg (by simp [isSuspended])]
    omega

@[simp] theorem sequencing_startEffect (s : State) (e : Entry) :
    sequencing (startEffect s e) = sequencing s := by
  have quantum : sequencing (if isEraseKind e.kind then startQuantum s else { s with quantum := none })
      = sequencing s := by split <;> rfl
  unfold startEffect
  dsimp only
  split
  · rw [sequencing_startCommit, quantum]
  · exact quantum

/-- The completed entry leaves, and a suspend that was on its way is dropped (R82). -/
theorem sequencerSound_removeActive {t : State} (e : Entry) (h : SequencerSound t) :
    SequencerSound (removeActive t e) := by
  refine sequencerSound_of_sublist ?_ ?_ h
  · rw [removeActive, releaseBuffer_queue]
    exact List.eraseP_sublist
  · rw [removeActive, releaseBuffer_suspend]

/-- SUSPEND is accepted with an entry ACTIVE and none SUSPENDED (R86, R87). -/
theorem sequencerSound_takeSuspend {t : State} {e : Entry} (ha : activeEntry t = some e)
    (hs : suspendedEntry t = none) (h : SequencerSound t) : SequencerSound (takeSuspend t) := by
  obtain ⟨hactive, hsuspended, herase, horphan, -⟩ := id h
  unfold takeSuspend
  split
  · exact h
  · exact h
  · have some_active : 0 < t.queue.countP isActive :=
      List.countP_pos_iff.mpr ⟨e, List.mem_of_find?_eq_some ha, List.find?_some ha⟩
    exact ⟨hactive, hsuspended, herase, horphan,
      fun _ => ⟨by dsimp only; omega, countP_eq_zero_of_find? hs⟩⟩

/-- The end of the run quantum takes a suspend on, and starts none (R87). -/
theorem sequencerSound_quantum {t : State} (h : SequencerSound t) : SequencerSound { t with
    quantum := none, suspend := if t.suspend = .pending then .taking else t.suspend } := by
  obtain ⟨hactive, hsuspended, herase, horphan, hsuspend⟩ := h
  refine ⟨hactive, hsuspended, herase, horphan, fun hn => hsuspend ?_⟩
  rintro hx
  simp [hx] at hn

end Sys2Proof.Machine

namespace Sys2Proof.Machine

set_option Elab.async false

/-! ### The rows that end transactions -/

/-- The outcome is a next state in which the sequencer's discipline holds if it held before. -/
def KeepsDiscipline (s : State) (o : Host.Outcome State Fault Refusal) : Prop :=
  ∃ u, o = finish u ∧ (SequencerSound s → SequencerSound u)

section
variable {s : State} {p : Port} {f : Frame}

theorem keepsDiscipline_refl (s : State) : KeepsDiscipline s (finish s) := ⟨s, rfl, id⟩

theorem keepsDiscipline_of_left {u : State} (h : sequencing u = sequencing s) :
    KeepsDiscipline s (finish u) := ⟨u, rfl, sequencerSound_congr h⟩

theorem keepsDiscipline_endTransaction {fits : Tx → Bool} {act : Tx → State → State}
    (h : ∀ tx t, SequencerSound t → SequencerSound (act tx t)) :
    KeepsDiscipline s (endTransaction s p fits act) := by
  obtain he | he | he | ⟨tx, -, -, he⟩ := endTransaction_cases s p fits act <;> rw [he]
  · exact keepsDiscipline_refl s
  · exact keepsDiscipline_of_left (by simp)
  · exact keepsDiscipline_of_left (by simp)
  · exact ⟨_, rfl, fun hs => h tx _ (sequencerSound_congr (by simp) hs)⟩

theorem keepsDiscipline_requestEnd {c : Command} {act : Tx → State → State}
    (h : ∀ tx t, SequencerSound t → SequencerSound (act tx t)) :
    KeepsDiscipline s (requestEnd s p c f act) := by
  refine keepsDiscipline_endTransaction fun tx t ht => ?_
  split
  · exact sequencerSound_congr (by simp) ht
  · split
    · exact sequencerSound_congr (by simp) ht
    · exact h tx t ht

/-- A request whose decision leaves the sequencer alone. -/
theorem keepsDiscipline_request {c : Command} {act : Tx → State → State}
    (h : ∀ tx t, sequencing (act tx t) = sequencing t) : KeepsDiscipline s (requestEnd s p c f act) :=
  keepsDiscipline_requestEnd fun tx t => sequencerSound_congr (h tx t)

theorem keepsDiscipline_read {c : Command} {act : Tx → List Byte → State → State}
    (h : ∀ tx bs t, sequencing (act tx bs t) = sequencing t) :
    KeepsDiscipline s (readEnd s p c f act) := by
  refine keepsDiscipline_endTransaction fun tx t => sequencerSound_congr ?_
  split
  · simp
  · split
    · exact h tx _ t
    · rfl

/-- A read whose end has no effect of its own (R10, R19). -/
theorem keepsDiscipline_quietRead {c : Command} :
    KeepsDiscipline s (readEnd s p c f fun _ _ s' => s') := keepsDiscipline_read fun _ _ _ => rfl

/-- A request whose whole effect, after some checks perhaps, is on its port. -/
theorem keepsDiscipline_portRequest {c : Command} {checks : List (Bool × RefusalCode)}
    {g : State → PortState} : KeepsDiscipline s (requestEnd s p c f fun _ s' =>
      decided s' p checks fun s' => s'.setPort p (g s')) :=
  keepsDiscipline_request fun _ _ => sequencing_decided rfl (by simp)

/-! ### The requests -/

theorem keepsDiscipline_modify {c : Command} {k : Kind} {prepare : State → State}
    (hp : ∀ t, sequencing (prepare t) = sequencing t) : KeepsDiscipline s (requestEnd s p c f fun _ s' =>
      discardLatch (armedDecision (prepare s') p fun s'' => decideModify s'' p k f) p) :=
  keepsDiscipline_request fun _ t => (sequencing_discardLatch ..).trans
    (sequencing_armedDecision (hp t) fun _ hu => (sequencing_decideModify ..).trans hu)

theorem keepsDiscipline_suspend : KeepsDiscipline s (execSuspend p f s) := by
  refine keepsDiscipline_requestEnd fun _ t ht => ?_
  have refused (code : RefusalCode) : SequencerSound (refuse t p code) :=
    sequencerSound_congr (sequencing_refuse ..) ht
  split
  · exact refused _
  · rename_i e ha
    unfold decided
    split
    · exact refused _
    · rename_i hc
      have passed := firstFailure_eq_none hc
      simp only [List.forall_mem_cons, Option.isSome_eq_false_iff, Option.isNone_iff_eq_none] at passed
      obtain ⟨-, -, hs, -⟩ := passed
      exact sequencerSound_takeSuspend ha hs ht

theorem keepsDiscipline_resume : KeepsDiscipline s (execResume p f s) := by
  refine keepsDiscipline_request fun _ t => ?_
  split
  · simp
  · exact sequencing_decided rfl (by simp)

theorem keepsDiscipline_resetPort : KeepsDiscipline s (execResetPort p f s) := by
  refine keepsDiscipline_request fun _ t => ?_
  split <;> simp

theorem keepsDiscipline_dormant (w : List Byte) : KeepsDiscipline s (execDormant p f w s) :=
  keepsDiscipline_request fun _ _ => sequencing_decided rfl rfl

theorem keepsDiscipline_wake : KeepsDiscipline s (execWake p f s) := by
  unfold execWake wakeEnd
  dsimp only
  repeat' split
  all_goals exact keepsDiscipline_of_left (by simp)

theorem keepsDiscipline_mailboxRelease : KeepsDiscipline s (execMailboxRelease p f s) :=
  keepsDiscipline_request fun _ _ => sequencing_withHeldSlot rfl fun _ => by simp

theorem keepsDiscipline_mailboxRedirect : KeepsDiscipline s (execMailboxRedirect p f s) := by
  refine keepsDiscipline_request fun _ t => sequencing_withHeldSlot rfl fun i => ?_
  dsimp only
  repeat' split
  all_goals simp

theorem keepsDiscipline_mailboxDeny : KeepsDiscipline s (execMailboxDeny p f s) :=
  keepsDiscipline_request fun _ _ => sequencing_withHeldSlot rfl fun _ => by simp

theorem keepsDiscipline_mailboxDataWrite : KeepsDiscipline s (execMailboxDataWrite p f s) :=
  keepsDiscipline_request fun _ t => (sequencing_discardLatch ..).trans
    (sequencing_withHeldSlot (by simp) fun _ => sequencing_decided (by simp) (by simp))

theorem keepsDiscipline_heartbeat : KeepsDiscipline s (execHeartbeat p f s) := by
  refine keepsDiscipline_request fun _ t => ?_
  split <;> simp

theorem keepsDiscipline_tableWriteEntry : KeepsDiscipline s (execTableWriteEntry p f s) := by
  refine keepsDiscipline_request fun _ t => sequencing_decided rfl ?_
  split
  · rfl
  · simp

theorem keepsDiscipline_tableClearEntry : KeepsDiscipline s (execTableClearEntry p f s) := by
  refine keepsDiscipline_request fun _ t => sequencing_decided rfl ?_
  split
  · rfl
  · simp

theorem keepsDiscipline_stageFromActive : KeepsDiscipline s (execStageFromActive p f s) :=
  keepsDiscipline_request fun _ _ => sequencing_decided rfl rfl

theorem keepsDiscipline_settingsWriteStaged : KeepsDiscipline s (execSettingsWriteStaged p f s) :=
  keepsDiscipline_request fun _ _ => sequencing_decided rfl rfl

theorem keepsDiscipline_settingsWriteLive : KeepsDiscipline s (execSettingsWriteLive p f s) :=
  keepsDiscipline_request fun _ _ => sequencing_decided rfl (by simp)

theorem keepsDiscipline_swapViews : KeepsDiscipline s (execSwapViews p f s) := by
  refine keepsDiscipline_request fun _ t => sequencing_decided rfl ?_
  split
  · split
    · rfl
    · simp
  · simp

theorem keepsDiscipline_lockSession : KeepsDiscipline s (execLockSession p f s) := by
  refine keepsDiscipline_request fun _ t => ?_
  split
  · rfl
  · exact sequencing_logEvent ..

theorem keepsDiscipline_commit : KeepsDiscipline s (execCommit p f s) :=
  keepsDiscipline_request fun _ _ => sequencing_armedDecision rfl fun _ hu =>
    sequencing_decided hu (sequencing_decided hu ((sequencing_acceptEntry ..).trans hu))

theorem keepsDiscipline_guardFuse : KeepsDiscipline s (execGuardFuse p f s) :=
  keepsDiscipline_request fun _ _ => sequencing_armedDecision rfl fun _ hu =>
    sequencing_decided hu ((sequencing_acceptEntry ..).trans hu)

theorem keepsDiscipline_sealLock : KeepsDiscipline s (execSealLock p f s) :=
  keepsDiscipline_request fun _ _ => sequencing_armedDecision rfl fun _ hu =>
    sequencing_decided hu ((sequencing_acceptEntry ..).trans hu)

theorem keepsDiscipline_sealProgram : KeepsDiscipline s (execSealProgram p f s) :=
  keepsDiscipline_request fun _ _ => (sequencing_discardLatch ..).trans
    (sequencing_armedDecision (sequencing_receiveData ..) fun _ hu =>
      sequencing_decided hu (by rw [sequencing_acceptEntry, sequencing_takeFree, hu]))

theorem keepsDiscipline_jobLoad : KeepsDiscipline s (execJobLoad p f s) := by
  refine keepsDiscipline_request fun _ t => ?_
  split
  · simp
  · split
    · simp
    · exact sequencing_decided rfl rfl

theorem keepsDiscipline_jobStart : KeepsDiscipline s (execJobStart p f s) := by
  refine keepsDiscipline_request fun _ t => ?_
  split
  case h_3 =>
    split
    · rfl
    · simp
  all_goals simp

theorem keepsDiscipline_jobPause : KeepsDiscipline s (execJobPause p f s) := by
  refine keepsDiscipline_request fun _ t => ?_
  split
  · exact sequencing_drainCheck _
  · simp

theorem keepsDiscipline_jobAbort : KeepsDiscipline s (execJobAbort p f s) := by
  refine keepsDiscipline_request fun _ t => ?_
  split
  case h_1 | h_2 | h_3 | h_4 =>
    rw [sequencing_drainCheck, sequencing_fillFromMailbox, sequencing_removeEntries]
    rfl
  all_goals simp

theorem keepsDiscipline_jobClear : KeepsDiscipline s (execJobClear p f s) := by
  refine keepsDiscipline_request fun _ t => ?_
  split
  case h_1 | h_2 => rfl
  all_goals simp

/-! ### The reads -/

theorem keepsDiscipline_readPortStatus : KeepsDiscipline s (execReadPortStatus p f s) := by
  refine keepsDiscipline_read fun _ _ t => ?_
  split
  · exact sequencing_setPort ..
  · rfl

theorem keepsDiscipline_eventRead : KeepsDiscipline s (execEventRead p f s) := by
  refine keepsDiscipline_read fun _ _ t => ?_
  split <;> rfl

theorem keepsDiscipline_streamRead : KeepsDiscipline s (execStreamRead p f s) :=
  keepsDiscipline_read fun _ _ _ => sequencing_setPort ..

theorem keepsDiscipline_continuationTransaction :
    KeepsDiscipline s (execContinuationTransaction p f s) := by
  refine keepsDiscipline_endTransaction fun _ t => sequencerSound_congr ?_
  split
  · simp
  · split
    · exact sequencing_setPort ..
    · rfl

theorem keepsDiscipline_unknownCommand (code : Byte) :
    KeepsDiscipline s (execUnknownCommand p code f s) := by
  unfold execUnknownCommand
  exact keepsDiscipline_endTransaction fun _ _ => sequencerSound_congr (sequencing_refuse ..)

theorem keepsDiscipline_dataByteFetch (w : List Byte) :
    KeepsDiscipline s (execDataByteFetch p w s) := by
  unfold execDataByteFetch
  dsimp only
  repeat' split
  all_goals exact keepsDiscipline_of_left (by simp)

theorem keepsDiscipline_completionPop : KeepsDiscipline s (execCompletionPop p s) := by
  unfold execCompletionPop
  split <;> exact keepsDiscipline_of_left (by simp)

theorem keepsDiscipline_eventPop : KeepsDiscipline s (execEventPop s) := by
  unfold execEventPop
  split <;> exact keepsDiscipline_of_left (by simp)

theorem keepsDiscipline_ignoredTransactionEnd :
    KeepsDiscipline s (execIgnoredTransactionEnd p s) := by
  unfold execIgnoredTransactionEnd
  repeat' split
  all_goals exact keepsDiscipline_of_left (by simp)

/-! ### The events inside the device -/

theorem keepsDiscipline_entryStart : KeepsDiscipline s (execEntryStart s) := by
  unfold execEntryStart
  split
  · rename_i h
    obtain ⟨-, ha, -⟩ := h
    split
    · rename_i e q hq
      refine ⟨_, rfl, fun hs => sequencerSound_congr (sequencing_startEffect ..) ?_⟩
      exact sequencerSound_started (Option.isNone_iff_eq_none.mp ha) hq rfl rfl hs
    · exact keepsDiscipline_refl s
  · exact keepsDiscipline_refl s

theorem keepsDiscipline_entryRestart : KeepsDiscipline s (execEntryRestart s) := by
  unfold execEntryRestart
  split
  · rename_i h
    obtain ⟨-, ha⟩ := h
    split
    · rename_i e he
      split
      · exact ⟨_, rfl, sequencerSound_restarted (Option.isNone_iff_eq_none.mp ha) he rfl rfl⟩
      · exact keepsDiscipline_refl s
    · exact keepsDiscipline_refl s
  · exact keepsDiscipline_refl s

theorem keepsDiscipline_operationCompletion (stuck : StuckBits) :
    KeepsDiscipline s (execOperationCompletion stuck s) := by
  unfold execOperationCompletion
  split
  · split
    · exact keepsDiscipline_refl s
    · rename_i e _
      refine ⟨_, rfl, fun hs => ?_⟩
      have removed : SequencerSound (removeActive (operationResult s e stuck).1 e) :=
        sequencerSound_removeActive e (sequencerSound_congr (by simp) hs)
      exact sequencerSound_congr (by simp) removed
  · exact keepsDiscipline_refl s

theorem keepsDiscipline_suspendTaken : KeepsDiscipline s (execSuspendTaken s) := by
  unfold execSuspendTaken
  split
  · rename_i h
    obtain ⟨-, ht, ha⟩ := h
    obtain ⟨e, he, hk⟩ := (Option.any_eq_true _ _).mp ha
    exact ⟨_, rfl, sequencerSound_taken he hk (by simp [ht]) rfl rfl⟩
  · exact keepsDiscipline_refl s

theorem keepsDiscipline_runQuantumExpiry : KeepsDiscipline s (execRunQuantumExpiry s) := by
  unfold execRunQuantumExpiry
  split
  · exact ⟨_, rfl, sequencerSound_quantum⟩
  · exact keepsDiscipline_refl s

theorem keepsDiscipline_holdDeadlineExpiry : KeepsDiscipline s (execHoldDeadlineExpiry s) := by
  unfold execHoldDeadlineExpiry
  repeat' split
  all_goals exact keepsDiscipline_of_left (by simp)

theorem keepsDiscipline_releasingSlotEntry : KeepsDiscipline s (execReleasingSlotEntry s) := by
  unfold execReleasingSlotEntry
  split <;> exact keepsDiscipline_of_left (by simp)

theorem keepsDiscipline_trapDeadlineExpiry (i : SlotId) :
    KeepsDiscipline s (execTrapDeadlineExpiry i s) := by
  unfold execTrapDeadlineExpiry
  split <;> exact keepsDiscipline_of_left (by simp)

theorem keepsDiscipline_watchdogWarningPoint : KeepsDiscipline s (execWatchdogWarningPoint s) := by
  unfold execWatchdogWarningPoint
  split <;> exact keepsDiscipline_of_left rfl

theorem keepsDiscipline_watchdogLapse : KeepsDiscipline s (execWatchdogLapse s) := by
  unfold execWatchdogLapse
  split <;> exact keepsDiscipline_of_left (by simp)

theorem keepsDiscipline_jobStepIssue : KeepsDiscipline s (execJobStepIssue s) := by
  unfold execJobStepIssue
  repeat' split
  all_goals exact keepsDiscipline_of_left (by simp)

theorem keepsDiscipline_chunkRead : KeepsDiscipline s (execChunkRead s) := by
  unfold execChunkRead
  repeat' split
  all_goals exact keepsDiscipline_of_left (by simp)

theorem keepsDiscipline_tick : KeepsDiscipline s (execTick s) := by
  unfold execTick
  split <;> exact keepsDiscipline_of_left rfl

/-! ### The supply and RESET_N -/

/-- The power-on step leaves an empty queue (R161). -/
theorem sequencerSound_powerOnStep (t : State) : SequencerSound (powerOnStep t) := by
  obtain ⟨started, h⟩ := powerOnStep_eq t
  rw [h]
  exact sequencerSound_of_empty rfl rfl

theorem keepsDiscipline_powerOn (left : Leftover) : KeepsDiscipline s (execPowerOn left s) := by
  unfold execPowerOn
  dsimp only
  split
  · exact ⟨_, rfl, fun _ => sequencerSound_powerOnStep _⟩
  · exact ⟨_, rfl, fun _ => sequencerSound_of_empty rfl rfl⟩

theorem keepsDiscipline_powerLoss (left : Leftover) : KeepsDiscipline s (execPowerLoss left s) := by
  unfold execPowerLoss
  split
  · exact keepsDiscipline_refl s
  all_goals exact ⟨_, rfl, fun _ => sequencerSound_of_empty rfl rfl⟩

/-- The fall of RESET_N leaves the entries that have not begun (R162). -/
theorem sequencerSound_enterReset (left : Leftover) (h : SequencerSound s) :
    SequencerSound (enterReset s left) := by
  have aborted : SequencerSound (abortOperations s left) := sequencerSound_congr (by simp) h
  refine sequencerSound_of_sublist (t := abortOperations s left) ?_ rfl aborted
  rw [enterReset, removeEntries_eq]
  exact List.filter_sublist

theorem keepsDiscipline_resetNAssert (left : Leftover) :
    KeepsDiscipline s (execResetNAssert left s) := by
  unfold execResetNAssert
  split
  case h_1 | h_2 => exact ⟨_, rfl, sequencerSound_enterReset left⟩
  all_goals exact keepsDiscipline_of_left rfl

theorem sequencing_foldl_logAborted (rs : List Aborted) (t : State) :
    sequencing (rs.foldl logAborted t) = sequencing t := by
  induction rs generalizing t with
  | nil => rfl
  | cons r rs ih => exact (ih _).trans (sequencing_logEvent ..)

theorem keepsDiscipline_resetNRelease : KeepsDiscipline s (execResetNRelease s) := by
  unfold execResetNRelease
  split
  · exact ⟨_, rfl, fun _ =>
      sequencerSound_congr (sequencing_foldl_logAborted ..) (sequencerSound_powerOnStep _)⟩
  · exact ⟨_, rfl, fun _ => sequencerSound_powerOnStep _⟩
  all_goals exact keepsDiscipline_of_left rfl

end

/-! ### Every command -/

theorem exec_keepsDiscipline (i : Instr) (s : State) : KeepsDiscipline s (exec i s) := by
  cases i
  case dataByteFetch p w => exact keepsDiscipline_dataByteFetch w
  case armWrite | disarmWrite | setIrqMask | resetArm => 
    exact keepsDiscipline_request fun _ _ => sequencing_setPort ..
  case setLanes | setWait | setWrap => exact keepsDiscipline_portRequest
  case pageProgram p f =>
    exact keepsDiscipline_modify
      (prepare := fun t => receiveData t p (byteAt f.bytes 3).toNat (f.bytes.drop 4))
      fun t => sequencing_receiveData ..
  case sectorErase | blockErase => exact keepsDiscipline_modify (prepare := id) fun _ => rfl
  case suspend => exact keepsDiscipline_suspend
  case resume => exact keepsDiscipline_resume
  case cancel => exact keepsDiscipline_request fun _ _ => sequencing_decideCancel ..
  case resetPort => exact keepsDiscipline_resetPort
  case dormant => exact keepsDiscipline_dormant _
  case wake => exact keepsDiscipline_wake
  case tableWriteEntry => exact keepsDiscipline_tableWriteEntry
  case tableClearEntry => exact keepsDiscipline_tableClearEntry
  case stageFromActive => exact keepsDiscipline_stageFromActive
  case commit => exact keepsDiscipline_commit
  case swapViews => exact keepsDiscipline_swapViews
  case settingsWriteStaged => exact keepsDiscipline_settingsWriteStaged
  case settingsWriteLive => exact keepsDiscipline_settingsWriteLive
  case lockSession => exact keepsDiscipline_lockSession
  case mailboxRelease => exact keepsDiscipline_mailboxRelease
  case mailboxRedirect => exact keepsDiscipline_mailboxRedirect
  case mailboxDeny => exact keepsDiscipline_mailboxDeny
  case mailboxDataWrite => exact keepsDiscipline_mailboxDataWrite
  case releasingSlotEntry => exact keepsDiscipline_releasingSlotEntry
  case heartbeat => exact keepsDiscipline_heartbeat
  case jobLoad => exact keepsDiscipline_jobLoad
  case jobStart => exact keepsDiscipline_jobStart
  case jobPause => exact keepsDiscipline_jobPause
  case jobAbort => exact keepsDiscipline_jobAbort
  case jobClear => exact keepsDiscipline_jobClear
  case sealProgram => exact keepsDiscipline_sealProgram
  case sealLock => exact keepsDiscipline_sealLock
  case guardFuse => exact keepsDiscipline_guardFuse
  case streamRead => exact keepsDiscipline_streamRead
  case continuationTransaction => exact keepsDiscipline_continuationTransaction
  case readPortStatus => exact keepsDiscipline_readPortStatus
  case unknownCommand p code f => exact keepsDiscipline_unknownCommand (f := f) code
  case completionPop => exact keepsDiscipline_completionPop
  case eventRead => exact keepsDiscipline_eventRead
  case eventPop => exact keepsDiscipline_eventPop
  case entryStart => exact keepsDiscipline_entryStart
  case entryRestart => exact keepsDiscipline_entryRestart
  case operationCompletion stuck => exact keepsDiscipline_operationCompletion stuck
  case suspendTaken => exact keepsDiscipline_suspendTaken
  case runQuantumExpiry => exact keepsDiscipline_runQuantumExpiry
  case holdDeadlineExpiry => exact keepsDiscipline_holdDeadlineExpiry
  case trapDeadlineExpiry slot => exact keepsDiscipline_trapDeadlineExpiry slot
  case watchdogWarningPoint => exact keepsDiscipline_watchdogWarningPoint
  case watchdogLapse => exact keepsDiscipline_watchdogLapse
  case jobStepIssue => exact keepsDiscipline_jobStepIssue
  case chunkRead => exact keepsDiscipline_chunkRead
  case powerOn left => exact keepsDiscipline_powerOn left
  case powerLoss left => exact keepsDiscipline_powerLoss left
  case resetNAssert left => exact keepsDiscipline_resetNAssert left
  case resetNRelease => exact keepsDiscipline_resetNRelease
  case transactionBegin => exact keepsDiscipline_of_left (sequencing_beginTransaction ..)
  case ignoredTransactionEnd => exact keepsDiscipline_ignoredTransactionEnd
  case tick => exact keepsDiscipline_tick
  case guardNChange => exact keepsDiscipline_of_left rfl
  all_goals exact keepsDiscipline_quietRead

/-- Settles O8: most commands leave what the discipline speaks of, and those of the sequencer change one entry,
or the suspend state, as it allows. -/
theorem sequencerStaysSound : Obligations.SequencerStaysSound := by
  unfold Obligations.SequencerStaysSound
  intro s t hs h
  cases hp : s.pending with
  | nil =>
    rw [step_of_idle hp] at h
    cases h
    obtain ⟨waiting, coming, n, hn⟩ := nextInstant_eq s
    rw [hn]
    exact hs
  | cons c rest =>
    rw [step_of_pending hp] at h
    obtain ⟨u, hu, hk⟩ := exec_keepsDiscipline c { s with pending := rest }
    rw [hu] at h
    cases h
    exact hk hs

end Sys2Proof.Machine

namespace Sys2Proof.Machine

set_option Elab.async false

/-! ## Eligibility (R74, R76) -/

theorem isBarrierKind_iff {k : Kind} : isBarrierKind k = true ↔ k = .commit ∨ k = .guardFuse := by
  simp [isBarrierKind]

theorem targetsOverlap_iff (t u : Target) : targetsOverlap t u = true ↔
    (∃ b l b' l' n, t = .array b l ∧ u = .array b' l' ∧ b ≤ n ∧ n < b + l ∧ b' ≤ n ∧ n < b' + l')
      ∨ ∃ page half half', t = .sealPage page half ∧ u = .sealPage page half' := by
  cases t with
  | nothing => simp [targetsOverlap]
  | array b l =>
    cases u with
    | array b' l' =>
      simp only [targetsOverlap, rangesMeet_iff, Target.array.injEq, reduceCtorEq, false_and, exists_false,
        or_false, exists_and_left, existsAndEq, and_true, true_and]
      exact exists_congr fun n => by tauto
    | nothing | sealPage => simp [targetsOverlap]
  | sealPage page half =>
    cases u with
    | sealPage page' half' => simpa [targetsOverlap] using eq_comm
    | nothing | array => simp [targetsOverlap]

/-- The conditions of R76, one by one. -/
theorem eligible_iff (susp : Option Entry) (older : List Entry) (e : Entry) :
    eligible susp older e = true ↔ e.state = .waiting
      ∧ (∀ o ∈ older, (o.kind = .commit ∨ o.kind = .guardFuse) → o.state ≠ .waiting)
      ∧ (∀ o, susp = some o → targetsOverlap e.target o.target = false)
      ∧ (∀ o ∈ older, targetsOverlap e.target o.target = false)
      ∧ ((e.kind = .commit ∨ e.kind = .guardFuse) → older = [] ∧ susp = none) := by
  have barriers : (older.any fun o => isBarrierKind o.kind && isWaiting o) = false
      ↔ ∀ o ∈ older, (o.kind = .commit ∨ o.kind = .guardFuse) → o.state ≠ .waiting := by
    simp [List.any_eq_false, isBarrierKind_iff, isWaiting]
  have suspended : (susp.any fun o => targetsOverlap e.target o.target) = false
      ↔ ∀ o, susp = some o → targetsOverlap e.target o.target = false := by cases susp <;> simp
  have overlaps : (older.any fun o => targetsOverlap e.target o.target) = false
      ↔ ∀ o ∈ older, targetsOverlap e.target o.target = false := by simp [List.any_eq_false]
  have alone : (!isBarrierKind e.kind || (older.isEmpty && susp.isNone)) = true
      ↔ ((e.kind = .commit ∨ e.kind = .guardFuse) → older = [] ∧ susp = none) := by
    rw [← isBarrierKind_iff]
    cases isBarrierKind e.kind <;> simp
  have waiting : isWaiting e = true ↔ e.state = .waiting := beq_iff_eq
  simp only [eligible, Bool.and_eq_true, Bool.not_eq_true', waiting, barriers, suspended, overlaps, alone,
    and_assoc]

/-- Settles O47. -/
theorem eligibilityConditions : Obligations.EligibilityConditions := by
  unfold Obligations.EligibilityConditions
  exact ⟨eligible_iff, targetsOverlap_iff⟩

end Sys2Proof.Machine

namespace Sys2Proof.Machine

set_option Elab.async false

/-! ## CANCEL, SUSPEND and RESUME (R84 to R89, R105) -/

section
variable (s : State) (p : Port)

@[simp] theorem ended_queue : (ended s p).queue = s.queue := by
  obtain ⟨ps, h⟩ := ended_eq s p
  rw [h, State.setPort_queue]
@[simp] theorem ended_slot (i : SlotId) : (ended s p).slot i = s.slot i := by
  obtain ⟨ps, h⟩ := ended_eq s p
  rw [h, slot_setPort]
@[simp] theorem slotNamed_ended (q : Port) (t : Byte) : slotNamed (ended s p) q t = slotNamed s q t := by
  obtain ⟨ps, h⟩ := ended_eq s p
  rw [h, slotNamed_setPort]
@[simp] theorem activeEntry_ended : activeEntry (ended s p) = activeEntry s := by
  rw [activeEntry, ended_queue, activeEntry]
@[simp] theorem suspendedEntry_ended : suspendedEntry (ended s p) = suspendedEntry s := by
  rw [suspendedEntry, ended_queue, suspendedEntry]

end

/-! ### What a tag names -/

theorem namedBy_iff {p : Port} {t : Byte} {e : Entry} :
    namedBy p t e = true ↔ e.origin = portOrigin p ∧ e.orphan = false ∧ e.tag = t := by
  simp [namedBy, ownedLive, and_assoc]

theorem mayCommand_iff {p : Port} {e : Entry} :
    mayCommand p e = true ↔ p = .m ∨ e.origin = .a ∧ e.orphan = false := by
  simp [mayCommand, ownedLive]

/-- The slot is not EMPTY and its request has the tag (R84). -/
def SlotHolds (s : State) (t : Byte) (slot : SlotId) : Prop :=
  (s.slot slot).state ≠ .empty ∧ (s.slot slot).tag = t

theorem slotHolds_iff {s : State} {t : Byte} {slot : SlotId} :
    (slotFilled (s.slot slot) && (s.slot slot).tag == t) = true ↔ SlotHolds s t slot := by
  simp [SlotHolds, slotFilled]

theorem slotNamed_some {s : State} {p : Port} {t : Byte} {slot : SlotId}
    (h : slotNamed s p t = some slot) : p = .a ∧ SlotHolds s t slot := by
  unfold slotNamed at h
  split at h
  · refine ⟨‹_›, ?_⟩
    split at h
    next h0 =>
      cases h
      exact slotHolds_iff.mp h0
    next =>
      split at h
      next h1 =>
        cases h
        exact slotHolds_iff.mp h1
      next => cases h
  · cases h

/-- Port M has no slot, and Port A's tag names one that holds it. -/
theorem slotNamed_none {s : State} {p : Port} {t : Byte} :
    slotNamed s p t = none ↔ p = .m ∨ ∀ slot, ¬ SlotHolds s t slot := by
  have both : (∀ slot, ¬ SlotHolds s t slot) ↔ ¬ SlotHolds s t .s0 ∧ ¬ SlotHolds s t .s1 :=
    ⟨fun h => ⟨h .s0, h .s1⟩, fun h slot => by cases slot <;> simp [h]⟩
  cases p with
  | m => simp [slotNamed]
  | a =>
    rw [both, ← slotHolds_iff, ← slotHolds_iff]
    simp only [slotNamed, State.slot, reduceCtorEq, false_or, if_true]
    split
    · simp_all
    · split <;> simp_all

/-! ### CANCEL -/

section
variable {s : State} {p : Port} {f : Frame} {t : Byte}

theorem exec_cancel (h : Arrives s p .cancel f) :
    exec (.cancel p f) s = finish (decideCancel (ended s p) p (byteAt f.bytes 0)) := by
  simp only [exec, execCancel]
  exact requestEnd_of_arrives h _

theorem decideCancel_of_unheld
    (h : t = 0 ∨ (slotNamed s p t = none ∧ s.queue.find? (namedBy p t) = none)) :
    decideCancel s p t = refuse s p .notFound := by
  unfold decideCancel
  split
  · rfl
  · obtain ⟨hs, hq⟩ := h.resolve_left ‹_›
    rw [hs, hq]

theorem decideCancel_of_slot {slot : SlotId} (h0 : t ≠ 0) (hs : slotNamed s p t = some slot) :
    decideCancel s p t = cancelSlot s slot := by rw [decideCancel, if_neg h0, hs]

theorem decideCancel_of_entry {e : Entry} (h0 : t ≠ 0) (hs : slotNamed s p t = none)
    (hq : s.queue.find? (namedBy p t) = some e) :
    decideCancel s p t = if e.state = .waiting then cancelEntry s p e else refuse s p .entryState := by
  rw [decideCancel, if_neg h0, hs, hq]
  simp [isWaiting]

/-! ### SUSPEND and RESUME -/

/-- The effect of an accepted SUSPEND in one update (R87). -/
theorem takeSuspend_eq (s : State) : takeSuspend s = { s with
    suspend := if s.suspend ≠ .none then s.suspend
      else if s.quantum.isSome then .pending else .taking } := by
  by_cases hs : s.suspend = .none
  · simp [takeSuspend, hs]
  · rw [if_pos hs]
    unfold takeSuspend
    split
    · rfl
    · rfl
    · exact absurd ‹_› hs

theorem takeSuspend_ended (s : State) (p : Port) : takeSuspend (ended s p) = { ended s p with
    suspend := if s.suspend ≠ .none then s.suspend
      else if s.quantum.isSome then .pending else .taking } := by
  obtain ⟨ps, h⟩ := ended_eq s p
  rw [takeSuspend_eq, h]
  simp only [State.setPort_suspend, State.setPort_quantum]

theorem exec_suspend_of_idle (h : Arrives s p .suspend f) (ha : activeEntry s = none) :
    exec (.suspend p f) s = finish (refuse (ended s p) p .suspendRefused) := by
  simp only [exec, execSuspend]
  rw [requestEnd_of_arrives h, activeEntry_ended, ha]

theorem exec_suspend_of_active (h : Arrives s p .suspend f) {e : Entry} (ha : activeEntry s = some e) :
    exec (.suspend p f) s = finish (decided (ended s p) p
      [(!isEraseKind e.kind, .suspendRefused), (!mayCommand p e, .notOwner),
        ((suspendedEntry s).isSome, .suspendRefused)] takeSuspend) := by
  simp only [exec, execSuspend]
  rw [requestEnd_of_arrives h, activeEntry_ended, ha, suspendedEntry_ended]

theorem exec_resume_of_none (h : Arrives s p .resume f) (hs : suspendedEntry s = none) :
    exec (.resume p f) s = finish (refuse (ended s p) p .resumeRefused) := by
  simp only [exec, execResume]
  rw [requestEnd_of_arrives h, suspendedEntry_ended, hs]

theorem exec_resume_of_some (h : Arrives s p .resume f) {e : Entry} (hs : suspendedEntry s = some e) :
    exec (.resume p f) s
      = finish (decided (ended s p) p [(!mayCommand p e, .notOwner)] setResumePending) := by
  simp only [exec, execResume]
  rw [requestEnd_of_arrives h, suspendedEntry_ended, hs]

end

/-- Settles O32: each request by the checks of its table, in their order. -/
theorem cancelSuspendResume : Obligations.CancelSuspendResume := by
  unfold Obligations.CancelSuspendResume
  refine ⟨fun s p f ha => ⟨fun h => ?_, fun e h0 hs hq => ⟨fun hw => ?_, fun hw => ?_⟩,
      fun slot h0 hs hp => ?_⟩,
    fun s p f => ⟨fun ha => ⟨fun e he hk hm hs => ?_, fun hn => ?_, fun e he hk hm => ?_,
      fun e he hk hm hs => ?_⟩, fun ha => ⟨fun e he hm => ?_, fun e he hm => ?_, fun hs => ?_⟩⟩,
    fun p t e => ⟨namedBy_iff, mayCommand_iff⟩,
    fun s p t => ⟨slotNamed_none, fun slot => slotNamed_some⟩⟩
  · rw [exec_cancel ha, decideCancel_of_unheld (by simpa using h)]
    rfl
  · rw [exec_cancel ha, decideCancel_of_entry h0 (by simpa using hs) (by simpa using hq), if_neg hw]
    rfl
  · rw [exec_cancel ha, decideCancel_of_entry h0 (by simpa using hs) (by simpa using hq), if_pos hw,
      cancelEntry, tag_of_find? hq, cancelledEntry, tag_of_find? hq, ended_queue]
    rfl
  · subst hp
    rw [exec_cancel ha, decideCancel_of_slot h0 (by simpa using hs), cancelSlot, emptySlotAt, ended_slot]
    rfl
  · rw [exec_suspend_of_active ha he, decided_pass (by simp [hk]), decided_pass (by simp [hm]),
      decided_pass (by simp [hs]), decided_nil, takeSuspend_ended]
    rfl
  · cases he : activeEntry s with
    | none =>
      rw [exec_suspend_of_idle ha he]
      rfl
    | some e =>
      rw [exec_suspend_of_active ha he, decided_fail (by simp [hn e he])]
      rfl
  · rw [exec_suspend_of_active ha he, decided_pass (by simp [hk]), decided_fail (by simp [hm])]
    rfl
  · rw [exec_suspend_of_active ha he, decided_pass (by simp [hk]), decided_pass (by simp [hm]),
      decided_fail (Option.isSome_iff_ne_none.mpr hs)]
    rfl
  · rw [exec_resume_of_some ha he, decided_pass (by simp [hm]), decided_nil, setResumePending, ended_queue]
    rfl
  · rw [exec_resume_of_some ha he, decided_fail (by simp [hm])]
    rfl
  · rw [exec_resume_of_none ha hs]
    rfl

end Sys2Proof.Machine

namespace Sys2Proof.Machine

set_option Elab.async false

/-! ## The start of an entry (R76 to R78, R91, R141) -/

theorem isEraseKind_iff {k : Kind} : isEraseKind k = true ↔ k = .sectorErase ∨ k = .blockErase := by
  simp [isEraseKind]

/-! ### COMMIT: unchanged, or the slot it writes (R141) -/

theorem commitUnchanged_iff (s : State) : commitUnchanged s = true ↔ ∃ slot, s.selected = some slot
    ∧ ((s.store slot).drop 4).take 205 = imageToBytes s.stagingImage := by
  unfold commitUnchanged
  split
  next slot h => simp [h, slotImageBytes, Config.imageBytes]
  next h => simp [h]

theorem commitTarget_of_class0 {s : State} (h : s.class0 ≠ .valid) : commitTarget s = .s0 := by
  simp [commitTarget, h]

theorem commitTarget_of_class1 {s : State} (h0 : s.class0 = .valid) (h1 : s.class1 ≠ .valid) :
    commitTarget s = .s1 := by simp [commitTarget, h0, h1]

section
variable {s : State} (h0 : s.class0 = .valid) (h1 : s.class1 = .valid)
include h0 h1

theorem commitTarget_of_lower0 (h : slotGeneration s.store0 < slotGeneration s.store1) :
    commitTarget s = .s0 := by simp [commitTarget, h0, h1, h]

theorem commitTarget_of_lower1 (h : slotGeneration s.store1 < slotGeneration s.store0) :
    commitTarget s = .s1 := by simp [commitTarget, h0, h1, h, BitVec.lt_asymm h]

theorem commitTarget_of_equal (h : slotGeneration s.store0 = slotGeneration s.store1) :
    commitTarget s = otherSlot (s.selected.getD .s1) := by simp [commitTarget, h0, h1, h]

end

theorem otherSlot_ne (slot : SlotId) : otherSlot slot ≠ slot := by cases slot <;> simp [otherSlot]

/-- The newest slot stays: a COMMIT writes the other one. -/
theorem commitTarget_of_selected {s : State} {slot other : SlotId} (hs : s.selected = some slot)
    (ho : other ≠ slot) (hv : s.storeClass slot = .valid)
    (hg : s.storeClass other = .valid → slotGeneration (s.store other) ≤ slotGeneration (s.store slot)) :
    commitTarget s = other := by
  cases slot with
  | s0 =>
    cases other with
    | s0 => exact absurd rfl ho
    | s1 =>
      by_cases h1 : s.class1 = .valid
      · by_cases heq : slotGeneration s.store1 = slotGeneration s.store0
        · rw [commitTarget_of_equal hv h1 heq.symm, hs]
          rfl
        · exact commitTarget_of_lower1 hv h1 (BitVec.lt_of_le_ne (hg h1) heq)
      · exact commitTarget_of_class1 hv h1
  | s1 =>
    cases other with
    | s0 =>
      by_cases h0 : s.class0 = .valid
      · by_cases heq : slotGeneration s.store0 = slotGeneration s.store1
        · rw [commitTarget_of_equal h0 hv heq, hs]
          rfl
        · exact commitTarget_of_lower0 h0 hv (BitVec.lt_of_le_ne (hg h0) heq)
      · exact commitTarget_of_class0 h0
    | s1 => exact absurd rfl ho

/-! ### What a start does -/

theorem startEffect_of_ne_commit (s : State) {e : Entry} (h : e.kind ≠ .commit) :
    startEffect s e = { s with
      quantum := if e.kind = .sectorErase ∨ e.kind = .blockErase then some 1 else none
      started := if e.kind = .sectorErase ∨ e.kind = .blockErase then
        { s.started with quantum := true } else s.started } := by
  simp only [startEffect, if_neg h, isEraseKind_iff]
  split <;> rfl

theorem startEffect_of_commit (s : State) {e : Entry} (h : e.kind = .commit) :
    startEffect s e = startCommit { s with quantum := none } := by
  simp [startEffect, h, isEraseKind]

theorem exec_entryStart_of_due {s : State} {o : Entry} (ho : suspendedEntry s = some o)
    (hr : o.resumePending = true) : exec .entryStart s = finish s := by
  rw [exec, execEntryStart, if_neg (by simp [ho, hr])]

section
variable {s : State} (hp : s.power = .active) (ha : activeEntry s = none)
include hp ha

theorem exec_entryStart {older rest : List Entry} {e : Entry} (hq : s.queue = older ++ e :: rest)
    (hs : ∀ o, suspendedEntry s = some o → o.resumePending = false)
    (he : eligible (suspendedEntry s) older e = true)
    (hl : ∀ l x r, older = l ++ x :: r → eligible (suspendedEntry s) l x = false) :
    exec .entryStart s
      = finish (startEffect { s with queue := older ++ { e with state := .active } :: rest } e) := by
  have oldest : startOldest (suspendedEntry s) [] s.queue
      = some (e, older ++ { e with state := .active } :: rest) :=
    startOldest_eq_some.mpr ⟨older, rest, hq, rfl, he, hl⟩
  have notDue : (!(suspendedEntry s).any (·.resumePending)) = true := by
    cases h : suspendedEntry s with
    | none => rfl
    | some o => simp [hs o h]
  rw [exec, execEntryStart, if_pos ⟨hp, by rw [ha]; rfl, notDue⟩, oldest]

theorem exec_entryRestart_of_due {o : Entry} (ho : suspendedEntry s = some o)
    (hr : o.resumePending = true) : exec .entryRestart s = finish (startQuantum { s with
      queue := updateFirst isSuspended
        (fun e => { e with state := .active, resumePending := false }) s.queue
      hold := none }) := by
  rw [exec, execEntryRestart, if_pos ⟨hp, by rw [ha]; rfl⟩, ho]
  exact if_pos hr

end

/-- Settles O46. -/
theorem startDecision : Obligations.StartDecision := by
  unfold Obligations.StartDecision
  intro s hp ha
  refine ⟨fun older e rest hq hs he hl => ?_, ?_, ⟨commitTarget_of_class0, commitTarget_of_class1,
    fun h0 h1 => ⟨commitTarget_of_lower0 h0 h1, commitTarget_of_lower1 h0 h1, fun heq hn => ?_⟩,
    fun slot other => commitTarget_of_selected⟩, commitUnchanged_iff s⟩
  · rw [exec_entryStart hp ha hq hs he hl]
    refine ⟨fun hk => ?_, fun hk hu => ?_, fun hk hu => ?_⟩
    · rw [startEffect_of_ne_commit _ hk]
      rfl
    · rw [startEffect_of_commit _ hk, startCommit]
      exact congrArg finish (if_pos hu)
    · rw [startEffect_of_commit _ hk, startCommit]
      exact congrArg finish (if_neg (ne_true_of_eq_false hu))
  · rintro ⟨o, ho, hr⟩
    exact ⟨exec_entryStart_of_due ho hr, exec_entryRestart_of_due hp ha ho hr⟩
  · obtain ⟨slot, hslot⟩ := Option.ne_none_iff_exists'.mp hn
    rw [commitTarget_of_equal h0 h1 heq, hslot]
    exact fun h => otherSlot_ne slot (Option.some.inj h).symm

end Sys2Proof.Machine

namespace Sys2Proof.Machine

-- As in the tests: a task for each proof would need more threads than the check's memory leaves.
set_option Elab.async false

/-! ## The completion of GUARD_FUSE, SEAL_LOCK and SEAL_PROGRAM (R82, R83, R145, R147, R148) -/

theorem bitSet_eq_true {stuck : StuckBits} : bitSet stuck = true ↔ (stuckMask stuck 0).getLsbD 0 = false := by
  simp [bitSet]

section
variable {s : State} {e : Entry} {stuck : StuckBits}

/-- What an operation that is none of the array's leaves at its end: Port M's record alone is its report. -/
theorem exec_operationCompletion_of_portM (hp : s.power = .active) (ha : activeEntry s = some e)
    (ho : e.origin = .m) (hk : isArrayKind e.kind = false) {b : State} {out : OpOutcome}
    (hr : operationResult s e stuck = (b, out)) (hq : b.queue = s.queue) :
    exec (.operationCompletion stuck) s = .next (driveIrq (fillFromMailbox
      (if e.orphan then releaseBuffer { b with
          queue := s.queue.eraseP isActive, suspend := .none, quantum := none } e.buffer
       else pushCompletion (releaseBuffer { b with
          queue := s.queue.eraseP isActive, suspend := .none, quantum := none } e.buffer) .m
        ⟨e.tag, e.kind, out, e.redirected, e.auto⟩))) := by
  have unlogged (t : State) : logFailed t e out = t := if_neg (by simp [hk])
  simp only [exec, execOperationCompletion, if_pos hp, ha, hr, reportOutcome, unlogged, ho, removeActive, hq,
    finish, completedEntry]

theorem operationResult_of_guardFuse (hk : e.kind = .guardFuse) : operationResult s e stuck =
    if bitSet stuck then
      (logEvent { s with fuse := true } .guardSealed 2 e.tag 0 0xFFFFFFFF, .done)
    else (s, .failed) := by
  simp only [operationResult, hk]
  rfl

variable {page half : Nat}

theorem operationResult_of_sealLock (hk : e.kind = .sealLock) (ht : e.target = .sealPage page half) :
    operationResult s e stuck =
      if bitSet stuck then
        (logEvent { s with sealLocks := s.sealLocks ||| lockBit page } .sealLocked 2 e.tag
          (BitVec.ofNat 8 page) 0xFFFFFFFF, .done)
      else (s, .failed) := by
  simp only [operationResult, hk, ht]
  rfl

theorem operationResult_of_sealProgram (hk : e.kind = .sealProgram) (ht : e.target = .sealPage page half) :
    operationResult s e stuck = ({ s with sealStore := sealAfter s e page half stuck },
      judged (sealAfter s e page half stuck) (sealAfter s e page half [])) := by
  simp only [operationResult, hk, ht]

end

/-! ### The lock bit of a page -/

theorem getLsbD_lockBit {page : Nat} (hp : page < 3) (q : Nat) :
    (lockBit page).getLsbD q = decide (q = page) := by
  unfold lockBit
  rw [BitVec.getLsbD_shiftLeft, BitVec.getLsbD_one, Bool.eq_iff_iff]
  simp only [Bool.and_eq_true, Bool.not_eq_true', decide_eq_true_eq, decide_eq_false_iff_not]
  omega

theorem getLsbD_or_lockBit_same (locks : BitVec 3) {page : Nat} (hp : page < 3) :
    (locks ||| lockBit page).getLsbD page = true := by
  rw [BitVec.getLsbD_or, getLsbD_lockBit hp]
  simp

theorem getLsbD_or_lockBit_ne (locks : BitVec 3) {page q : Nat} (hp : page < 3) (hq : q ≠ page) :
    (locks ||| lockBit page).getLsbD q = locks.getLsbD q := by
  rw [BitVec.getLsbD_or, getLsbD_lockBit hp]
  simp [hq]

theorem baseMode_of_fuse {s : State} (h : s.fuse = true) : baseMode s = .sealed := by
  simp [baseMode, h]

/-- Settles O50. -/
theorem fuseAndSealsComplete : Obligations.FuseAndSealsComplete := by
  unfold Obligations.FuseAndSealsComplete
  intro s stuck e hp ha ho
  dsimp only
  refine ⟨fun hk => ⟨fun hset => ⟨?_, baseMode_of_fuse rfl⟩, fun hset => ?_⟩,
    fun page half hk ht hpage => ⟨fun hset => ⟨s.sealLocks ||| lockBit page,
      getLsbD_or_lockBit_same _ hpage, fun q hq => getLsbD_or_lockBit_ne _ hpage hq, ?_⟩, fun hset => ?_⟩,
    fun page half hk ht => ?_⟩
  · rw [exec_operationCompletion_of_portM hp ha ho (by rw [hk]; rfl)
      ((operationResult_of_guardFuse hk).trans (if_pos (bitSet_eq_true.mpr hset))) (logEvent_queue ..)]
  · rw [exec_operationCompletion_of_portM hp ha ho (by rw [hk]; rfl)
      ((operationResult_of_guardFuse hk).trans (if_neg (mt bitSet_eq_true.mp hset))) rfl]
  · rw [exec_operationCompletion_of_portM hp ha ho (by rw [hk]; rfl)
      ((operationResult_of_sealLock hk ht).trans (if_pos (bitSet_eq_true.mpr hset))) (logEvent_queue ..)]
  · rw [exec_operationCompletion_of_portM hp ha ho (by rw [hk]; rfl)
      ((operationResult_of_sealLock hk ht).trans (if_neg (mt bitSet_eq_true.mp hset))) rfl]
  · rw [exec_operationCompletion_of_portM hp ha ho (by rw [hk]; rfl)
      (operationResult_of_sealProgram hk ht) rfl]
    rfl

end Sys2Proof.Machine

namespace Sys2Proof.Machine

-- As in the tests: a task for each proof would need more threads than the check's memory leaves.
set_option Elab.async false

/-! ## The completion of a job step (R82, R83, R117, R118, R124, R125, R130) -/

/-! ### The current descriptor -/

section
variable {t : State} {n : Nat} {d : Descriptor}

theorem currentJob_eq (hc : t.current = some n) (hj : t.jobs[n]? = some d) : currentJob t = some d := by
  rw [currentJob, hc, Option.bind_some, hj]

theorem setCurrentJob_eq (hc : t.current = some n) (d' : Descriptor) :
    setCurrentJob t d' = { t with jobs := t.jobs.set n d' } := by rw [setCurrentJob, hc]

theorem getElem?_set_job (hj : t.jobs[n]? = some d) (d' : Descriptor) :
    (t.jobs.set n d')[n]? = some d' :=
  List.getElem?_set_self (List.getElem?_eq_some_iff.mp hj).1

/-- A descriptor that begins is RUNNING. -/
theorem currentJob_beginJob (hn : nextLoaded t = some n) :
    ∃ d', currentJob (beginJob t n) = some d' ∧ d'.state = .running := by
  obtain ⟨hlt, -⟩ := List.findIdx?_eq_some_iff_getElem.mp hn
  have hj : t.jobs[n]? = some t.jobs[n] := List.getElem?_eq_getElem hlt
  refine ⟨{ t.jobs[n] with state := .running }, ?_, rfl⟩
  simp only [beginJob, hj]
  exact currentJob_eq rfl (getElem?_set_job hj _)

theorem beginJob_engine : (beginJob t n).engine = t.engine := by
  unfold beginJob
  split <;> rfl

end

/-! ### Where the engine goes (R117, R118, R125, R130) -/

section
variable {t : State}

theorem drainCheck_of_outstanding (h : stepsOutstanding t ≠ 0) : drainCheck t = t := if_neg h

theorem drainCheck_of_idle (he : t.engine = .idle) : drainCheck t = t := by
  unfold drainCheck
  simp [he]

theorem drainCheck_of_running (he : t.engine = .running) {d : Descriptor} (hj : currentJob t = some d)
    (hd : d.state ≠ .faulted) : drainCheck t = t := by
  unfold drainCheck
  simp [he, hj, hd]

theorem drainCheck_of_aborting (h : stepsOutstanding t = 0) (he : t.engine = .aborting) :
    drainCheck t = endAbort t := by
  simp only [drainCheck, if_pos h, he]

theorem drainCheck_of_faulted (h : stepsOutstanding t = 0) (he : t.engine = .running ∨ t.engine = .pausing)
    {d : Descriptor} (hj : currentJob t = some d) (hd : d.state = .faulted) :
    drainCheck t = { t with engine := .halted, current := none, jobAttn := true } := by
  obtain he | he := he <;> simp [drainCheck, h, he, hj, hd]

theorem drainCheck_of_pausing (h : stepsOutstanding t = 0) (he : t.engine = .pausing)
    (hf : ∀ d, currentJob t = some d → d.state ≠ .faulted)
    (hl : currentJob t ≠ none ∨ nextLoaded t ≠ none) :
    drainCheck t = { t with engine := .paused, jobAttn := true } := by
  have sound : (currentJob t).any (·.state == .faulted) = false := by
    cases hj : currentJob t with
    | none => rfl
    | some d => simpa using hf d hj
  have later : ((currentJob t).isSome || (nextLoaded t).isSome) = true := by
    simpa [Option.isSome_iff_ne_none] using hl
  simp [drainCheck, h, he, sound, later]

theorem drainCheck_of_drained (h : stepsOutstanding t = 0) (he : t.engine = .pausing)
    (hj : currentJob t = none) (hl : nextLoaded t = none) : drainCheck t = enterIdle t := by
  simp [drainCheck, h, he, hj, hl]

/-! ### After a descriptor is DONE -/

theorem moveOn_of_pausing (he : t.engine = .pausing) : moveOn t = { t with current := none } := by
  rw [moveOn, he]

theorem drainCheck_moveOn_next (he : t.engine = .running) {m : Nat} (hn : nextLoaded t = some m) :
    drainCheck (moveOn t) = beginJob t m := by
  obtain ⟨d', hj, hd⟩ := currentJob_beginJob hn
  have moved : moveOn t = beginJob t m := by simp only [moveOn, he, hn]
  rw [moved]
  exact drainCheck_of_running (beginJob_engine.trans he) hj (by simp [hd])

theorem drainCheck_moveOn_idle (he : t.engine = .running) (hn : nextLoaded t = none) :
    drainCheck (moveOn t) = enterIdle t := by
  have moved : moveOn t = enterIdle t := by simp only [moveOn, he, hn]
  rw [moved]
  exact drainCheck_of_idle rfl

theorem drainCheck_moveOn_paused (h : stepsOutstanding t = 0) (he : t.engine = .pausing)
    (hn : nextLoaded t ≠ none) :
    drainCheck (moveOn t) = { t with engine := .paused, current := none, jobAttn := true } := by
  rw [moveOn_of_pausing he]
  exact drainCheck_of_pausing h he (fun d hd => by cases hd) (.inr hn)

theorem drainCheck_moveOn_drained (h : stepsOutstanding t = 0) (he : t.engine = .pausing)
    (hn : nextLoaded t = none) : drainCheck (moveOn t) = enterIdle t := by
  rw [moveOn_of_pausing he]
  exact drainCheck_of_drained h he rfl hn

end

/-! ### What a step's end does -/

section
variable {t : State} {n : Nat} {d : Descriptor} {e : Entry}

theorem finishIfDone_of_not (h : ¬ (d.state = .running ∧ (t.engine = .running ∨ t.engine = .pausing)
    ∧ stepAt d t.cursor = none ∧ stepsOutstanding t = 0)) : finishIfDone t d = t :=
  if_neg (by rwa [Option.isNone_iff_eq_none])

/-- The state in which a job of the array's own steps is DONE, with its event (R125). -/
def jobFinished (t : State) (n : Nat) (d : Descriptor) : State :=
  logEvent { t with jobs := t.jobs.set n { d with state := .done } }
    .jobDone 3 d.id (jobKindCode d.kind) (addressWord d.dest)

theorem jobFinished_engine : (jobFinished t n d).engine = t.engine := logEvent_engine ..

theorem stepsOutstanding_jobFinished : stepsOutstanding (jobFinished t n d) = stepsOutstanding t := by
  rw [stepsOutstanding, jobFinished, logEvent_queue, stepsOutstanding]

theorem finishIfDone_of_done (hc : t.current = some n) (hv : d.kind ≠ .verify) (hg : d.kind ≠ .digest)
    (hd : d.state = .running) (he : t.engine = .running ∨ t.engine = .pausing)
    (hs : stepAt d t.cursor = none) (h : stepsOutstanding t = 0) :
    finishIfDone t d = moveOn (jobFinished t n d) := by
  have start : rangeStart d = d.dest := by
    unfold rangeStart
    cases hk : d.kind with
    | copy | fill | eraseRange => rfl
    | verify => exact absurd hk hv
    | digest => exact absurd hk hg
  rw [finishIfDone, if_pos ⟨hd, he, by rw [hs]; rfl, h⟩, finishJob, setCurrentJob_eq hc, if_neg hg, start,
    jobFinished]

/-! The engine after a step that was DONE, by the steps left, the descriptor's state and the engine's. -/

theorem drainCheck_step_outstanding (h : stepsOutstanding t ≠ 0) : drainCheck (finishIfDone t d) = t := by
  rw [finishIfDone_of_not fun ⟨_, _, _, h0⟩ => h h0, drainCheck_of_outstanding h]

theorem drainCheck_step_aborting (h : stepsOutstanding t = 0) (he : t.engine = .aborting) :
    drainCheck (finishIfDone t d) = endAbort t := by
  rw [finishIfDone_of_not fun ⟨_, he', _⟩ => by simp [he] at he', drainCheck_of_aborting h he]

section
variable (hj : currentJob t = some d)
include hj

theorem drainCheck_step_faulted (hd : d.state = .faulted) (h : stepsOutstanding t = 0)
    (he : t.engine = .running ∨ t.engine = .pausing) : drainCheck (finishIfDone t d)
      = { t with engine := .halted, current := none, jobAttn := true } := by
  rw [finishIfDone_of_not fun ⟨hd', _⟩ => by simp [hd] at hd', drainCheck_of_faulted h he hj hd]

variable (hd : d.state = .running)
include hd

theorem drainCheck_step_running (hs : stepAt d t.cursor ≠ none) (he : t.engine = .running) :
    drainCheck (finishIfDone t d) = t := by
  rw [finishIfDone_of_not fun ⟨_, _, hs', _⟩ => hs hs', drainCheck_of_running he hj (by simp [hd])]

theorem drainCheck_step_pausing (hs : stepAt d t.cursor ≠ none) (h : stepsOutstanding t = 0)
    (he : t.engine = .pausing) :
    drainCheck (finishIfDone t d) = { t with engine := .paused, jobAttn := true } := by
  have sound (d' : Descriptor) (h' : currentJob t = some d') : d'.state ≠ .faulted := by
    cases hj.symm.trans h'
    simp [hd]
  rw [finishIfDone_of_not fun ⟨_, _, hs', _⟩ => hs hs', drainCheck_of_pausing h he sound (.inl (by simp [hj]))]

end

/-- The descriptor with a step's bytes counted (R124). -/
def countStep (d : Descriptor) (k : Kind) : Descriptor :=
  { d with bytesDone := d.bytesDone + stepBytes d k }

theorem stepCompleted_done (hc : t.current = some n) (hj : t.jobs[n]? = some d) :
    stepCompleted t e .done = drainCheck
      (finishIfDone { t with jobs := t.jobs.set n (countStep d e.kind) } (countStep d e.kind)) := by
  rw [stepCompleted, currentJob_eq hc hj]
  dsimp only
  rw [if_neg (by simp), setCurrentJob_eq hc]
  rfl

/-- The state in which the current descriptor has faulted, with its event where it had not before (R130). -/
def jobFaulted (t : State) (n : Nat) (d : Descriptor) (a : Nat) : State :=
  if d.state = .faulted then t else
    logEvent { t with jobs := t.jobs.set n { d with state := .faulted, fault := some (.opFailed, a) } }
      .jobFault 3 d.id 2 (addressWord a)

section
variable {a : Nat}

theorem jobFaulted_engine : (jobFaulted t n d a).engine = t.engine := by
  unfold jobFaulted
  split
  · rfl
  · exact logEvent_engine ..

theorem stepsOutstanding_jobFaulted : stepsOutstanding (jobFaulted t n d a) = stepsOutstanding t := by
  unfold jobFaulted
  split
  · rfl
  · rw [stepsOutstanding, logEvent_queue, stepsOutstanding]

theorem currentJob_jobFaulted (hc : t.current = some n) (hj : t.jobs[n]? = some d) :
    ∃ d', currentJob (jobFaulted t n d a) = some d' ∧ d'.state = .faulted := by
  unfold jobFaulted
  split
  · exact ⟨d, currentJob_eq hc hj, ‹_›⟩
  · refine ⟨{ d with state := .faulted, fault := some (.opFailed, a) }, ?_, rfl⟩
    exact currentJob_eq ((logEvent_current ..).trans hc) (by rw [logEvent_jobs, getElem?_set_job hj])

end

theorem stepCompleted_failed (hc : t.current = some n) (hj : t.jobs[n]? = some d) :
    stepCompleted t e .failed = drainCheck (jobFaulted t n d (targetAddress e.target).toNat) := by
  rw [stepCompleted, currentJob_eq hc hj]
  dsimp only
  rw [if_pos rfl, faultJob, setCurrentJob_eq hc]
  rfl

/-- A step of a job that is known still reports to its descriptor (R83). -/
theorem exec_operationCompletion_of_step {s : State} {stuck : StuckBits} {base len : Nat}
    (hp : s.power = .active) (ha : activeEntry s = some e) (hk : isArrayKind e.kind = true)
    (ht : e.target = .array base len) (ho : e.origin = .job) (hlive : e.orphan = false) {out : OpOutcome}
    (hout : judged (arrayAfter s e base len stuck) (arrayAfter s e base len []) = out) :
    exec (.operationCompletion stuck) s = finish (fillFromMailbox (stepCompleted (logFailed
      (removeActive { s with array := arrayAfter s e base len stuck } e) e out) e out)) := by
  rw [exec_operationCompletion_of_array hp ha hk ht, hout, reportOutcome, hlive, ho]
  rfl

end


/-! ### The statement, clause by clause -/

theorem countStep_eq (d : Descriptor) (k : Kind) : countStep d k = { d with
    bytesDone := d.bytesDone + (if k = .pageProgram then 256
      else if d.kind = .eraseRange then granuleBytes k else 0) } := by
  unfold countStep stepBytes
  by_cases hk : k = .pageProgram
  · simp [hk, granuleBytes, Config.pageBytes]
  · simp [hk]

theorem targetAddress_toNat {t : Target} {base len : Nat} (ht : t = .array base len)
    (hb : base < 0x2000000) : (targetAddress t).toNat = base := by
  subst ht
  exact (BitVec.toNat_ofNat ..).trans (Nat.mod_eq_of_lt (by omega))

/-- Settles O44. -/
theorem jobStepsComplete : Obligations.JobStepsComplete := by
  unfold Obligations.JobStepsComplete
  intro s stuck e base len n d hp ha hk ht hb ho hlive hcur hjob hv hg gone left ends idle aborted halted
  have step {out : OpOutcome} {t : State}
      (hout : judged (arrayAfter s e base len stuck) (arrayAfter s e base len []) = out)
      (h : stepCompleted (logFailed gone e out) e out = t) : ends t :=
    (exec_operationCompletion_of_step hp ha hk ht ho hlive hout).trans
      (congrArg (fun t => finish (fillFromMailbox t)) h)
  have jobs : gone.jobs = s.jobs := releaseBuffer_jobs ..
  have engine : gone.engine = s.engine := releaseBuffer_engine ..
  have cursor : gone.cursor = s.cursor := releaseBuffer_cursor ..
  have hc : gone.current = some n := (releaseBuffer_current ..).trans hcur
  clear_value gone
  rw [← jobs] at hjob
  rw [← jobs, ← engine, ← cursor]
  refine ⟨fun hdone => ?_, fun hfailed => ?_⟩
  · have done {t : State} (h : drainCheck (finishIfDone
        { gone with jobs := gone.jobs.set n (countStep d e.kind) } (countStep d e.kind)) = t) : ends t :=
      step (if_pos hdone) ((stepCompleted_done hc hjob).trans h)
    have current := currentJob_eq (t := { gone with jobs := gone.jobs.set n (countStep d e.kind) }) hc
      (getElem?_set_job hjob _)
    rw [← countStep_eq]
    intro d1 counted finished
    have final : jobFinished counted n d1 = finished := by
      simp only [jobFinished, counted, List.set_set]
      rfl
    have ended (hd : d.state = .running) (he : gone.engine = .running ∨ gone.engine = .pausing)
        (hs : stepAt d gone.cursor = none) (hl : left = 0) {t : State}
        (ht : drainCheck (moveOn finished) = t) : ends t := by
      have moved := finishIfDone_of_done (t := counted) (d := d1) hc hv hg hd he hs hl
      exact done ((congrArg drainCheck (moved.trans (congrArg moveOn final))).trans ht)
    have unended : stepsOutstanding finished = left := final ▸ stepsOutstanding_jobFinished
    have goes : finished.engine = gone.engine := final ▸ jobFinished_engine
    refine ⟨fun hl => done (drainCheck_step_outstanding hl),
      fun hl hd hs => ⟨fun he => done (drainCheck_step_running current hd hs he),
        fun he => done (drainCheck_step_pausing current hd hs hl he)⟩,
      fun hl hd hs => ⟨fun m he hn => ?_, fun he hn => ?_, fun he hn => ?_, fun he hn => ?_⟩,
      fun hl hd he => done (drainCheck_step_faulted current hd hl he),
      fun hl he => done (drainCheck_step_aborting hl he)⟩
    · exact ended hd (.inl he) hs hl (drainCheck_moveOn_next (goes.trans he) hn)
    · exact ended hd (.inl he) hs hl (drainCheck_moveOn_idle (goes.trans he) hn)
    · exact ended hd (.inr he) hs hl (drainCheck_moveOn_paused (unended.trans hl) (goes.trans he) hn)
    · exact ended hd (.inr he) hs hl (drainCheck_moveOn_drained (unended.trans hl) (goes.trans he) hn)
  · intro failed faulted
    have logged : logFailed gone e .failed = failed := by
      rw [logFailed, if_pos ⟨rfl, hk⟩, ho, ht]
      rfl
    have hc' : failed.current = some n := (logEvent_current ..).trans hc
    have jobs' : failed.jobs = gone.jobs := logEvent_jobs ..
    rw [← jobs'] at hjob
    have final : jobFaulted failed n d base = faulted := by rw [jobFaulted, jobs']
    have fails {t : State} (h : drainCheck faulted = t) : ends t := by
      refine step (if_neg hfailed) ?_
      rw [logged, stepCompleted_failed hc' hjob, targetAddress_toNat ht hb, final, h]
    have unended : stepsOutstanding faulted = left :=
      final ▸ stepsOutstanding_jobFaulted.trans (congrArg (List.countP (ownedLive .job)) (logEvent_queue ..))
    have goes : faulted.engine = gone.engine := final ▸ jobFaulted_engine.trans (logEvent_engine ..)
    obtain ⟨d', current, hd⟩ := final ▸ currentJob_jobFaulted (a := base) hc' hjob
    exact ⟨fun hl => fails (drainCheck_of_outstanding (unended ▸ hl)),
      fun hl he => fails (drainCheck_of_faulted (unended.trans hl) (goes ▸ he) current hd),
      fun hl he => fails (drainCheck_of_aborting (unended.trans hl) (goes.trans he))⟩

end Sys2Proof.Machine

namespace Sys2Proof.Machine

/-! ## The trap mailbox's resolutions (R99 to R102) -/

section
variable {s b : State} {p : Port} {f : Frame} {slot : SlotId}

/-- A slot's release in one update: with a free queue entry the request joins the tail, else the slot is
RELEASING (R100). -/
theorem releaseSlot_eq {q : List Entry} {sl : MailSlot} (hq : b.queue = q) (hs : b.slot slot = sl) :
    releaseSlot b slot = if q.length < 8
      then State.setSlot { b with queue := q ++ [slotEntry sl] } slot emptySlot
      else b.setSlot slot { sl with state := .releasing, deadline := none } := by
  subst hq hs
  unfold releaseSlot
  by_cases h : b.queue.length < 8
  · rw [if_pos h, if_neg (Bool.eq_false_iff.mp (queueFull_eq_false.mpr h))]
    rfl
  · rw [if_neg h, if_pos (queueFull_eq_true.mpr (Nat.not_lt.mp h))]

theorem withHeldSlot_of_held {field : Byte} (hf : slotOfField field = some slot)
    (hh : (b.slot slot).state = .held) (act : SlotId → State) :
    withHeldSlot b p field act = act slot :=
  (withHeldSlot_of_named hf act).trans (if_pos hh)

theorem withHeldSlot_of_unheld {field : Byte} (hf : slotOfField field = some slot)
    (hh : (b.slot slot).state ≠ .held) (act : SlotId → State) :
    withHeldSlot b p field act = refuse b p .slotState :=
  (withHeldSlot_of_named hf act).trans (if_neg hh)

theorem withHeldSlot_of_unnamed {field : Byte} (hf : 2 ≤ field.toNat) (act : SlotId → State) :
    withHeldSlot b p field act = refuse b p .badArgument := by
  rw [withHeldSlot, slotOfField_eq_none hf]

@[simp] theorem portMWriteRefusal_ended (s : State) (p : Port) (a : Nat) :
    portMWriteRefusal (ended s p) a = portMWriteRefusal s a := by
  obtain ⟨ps, h⟩ := ended_eq s p
  rw [h, portMWriteRefusal_setPort]

/-- What each resolution does with a slot that is HELD (R99 to R102). -/
def resolveHeld (f : Frame) (b : State) (slot : SlotId) : Command → State
  | .mailboxRedirect =>
    if !addressInSpace (be32 f.bytes 1) then refuse b .m .addressRange
    else match portMWriteRefusal b (granuleBase (b.slot slot).kind (be32 f.bytes 1).toNat) with
      | some code => refuse b .m code
      | none => redirectSlot b slot (be32 f.bytes 1).toNat
  | .mailboxDeny =>
    logEvent (denySlot b slot false) .trapDenied 1 (b.slot slot).tag (kindCode (b.slot slot).kind)
      (addressWord (b.slot slot).physical)
  | _ => releaseSlot b slot

/-- The decision of a resolution, which looks for its slot first (R99). -/
def decideResolution (f : Frame) (c : Command) (b : State) : State :=
  withHeldSlot b .m (byteAt f.bytes 0) fun slot => resolveHeld f b slot c

theorem exec_resolution {i : Instr} {c : Command} (hi : requestOf i = some (.m, c, f))
    (hc : c ∈ [Command.mailboxRelease, .mailboxRedirect, .mailboxDeny]) (ha : Arrives s .m c f) :
    exec i s = finish (decideResolution f c (ended s .m)) := by
  rw [← requestEnd_of_arrives ha]
  simp only [List.mem_cons, List.not_mem_nil, or_false] at hc
  obtain rfl | rfl | rfl := hc <;> cases i <;>
    simp only [requestOf, Option.some.injEq, Prod.mk.injEq, reduceCtorEq, and_false, false_and] at hi
  all_goals
    obtain ⟨rfl, -, rfl⟩ := hi
    rfl

theorem resolveHeld_of_outside (h : 0x2000000 ≤ (be32 f.bytes 1).toNat) :
    resolveHeld f b slot .mailboxRedirect = refuse b .m .addressRange := by
  have past : addressInSpace (be32 f.bytes 1) = false := decide_eq_false (Nat.not_lt.mpr h)
  simp only [resolveHeld, past, Bool.not_false, if_true]

/-- A redirect into the array is decided by Port M's rights over the new granule (R61, R99). -/
theorem resolveHeld_of_refused {code : RefusalCode} (h : (be32 f.bytes 1).toNat < 0x2000000)
    (hp : portMWriteRefusal b (granuleBase (b.slot slot).kind (be32 f.bytes 1).toNat) = some code) :
    resolveHeld f b slot .mailboxRedirect = refuse b .m code := by
  have inside : addressInSpace (be32 f.bytes 1) = true := decide_eq_true h
  simp only [resolveHeld, inside, hp, Bool.not_true, Bool.false_eq_true, if_false]

theorem resolveHeld_of_permitted (h : (be32 f.bytes 1).toNat < 0x2000000)
    (hp : portMWriteRefusal b (granuleBase (b.slot slot).kind (be32 f.bytes 1).toNat) = none) :
    resolveHeld f b slot .mailboxRedirect = redirectSlot b slot (be32 f.bytes 1).toNat := by
  have inside : addressInSpace (be32 f.bytes 1) = true := decide_eq_true h
  simp only [resolveHeld, inside, hp, Bool.not_true, Bool.false_eq_true, if_false]

/-- An accepted redirect: the slot takes the new address, the event is logged, and the slot is released
(R101). -/
theorem redirectSlot_eq {q : List Entry} {new phys : Nat} {sl sl' : MailSlot} (hq : b.queue = q)
    (hs : b.slot slot = sl) (hp : phys = redirectedAddress sl.kind new sl.physical)
    (hs' : sl' = { sl with physical := phys, redirected := true }) :
    let u := logEvent (b.setSlot slot sl') .trapRedirected 1 sl.tag (kindCode sl.kind) (addressWord phys)
    redirectSlot b slot new = if q.length < 8
      then State.setSlot { u with queue := q ++ [slotEntry sl'] } slot emptySlot
      else u.setSlot slot { sl' with state := .releasing, deadline := none } := by
  subst hs hp hs'
  exact releaseSlot_eq (by rw [logEvent_queue, State.setSlot_queue, hq])
    (by rw [slot_logEvent, slot_setSlot_same])

end

/-- Settles O38: each resolution finds its HELD slot or is refused, and then releases it, moves and
releases it, or denies it. -/
theorem mailboxResolutions : Obligations.MailboxResolutions := by
  unfold Obligations.MailboxResolutions
  refine ⟨fun s f slot hf hh => ?_, fun i s c f hi hc ha => ?_⟩
  · intro b sl released
    have held : (b.slot slot).state = .held := (congrArg MailSlot.state (ended_slot s .m slot)).trans hh
    have decides {i : Instr} {c : Command} {t : State} (hi : requestOf i = some (.m, c, f))
        (hc : c ∈ [Command.mailboxRelease, .mailboxRedirect, .mailboxDeny]) (ha : Arrives s .m c f)
        (ht : resolveHeld f b slot c = t) : exec i s = .next (driveIrq t) := by
      rw [exec_resolution hi hc ha, decideResolution, withHeldSlot_of_held hf held, ht]
      rfl
    refine ⟨fun ha => ?_, fun new ha hn hr hp => ?_, fun ha => ?_⟩
    · exact decides rfl (by simp) ha (releaseSlot_eq (ended_queue s .m) (ended_slot s .m slot))
    · subst hn
      refine decides rfl (by simp) ha ?_
      rw [resolveHeld_of_permitted hr (by rwa [portMWriteRefusal_ended, ended_slot])]
      exact redirectSlot_eq (ended_queue s .m) (ended_slot s .m slot) rfl rfl
    · refine decides rfl (by simp) ha ?_
      simp only [resolveHeld, denySlot, emptySlotAt]
      rw [ended_slot]
  · intro refused
    have decides {t : State} (ht : decideResolution f c (ended s .m) = t) :
        exec i s = .next (driveIrq t) := by
      rw [exec_resolution hi hc ha, ht]
      rfl
    refine ⟨fun h2 => decides (withHeldSlot_of_unnamed h2 _), fun slot hf => ⟨fun hn => ?_, ?_⟩⟩
    · exact decides (withHeldSlot_of_unheld hf (by rwa [ended_slot]) _)
    · rintro hh rfl
      have held : ((ended s .m).slot slot).state = .held := by rwa [ended_slot]
      refine ⟨fun h => ?_, fun code h hp => ?_⟩
      · exact decides ((withHeldSlot_of_held hf held _).trans (resolveHeld_of_outside h))
      · refine decides ((withHeldSlot_of_held hf held _).trans (resolveHeld_of_refused h ?_))
        rwa [portMWriteRefusal_ended, ended_slot]

end Sys2Proof.Machine

namespace Sys2Proof.Machine

/-! ## Trap deadlines and the management watchdog (R104, R106 to R108) -/

section
variable {s : State} {slot : SlotId} {auto : Bool} {k : EventKind}

/-! ### The default action of a slot -/

theorem resolveByDefault_of_deny (hr : (s.slot slot).release = false) :
    resolveByDefault s slot auto k = logEvent
      (pushCompletion ((releaseBuffer s (s.slot slot).buffer).setSlot slot emptySlot) .a
        ⟨(s.slot slot).tag, (s.slot slot).kind, .denied, false, auto⟩)
      k 1 (s.slot slot).tag 0 (addressWord (s.slot slot).physical) :=
  if_neg (Bool.eq_false_iff.mp hr)

/-- The release that a default action makes, the slot marked before it goes (R104, R108). -/
theorem resolveByDefault_of_release {sl : MailSlot} (hr : (s.slot slot).release = true)
    (hs : sl = { s.slot slot with auto := (s.slot slot).auto || auto }) :
    resolveByDefault s slot auto k = logEvent
      (if s.queue.length < 8 then State.setSlot { s with queue := s.queue ++ [slotEntry sl] } slot emptySlot
       else s.setSlot slot { sl with state := .releasing, deadline := none })
      k 1 sl.tag 1 (addressWord sl.physical) := by
  subst hs
  refine (if_pos hr).trans ?_
  rw [releaseSlot_eq (State.setSlot_queue ..) (slot_setSlot_same ..)]
  cases slot <;> rfl

/-! ### The lapse -/

theorem lapseSlot_of_unheld (h : (s.slot slot).state ≠ .held) : lapseSlot s slot = s := if_neg h

theorem lapseSlot_of_held (h : (s.slot slot).state = .held) :
    lapseSlot s slot = resolveByDefault s slot true .trapAuto := if_pos h

/-! ### The rows -/

theorem exec_trapDeadlineExpiry (hp : s.power = .active) (hh : (s.slot slot).state = .held)
    (hd : (s.slot slot).deadline = some 0) :
    exec (.trapDeadlineExpiry slot) s = finish (resolveByDefault s slot false .trapTimeout) :=
  if_pos ⟨hp, hh, hd⟩

theorem exec_trapDeadlineExpiry_of_not_due
    (h : (s.slot slot).state ≠ .held ∨ (s.slot slot).deadline ≠ some 0) :
    exec (.trapDeadlineExpiry slot) s = finish s :=
  if_neg fun ⟨_, hh, hd⟩ => h.elim (absurd hh) (absurd hd)

/-- What a HEARTBEAT does to the countdown, by the watchdog's state (R107). -/
def beat (b : State) : State :=
  match b.watchdog.state with
  | .disabled => b
  | .armed => startWatchdog b
  | .lapsed => logEvent (startWatchdog b) .watchdogRestored 2 0 0 noAddress

theorem exec_heartbeat {f : Frame} (h : Arrives s .m .heartbeat f) :
    exec (.heartbeat .m f) s = finish (beat (ended s .m)) :=
  requestEnd_of_arrives h beat

theorem beat_of_disabled (h : s.watchdog.state = .disabled) : beat s = s := by rw [beat, h]

theorem beat_of_armed (h : s.watchdog.state = .armed) : beat s = startWatchdog s := by rw [beat, h]

theorem beat_of_lapsed (h : s.watchdog.state = .lapsed) :
    beat s = logEvent (startWatchdog s) .watchdogRestored 2 0 0 noAddress := by rw [beat, h]

@[simp] theorem ended_watchdog (s : State) (p : Port) : (ended s p).watchdog = s.watchdog := by
  obtain ⟨ps, h⟩ := ended_eq s p
  rw [h, State.setPort_watchdog]

/-- The countdown that starts at the end of a transaction is that of the state before it (R106). -/
theorem startWatchdog_ended (s : State) (p : Port) : startWatchdog (ended s p) = { ended s p with
    watchdog := armedWatchdog s, started := { s.started with watchdog := true } } := by
  obtain ⟨ps, h⟩ := ended_eq s p
  rw [h]
  cases p <;> rfl

end

/-- Settles O40: the deadline and the lapse both resolve a slot by its default action; a HEARTBEAT goes by
the watchdog's state. -/
theorem deadlinesAndWatchdog : Obligations.DeadlinesAndWatchdog := by
  unfold Obligations.DeadlinesAndWatchdog
  refine ⟨fun s slot hp => ?_, fun s => ?_⟩
  · intro sl
    have marked : sl = { s.slot slot with auto := (s.slot slot).auto || false } := by
      rw [Bool.or_false]
    refine ⟨fun hh hd hr hq => ?_, fun hh hd hr hq => ?_, fun hh hd hr => ?_, fun h => ?_⟩
    · rw [exec_trapDeadlineExpiry hp hh hd, resolveByDefault_of_release hr marked, if_pos hq]
      rfl
    · rw [exec_trapDeadlineExpiry hp hh hd, resolveByDefault_of_release hr marked,
        if_neg (Nat.not_lt.mpr hq)]
      rfl
    · rw [exec_trapDeadlineExpiry hp hh hd, resolveByDefault_of_deny hr]
      rfl
    · exact exec_trapDeadlineExpiry_of_not_due h
  · intro full beaten resolved
    have resolves (b : State) (slot : SlotId) : lapseSlot b slot = resolved b slot := by
      by_cases hh : (b.slot slot).state = .held
      · rw [lapseSlot_of_held hh]
        refine Eq.trans ?_ (if_neg (not_not_intro hh)).symm
        by_cases hr : (b.slot slot).release = false
        · exact (resolveByDefault_of_deny hr).trans (if_pos hr).symm
        · rw [resolveByDefault_of_release ((Bool.not_eq_false _).mp hr) (by rw [Bool.or_true])]
          refine Eq.trans ?_ (if_neg hr).symm
          by_cases hq : b.queue.length < 8
          · rw [if_pos hq]
            exact (if_pos hq).symm
          · rw [if_neg hq]
            exact (if_neg hq).symm
      · rw [lapseSlot_of_unheld hh]
        exact (if_pos hh).symm
    refine ⟨fun f ha => ⟨fun h => ?_, fun h => ?_, fun h => ?_⟩, fun hp hw h0 => if_pos ⟨hp, hw, h0⟩,
      fun hp hw h0 => ?_, fun h => ?_, fun h => ?_⟩
    · rw [exec_heartbeat ha, beat_of_disabled (by rwa [ended_watchdog])]
      rfl
    · rw [exec_heartbeat ha, beat_of_armed (by rwa [ended_watchdog]), startWatchdog_ended]
      rfl
    · rw [exec_heartbeat ha, beat_of_lapsed (by rwa [ended_watchdog]), startWatchdog_ended]
      rfl
    · rw [← resolves, ← resolves]
      exact if_pos ⟨hp, hw, h0⟩
    · exact if_neg fun ⟨_, hw, h0⟩ => h.elim (absurd hw) (absurd h0)
    · exact if_neg fun ⟨_, hw, h0⟩ => h.elim (absurd hw) (absurd h0)

end Sys2Proof.Machine

namespace Sys2Proof.Machine

/-! ## DORMANT and WAKE (R166 to R169) -/

/-! ### DORMANT -/

/-- Nothing keeps the device from going DORMANT (R166). -/
def AtRest (s : State) : Prop :=
  s.queue = [] ∧ s.slot0.state = .empty ∧ s.slot1.state = .empty
    ∧ (s.engine = .idle ∨ s.engine = .paused ∨ s.engine = .halted)

section
variable {s : State} {f : Frame} {ps : PortState} {tx : Tx} {aWire : List Byte}

/-- The checks of R166 pass just when the device is at rest. -/
theorem dormantChecks_pass_iff : (∀ c ∈ dormantChecks s, c.1 = false) ↔ AtRest s := by
  have engine : (s.engine == .running || s.engine == .pausing || s.engine == .aborting) = false
      ↔ s.engine = .idle ∨ s.engine = .paused ∨ s.engine = .halted := by
    cases s.engine <;> decide
  simp only [dormantChecks, List.forall_mem_cons, engine]
  simp [AtRest, slotFilled, and_assoc]

theorem decided_dormant_of_rest (h : AtRest s) (p : Port) (accept : State → State) :
    decided s p (dormantChecks s) accept = accept s := by
  have pass := dormantChecks_pass_iff.mpr h
  simp only [dormantChecks, List.forall_mem_cons] at pass
  obtain ⟨queue, slots, engine, -⟩ := pass
  rw [dormantChecks, decided_pass queue, decided_pass slots, decided_pass engine, decided_nil]

/-- The code of a refusal stands in the table with a failed check. -/
theorem mem_of_firstFailure_eq_some {checks : List (Bool × RefusalCode)} {code : RefusalCode}
    (h : firstFailure checks = some code) : (true, code) ∈ checks := by
  induction checks with
  | nil => cases h
  | cons c cs ih =>
    obtain ⟨failed, code'⟩ := c
    cases failed with
    | true =>
      cases h
      exact List.mem_cons_self
    | false => exact List.mem_cons_of_mem _ (ih h)

/-- Every check of R166 that fails is refused BUSY. -/
theorem decided_dormant_of_busy (h : ¬ AtRest s) (p : Port) (accept : State → State) :
    decided s p (dormantChecks s) accept = refuse s p .busy := by
  cases hf : firstFailure (dormantChecks s) with
  | none => exact absurd (dormantChecks_pass_iff.mp (firstFailure_eq_none hf)) h
  | some code =>
    have busy : code = .busy := by
      have listed := mem_of_firstFailure_eq_some hf
      simp only [dormantChecks, List.mem_cons, List.not_mem_nil, Prod.mk.injEq, or_false] at listed
      obtain ⟨-, h⟩ | ⟨-, h⟩ | ⟨-, h⟩ := listed <;> exact h
    rw [decided, hf, busy]

theorem dormantChecks_ended (s : State) (p : Port) : dormantChecks (ended s p) = dormantChecks s := by
  obtain ⟨ps, h⟩ := ended_eq s p
  rw [h]
  cases p <;> rfl

theorem atRest_ended : AtRest (ended s .m) ↔ AtRest s := by
  rw [← dormantChecks_pass_iff, dormantChecks_ended, dormantChecks_pass_iff]

@[simp] theorem ended_m_portA (s : State) : (ended s .m).portA = s.portA := by
  obtain ⟨ps, h⟩ := ended_eq s .m
  rw [h]
  rfl

theorem exec_dormant (h : Arrives s .m .dormant f) (aWire : List Byte) :
    exec (.dormant .m f aWire) s = finish (decided (ended s .m) .m (dormantChecks (ended s .m))
      fun b => enterDormant b aWire) :=
  requestEnd_of_arrives h fun b => decided b .m (dormantChecks b) fun b => enterDormant b aWire

/-- An accepted DORMANT changes the power state, and Port A where its transaction is abandoned (R167). -/
theorem exec_dormant_of_rest (h : Arrives s .m .dormant f) (hr : AtRest s)
    (ha : abandonPortA s.portA aWire = ps) :
    exec (.dormant .m f aWire) s
      = finish { ended s .m with power := .dormant, portA := ps } := by
  rw [exec_dormant h, decided_dormant_of_rest (atRest_ended.mpr hr), enterDormant, ended_m_portA, ha]

/-- What makes an abandoned transaction count as one that carried a byte (R167, R168). -/
theorem countsAsCarried_iff : countsAsCarried tx aWire = true
    ↔ (tx.readOp ≠ none ∨ tx.wire ≠ [] ∨ aWire ≠ [])
      ∧ (tx.dormant = false ∨ aWire.head? = some 0x7B) := by
  simp only [countsAsCarried, carriedByte, hasCarried, Bool.and_eq_true, Bool.or_eq_true,
    Option.isSome_iff_ne_none, Bool.not_eq_true', List.isEmpty_eq_false_iff, or_assoc]
  exact and_congr_right' (or_congr_right decide_eq_true_iff)

theorem abandonPortA_of_unselected (h : ∀ tx, ps.sel ≠ .opened tx) : abandonPortA ps aWire = ps := by
  unfold abandonPortA
  split
  · rfl
  · rfl
  · exact absurd ‹_› (h _)

theorem abandonPortA_of_opened (h : ps.sel = .opened tx) : abandonPortA ps aWire
    = if countsAsCarried tx aWire then { ps with
        sel := .ignored, driven := none, lastRefusal := .interrupted, refusalNew := true
        latch := [], received := 0, contArmed := false, resetArmed := false }
      else { ps with sel := .ignored, driven := none } := by
  simp only [abandonPortA, abandonTx, h, settledSel]

end

/-! ### Transactions that began while the device was DORMANT -/

section
variable {s : State} {p : Port} {f : Frame} {tx : Tx}

theorem setPort_opened_self (hs : (s.port p).sel = .opened tx) :
    s.setPort p { s.port p with sel := .opened tx } = s := by
  rw [← hs]
  exact setPort_port_self s p

/-- The port is in a transaction that began while the device was DORMANT, or begins one: the same
transaction (R168; assumption 5). -/
theorem beginTransaction_asleep (hp : s.power = .dormant)
    (h : (s.port p).sel = .high ∧ tx = sampleTx (s.port p) true
      ∨ (s.port p).sel = .opened tx ∧ tx.dormant = true ∧ tx.readOp = none) :
    beginTransaction s p = s.setPort p { s.port p with sel := .opened tx }
      ∧ tx.dormant = true ∧ tx.readOp = none := by
  obtain ⟨hs, rfl⟩ | ⟨hs, hd, hr⟩ := h
  · exact ⟨beginTransaction_dormant hs hp, rfl, rfl⟩
  · exact ⟨(beginTransaction_of_opened hs).trans (setPort_opened_self hs).symm, hd, hr⟩

/-- A transaction that began while DORMANT ends in an ACTIVE device without effect (R168). -/
theorem endTransaction_of_dormantBorn (hs : (s.port p).sel = .opened tx) (hd : tx.dormant = true)
    (fits : Tx → Bool) (act : Tx → State → State) :
    endTransaction s p fits act = finish (deselect s p) := by
  simp only [endTransaction, beginTransaction_of_opened hs, hs, hd, Bool.true_or, if_true]

/-- Every row that ends a transaction, but WAKE, ends it by `endTransaction` (R10). -/
theorem exec_eq_endTransaction {i : Instr} {c : Command}
    (h : requestOf i = some (p, c, f) ∨ readOf i = some (p, c, f) ∨ i = .continuationTransaction p f
      ∨ ∃ code, i = .unknownCommand p code f) :
    ∃ fits act, exec i s = endTransaction s p fits act := by
  obtain hi | hi | rfl | ⟨code, rfl⟩ := h
  · obtain ⟨act, ha⟩ := exec_request hi
    exact ⟨_, _, ha s⟩
  · obtain ⟨act, ha⟩ := exec_read hi
    exact ⟨_, _, ha s⟩
  · simp only [exec, execContinuationTransaction]
    exact ⟨_, _, rfl⟩
  · simp only [exec, execUnknownCommand]
    exact ⟨_, _, rfl⟩

/-! ### WAKE -/

@[simp] theorem beginTransaction_power (s : State) (p : Port) :
    (beginTransaction s p).power = s.power := by
  obtain ⟨ps, h⟩ := beginTransaction_eq s p
  rw [h, State.setPort_power]

/-- A WAKE ends its transaction in a DORMANT device where that began while DORMANT, and in an ACTIVE one
always (R168, R169). -/
theorem exec_wake (hs : ((beginTransaction s p).port p).sel = .opened tx) (hf : txFits .wake tx = true)
    (hp : s.power = .active ∨ s.power = .dormant ∧ tx.dormant = true) :
    exec (.wake p f) s = finish (wakeEnd (beginTransaction s p) p tx f) := by
  have taken : (!operating (beginTransaction s p)
      || ((beginTransaction s p).power == .dormant && !tx.dormant)) = false := by
    obtain hp | ⟨hp, hd⟩ := hp
    · simp [operating, hp]
    · simp [operating, hp, hd]
  simp only [exec, execWake, hs, taken, hf, Bool.false_eq_true, if_false, if_true]

/-- A WAKE has no fields, so that a part byte alone tears it (R5, R9). -/
theorem torn_wake (f : Frame) : torn .wake f = f.part := by
  simp [torn, frameComplete, fixedLen, commandClass]

theorem wakeEnd_of_whole (h : f.part = false) :
    wakeEnd s p tx f = wakeUp (closeTransaction s p) p := by
  rw [wakeEnd, torn_wake, h]
  rfl

/-- A torn WAKE is ignored where its transaction began while DORMANT, and refused otherwise (R168). -/
theorem wakeEnd_of_torn (h : f.part = true) : wakeEnd s p tx f
    = if tx.dormant then deselect s p else refuseTorn (closeTransaction s p) p .wake := by
  rw [wakeEnd, torn_wake, h, if_pos rfl]

/-- On an ACTIVE device a WAKE empties its port's latch and has no further effect (R169). -/
theorem wakeUp_of_active (h : s.power = .active) :
    wakeUp s p = s.setPort p { s.port p with latch := [], received := 0 } := by
  rw [wakeUp, h]
  rfl

/-- The wake of a DORMANT device in one update (R106, R169). -/
theorem wakeUp_of_dormant (h : s.power = .dormant) :
    wakeUp s p = { s.setPort p { s.port p with latch := [], received := 0 } with
      power := .active
      watchdog := if s.watchdog.state = .armed then armedWatchdog s else s.watchdog
      started := if s.watchdog.state = .armed then { s.started with watchdog := true }
        else s.started } := by
  unfold wakeUp
  by_cases hw : s.watchdog.state = .armed
  · simp only [h, hw, State.setPort_watchdog, if_true, startWatchdog, armedWatchdog,
      State.setPort_activeImage, State.setPort_started]
  · simp only [h, hw, State.setPort_watchdog, if_true, if_false]
    cases p <;> rfl

/-- A live transaction is under way, or begins with the command that ends it (assumption 5). -/
theorem beginTransaction_live (h : Live s p tx) :
    ((beginTransaction s p).port p).sel = .opened tx ∧ tx.dormant = false := by
  obtain ⟨hp, ⟨hs, rfl⟩ | ⟨hs, hd⟩⟩ := h
  · rw [beginTransaction_active hs hp, port_setPort_same]
    exact ⟨rfl, rfl⟩
  · rw [beginTransaction_of_opened hs]
    exact ⟨hs, hd⟩

theorem txFits_of_unread {c : Command} (h : tx.readOp = none) : txFits c tx = true := by
  rw [txFits, h]

end

/-- Settles O56: DORMANT is decided by its three checks, and a WAKE by where its transaction began. -/
theorem dormantAndWake : Obligations.DormantAndWake := by
  unfold Obligations.DormantAndWake
  refine ⟨fun s f aWire ha => ?_, fun s p f tx => ⟨fun hp h => ?_, fun hd => ?_, fun hp hs hd => ?_⟩⟩
  · intro idle
    refine ⟨fun hb => ?_, fun hr hs => ?_, fun tx hr hs hc hw => ?_, fun tx hr hs hn => ?_⟩
    · rw [exec_dormant ha, decided_dormant_of_busy (mt atRest_ended.mp hb)]
      rfl
    · rw [exec_dormant_of_rest ha hr (abandonPortA_of_unselected hs), ← ended_m_portA s]
      rfl
    · have carried : countsAsCarried tx aWire = true := countsAsCarried_iff.mpr ⟨hc, hw⟩
      exact exec_dormant_of_rest ha hr ((abandonPortA_of_opened hs).trans (if_pos carried))
    · have null : ¬ countsAsCarried tx aWire = true := by
        rw [countsAsCarried_iff]
        obtain ⟨hr, hw, ha⟩ | ⟨hd, hh⟩ := hn
        · simp [hr, hw, ha]
        · rintro ⟨-, hc⟩
          exact hc.elim (by simp [hd]) hh
      exact exec_dormant_of_rest ha hr ((abandonPortA_of_opened hs).trans (if_neg null))
  · intro ps
    obtain ⟨hb, hd, hr⟩ := beginTransaction_asleep hp h
    have ends := exec_wake (f := f) (by rw [hb, port_setPort_same]) (txFits_of_unread hr) (.inr ⟨hp, hd⟩)
    refine ⟨fun hw => ?_, fun ht => ?_⟩
    · rw [ends, wakeEnd_of_whole hw, wakeUp_of_dormant (by simp [closeTransaction, hp]), hb]
      cases p <;> rfl
    · rw [ends, wakeEnd_of_torn ht, if_pos hd, deselect, hb, setPort_setPort, port_setPort_same]
      rfl
  · obtain ⟨hl, hf⟩ := hd
    obtain ⟨hb, hd⟩ := beginTransaction_live hl
    have ends := exec_wake (f := f) hb hf (.inl hl.1)
    refine ⟨fun hw => ?_, fun ht => ?_⟩
    · rw [ends, wakeEnd_of_whole hw, wakeUp_of_active (by simp [closeTransaction, hl.1])]
      rfl
    · rw [ends, wakeEnd_of_torn ht, hd]
      rfl
  · have ends (hr : tx.readOp = none) : exec (.wake p f) s = finish (wakeEnd s p tx f) := by
      have hb := beginTransaction_of_opened hs
      have hw := exec_wake (f := f) (hb.symm ▸ hs) (txFits_of_unread hr) (.inl hp)
      rwa [hb] at hw
    refine ⟨fun i c hi => ?_, fun ht hr => ?_, fun hw hr => ?_⟩
    · obtain ⟨fits, act, he⟩ := exec_eq_endTransaction hi
      exact he.trans (endTransaction_of_dormantBorn hs hd fits act)
    · rw [ends hr, wakeEnd_of_torn ht, if_pos hd]
      rfl
    · rw [ends hr, wakeEnd_of_whole hw, wakeUp_of_active (by simp [closeTransaction, hp]), closeTransaction,
        setPort_setPort, port_setPort_same]
      rfl

end Sys2Proof.Machine

namespace Sys2Proof.Machine

set_option Elab.async false

/-! ## The controls of the job engine (R112, R116 to R118, R120) -/

section
variable (s : State) (p : Port)

@[simp] theorem ended_engine : (ended s p).engine = s.engine := by
  obtain ⟨ps, h⟩ := ended_eq s p
  rw [h, State.setPort_engine]
@[simp] theorem ended_jobs : (ended s p).jobs = s.jobs := by
  obtain ⟨ps, h⟩ := ended_eq s p
  rw [h, State.setPort_jobs]
@[simp] theorem ended_pool : (ended s p).pool = s.pool := by
  obtain ⟨ps, h⟩ := ended_eq s p
  rw [h, State.setPort_pool]
@[simp] theorem ended_crc : (ended s p).crc = s.crc := by
  obtain ⟨ps, h⟩ := ended_eq s p
  rw [h, State.setPort_crc]
@[simp] theorem currentJob_ended : currentJob (ended s p) = currentJob s := by
  obtain ⟨ps, h⟩ := ended_eq s p
  rw [h, currentJob_setPort]
@[simp] theorem nextLoaded_ended : nextLoaded (ended s p) = nextLoaded s := by
  obtain ⟨ps, h⟩ := ended_eq s p
  rw [h, nextLoaded_setPort]
@[simp] theorem stepsOutstanding_ended : stepsOutstanding (ended s p) = stepsOutstanding s := by
  rw [stepsOutstanding, ended_queue, stepsOutstanding]

end

/-! ### The descriptor that begins (R112, R116, R129) -/

section
variable {t : State} {n : Nat} {d : Descriptor}

theorem currentJob_eq_some : currentJob t = some d ↔ ∃ n, t.current = some n ∧ t.jobs[n]? = some d :=
  Option.bind_eq_some_iff

theorem nextLoaded_eq_none : nextLoaded t = none ↔ ∀ d ∈ t.jobs, d.state ≠ .loaded := by
  simp [nextLoaded, List.findIdx?_eq_none_iff]

/-- The next descriptor is the LOADED one of lowest index (R112). -/
theorem nextLoaded_eq_some : nextLoaded t = some n ↔ (∃ d, t.jobs[n]? = some d ∧ d.state = .loaded)
    ∧ ∀ m d, m < n → t.jobs[m]? = some d → d.state ≠ .loaded := by
  rw [nextLoaded, List.findIdx?_eq_some_iff_getElem]
  constructor
  · rintro ⟨hn, hl, hlow⟩
    refine ⟨⟨t.jobs[n], List.getElem?_eq_getElem hn, by simpa using hl⟩, fun m d hm hd => ?_⟩
    obtain ⟨_, rfl⟩ := List.getElem?_eq_some_iff.mp hd
    simpa using hlow m hm
  · rintro ⟨⟨d, hd, hl⟩, hlow⟩
    obtain ⟨hn, rfl⟩ := List.getElem?_eq_some_iff.mp hd
    refine ⟨hn, by simpa using hl, fun m hm => ?_⟩
    simpa using hlow m _ hm (List.getElem?_eq_getElem (hm.trans hn))

theorem beginJob_eq (hj : t.jobs[n]? = some d) : beginJob t n = { t with
    jobs := t.jobs.set n { d with state := .running }, current := some n, cursor := ⟨0, false⟩
    crc := if d.kind = .digest then d.seed else t.crc } := by
  rw [beginJob, hj]

theorem startNext_of_loaded {p : Port} (hn : nextLoaded t = some n) (hj : t.jobs[n]? = some d) :
    startNext t p = { t with
      engine := .running, jobAttn := false, current := some n
      jobs := t.jobs.set n { d with state := .running }, cursor := ⟨0, false⟩
      crc := if d.kind = .digest then d.seed else t.crc } := by
  rw [startNext, hn]
  exact beginJob_eq hj

theorem startNext_of_none {p : Port} (hn : nextLoaded t = none) :
    startNext t p = refuse t p .jobState := by
  rw [startNext, hn]

end

/-! ### The controls by the state of the engine (R116 to R118, R120) -/

section
variable {s : State} {f : Frame}

theorem exec_jobStart_of_stopped (h : Arrives s .m .jobStart f)
    (he : s.engine = .idle ∨ s.engine = .halted ∨ s.engine = .paused ∧ currentJob s = none) :
    exec (.jobStart .m f) s = finish (startNext (ended s .m) .m) := by
  simp only [exec, execJobStart]
  rw [requestEnd_of_arrives h, ended_engine]
  obtain he | he | ⟨he, hj⟩ := he
  · rw [he]
  · rw [he]
  · rw [he, currentJob_ended, hj]
    rfl

theorem exec_jobStart_of_resumed (h : Arrives s .m .jobStart f) (he : s.engine = .paused)
    (hj : currentJob s ≠ none) : exec (.jobStart .m f) s
      = finish { ended s .m with engine := .running, jobAttn := false } := by
  simp only [exec, execJobStart]
  rw [requestEnd_of_arrives h, ended_engine, he, currentJob_ended]
  dsimp only
  rw [if_pos (Option.isSome_iff_ne_none.mpr hj)]

theorem exec_jobStart_of_busy (h : Arrives s .m .jobStart f)
    (he : s.engine = .running ∨ s.engine = .pausing ∨ s.engine = .aborting) :
    exec (.jobStart .m f) s = finish (refuse (ended s .m) .m .jobState) := by
  simp only [exec, execJobStart]
  rw [requestEnd_of_arrives h, ended_engine]
  obtain he | he | he := he <;> rw [he]

theorem exec_jobPause (h : Arrives s .m .jobPause f) : exec (.jobPause .m f) s = finish
    (if s.engine = .running then drainCheck { ended s .m with engine := .pausing, jobAttn := false }
     else refuse (ended s .m) .m .jobState) := by
  simp only [exec, execJobPause]
  rw [requestEnd_of_arrives h, ended_engine]

theorem exec_jobAbort_of_going (h : Arrives s .m .jobAbort f) (hi : s.engine ≠ .idle)
    (ha : s.engine ≠ .aborting) : exec (.jobAbort .m f) s = finish (drainCheck (fillFromMailbox
      (removeEntries { ended s .m with engine := .aborting, jobAttn := false } (waitingOf .job)))) := by
  simp only [exec, execJobAbort]
  rw [requestEnd_of_arrives h, ended_engine]
  cases he : s.engine with
  | idle => exact absurd he hi
  | aborting => exact absurd he ha
  | running | pausing | paused | halted => rfl

theorem exec_jobAbort_of_not_going (h : Arrives s .m .jobAbort f)
    (he : s.engine = .idle ∨ s.engine = .aborting) :
    exec (.jobAbort .m f) s = finish (refuse (ended s .m) .m .jobState) := by
  simp only [exec, execJobAbort]
  rw [requestEnd_of_arrives h, ended_engine]
  obtain he | he := he <;> rw [he]

theorem exec_jobClear_of_stopped (h : Arrives s .m .jobClear f)
    (he : s.engine = .idle ∨ s.engine = .halted) : exec (.jobClear .m f) s = finish { ended s .m with
      jobs := [], current := none, engine := .idle, jobAttn := false } := by
  simp only [exec, execJobClear]
  rw [requestEnd_of_arrives h, ended_engine]
  obtain he | he := he <;> rw [he]

theorem exec_jobClear_of_busy (h : Arrives s .m .jobClear f) (hi : s.engine ≠ .idle)
    (hh : s.engine ≠ .halted) : exec (.jobClear .m f) s = finish (refuse (ended s .m) .m .busy) := by
  simp only [exec, execJobClear]
  rw [requestEnd_of_arrives h, ended_engine]
  cases he : s.engine with
  | idle => exact absurd he hi
  | halted => exact absurd he hh
  | running | pausing | paused | aborting => rfl

/-! ### An abort (R118) -/

/-- The mailbox holds Port A's requests, so that what it puts into the queue is no job step (R100). -/
theorem stepsOutstanding_queueAfter (q : List Entry) (sl : MailSlot) :
    (queueAfter q sl).countP (ownedLive .job) = q.countP (ownedLive .job) := by
  unfold queueAfter
  split
  · rw [List.countP_append]
    rfl
  · rfl

theorem stepsOutstanding_fillFromMailbox (t : State) :
    stepsOutstanding (fillFromMailbox t) = stepsOutstanding t := by
  rw [stepsOutstanding, fillFromMailbox_eq]
  exact (stepsOutstanding_queueAfter ..).trans (stepsOutstanding_queueAfter ..)

/-- Once the WAITING steps are withdrawn, those that have begun are left. -/
theorem countP_job_withdrawn (q : List Entry) :
    (q.filter fun e => !waitingOf .job e).countP (ownedLive .job)
      = q.countP fun e => e.origin == .job && !e.orphan && e.state != .waiting := by
  rw [List.countP_filter]
  refine List.countP_congr fun e _ => ?_
  cases hl : ownedLive .job e <;> simp_all [waitingOf, isWaiting, ownedLive]

/-- The WAITING job steps leave with their buffers (R118). -/
theorem removeEntries_job_ended (s : State) :
    removeEntries { ended s .m with engine := .aborting, jobAttn := false } (waitingOf .job)
      = { ended s .m with
          engine := .aborting, jobAttn := false
          queue := s.queue.filter fun e => !waitingOf .job e
          pool := poolWithout s (s.queue.filter (waitingOf .job)) } := by
  have pool (gone : List Entry) :
      poolWithout { ended s .m with engine := .aborting, jobAttn := false } gone = poolWithout s gone :=
    poolWithout_of_pool (ended_pool s .m) gone
  rw [removeEntries_eq, pool, ← ended_queue s .m]

/-- The end of an abort, in one update (R118). -/
theorem endAbort_fillFromMailbox (t : State) : endAbort (fillFromMailbox t) = { fillFromMailbox t with
    engine := .idle, current := none, jobAttn := true
    jobs := t.jobs.map fun d => if d.state = .running ∨ d.state = .loaded then
      { d with state := .cancelled } else d } := by
  rw [fillFromMailbox_eq]
  rfl

end

/-- Settles O42: each control by the state of the engine, an abort by the job steps that have begun. -/
theorem jobControlsAndClear : Obligations.JobControlsAndClear := by
  unfold Obligations.JobControlsAndClear
  refine ⟨fun s f => ?_, fun s f h => ⟨exec_jobClear_of_stopped h, exec_jobClear_of_busy h⟩,
    fun s => ⟨fun _ => currentJob_eq_some, nextLoaded_eq_none, fun _ => nextLoaded_eq_some,
      fun _ _ => beginJob_eq⟩⟩
  intro b
  have pauses (h : Arrives s .m .jobPause f) (he : s.engine = .running) {t : State}
      (ht : drainCheck { b with engine := .pausing, jobAttn := false } = t) :
      exec (.jobPause .m f) s = .next (driveIrq t) :=
    (exec_jobPause h).trans (congrArg finish ((if_pos he).trans ht))
  refine ⟨fun n d h he hn hj => ?_, fun h he hj => exec_jobStart_of_resumed h he hj, fun h he => ?_,
    fun h he hs => ?_, fun d h he hs hj hd => ?_, fun h he => ?_, fun h hi ha => ?_,
    fun h he => exec_jobAbort_of_not_going h he⟩
  · rw [exec_jobStart_of_stopped h he, startNext_of_loaded (d := d) ((nextLoaded_ended s .m).trans hn)
      (by rwa [ended_jobs]), ended_jobs, ended_crc]
    rfl
  · obtain he | he | he | ⟨he, hn⟩ := he
    · exact exec_jobStart_of_busy h (.inl he)
    · exact exec_jobStart_of_busy h (.inr (.inl he))
    · exact exec_jobStart_of_busy h (.inr (.inr he))
    · rw [exec_jobStart_of_stopped h (by tauto), startNext_of_none ((nextLoaded_ended s .m).trans hn)]
      rfl
  · exact pauses h he (drainCheck_of_outstanding ((stepsOutstanding_ended s .m).trans_ne hs))
  · have current := (currentJob_ended s .m).trans hj
    have sound (d' : Descriptor) (h' : currentJob b = some d') : d'.state ≠ .faulted := by
      cases current.symm.trans h'
      simp [hd]
    exact pauses h he (drainCheck_of_pausing ((stepsOutstanding_ended s .m).trans hs) rfl sound
      (.inl (Option.ne_none_iff_exists'.mpr ⟨d, current⟩)))
  · rw [exec_jobPause h, if_neg he]
    rfl
  · intro withdrawn begun c
    have aborts : exec (.jobAbort .m f) s = finish (drainCheck c) := by
      rw [exec_jobAbort_of_going h hi ha, removeEntries_job_ended]
      rfl
    have left : stepsOutstanding c = begun :=
      (stepsOutstanding_fillFromMailbox _).trans (countP_job_withdrawn s.queue)
    have aborting : c.engine = .aborting := by
      simp only [c, fillFromMailbox_eq]
    refine ⟨fun hb => ?_, fun hb => ?_⟩
    · rw [aborts, drainCheck_of_outstanding (left.trans_ne hb)]
      rfl
    · rw [aborts, drainCheck_of_aborting (left.trans hb) aborting, endAbort_fillFromMailbox, ← ended_jobs s .m]
      rfl

end Sys2Proof.Machine

namespace Sys2Proof.Machine

set_option Elab.async false

/-! ## JOB_LOAD (R112 to R114) -/

/-! ### The options of a descriptor (chapter 7.2, R114) -/

section
variable {os : List JobOption}

/-- The options that each kind of job allows, with their values in range (R114). -/
def OptionsAllowed (os : List JobOption) : JobKind → Prop
  | .copy => ∀ o ∈ os, o = .preErase
  | .fill => ∀ o ∈ os, o = .preErase ∨ ∃ v, o = .fillValue v
  | .eraseRange => os = []
  | .verify => ∀ o ∈ os, o = .mismatchPolicy 0 ∨ o = .mismatchPolicy 1
  | .digest => ∀ o ∈ os, ∃ v, o = .digestSeed v

theorem toNat_le_one {v : Byte} : v.toNat ≤ 1 ↔ v = 0 ∨ v = 1 := by
  constructor
  · intro h
    obtain rfl | rfl | rfl := toNat_le_two (h.trans (by omega))
    · exact .inl rfl
    · exact .inr rfl
    · exact absurd h (by decide)
  · rintro (rfl | rfl) <;> decide

theorem optionsAllowed_iff (k : JobKind) : os.all (optionAllowed k) = true ↔ OptionsAllowed os k := by
  rw [List.all_eq_true]
  cases k with
  | copy | fill | digest =>
    refine forall₂_congr fun o _ => ?_
    cases o <;> simp [optionAllowed]
  | eraseRange =>
    have none (o : JobOption) : optionAllowed .eraseRange o = false := by cases o <;> rfl
    simp [OptionsAllowed, none, List.eq_nil_iff_forall_not_mem]
  | verify =>
    refine forall₂_congr fun o _ => ?_
    cases o <;> simp [optionAllowed, toNat_le_one]

theorem hasPreErase_iff : hasPreErase os = true ↔ .preErase ∈ os := List.contains_iff_mem

theorem stopOf_iff : stopOf os = true ↔ .mismatchPolicy 1 ∈ os := List.contains_iff_mem

/-- Of options of different types, the one of a type is what a search for its value finds. -/
theorem findSome?_option {α : Type} {f : JobOption → Option α} {o : JobOption} {v : α}
    (hu : (os.map optionType).Nodup) (ho : o ∈ os) (hv : f o = some v)
    (hf : ∀ o', f o' ≠ none → optionType o' = optionType o) : os.findSome? f = some v := by
  cases hs : os.findSome? f with
  | none => simp [List.findSome?_eq_none_iff.mp hs o ho] at hv
  | some w =>
    obtain ⟨o', ho', hw⟩ := List.exists_of_findSome?_eq_some hs
    obtain rfl := List.inj_on_of_nodup_map hu ho' ho (hf o' (by simp [hw]))
    exact hw.symm.trans hv

theorem fillOf_of_mem {v : Byte} (hu : (os.map optionType).Nodup) (h : .fillValue v ∈ os) :
    fillOf os = v := by
  rw [fillOf, findSome?_option hu h ?_ fun o' ho' => ?_]
  · rfl
  · rfl
  · cases o' with
    | fillValue => rfl
    | _ => exact absurd rfl ho'

theorem fillOf_of_not_mem (h : ∀ v, .fillValue v ∉ os) : fillOf os = 0 := by
  rw [fillOf, List.findSome?_eq_none_iff.mpr]
  · rfl
  · intro o ho
    cases o with
    | fillValue v => exact absurd ho (h v)
    | _ => rfl

theorem seedOf_of_mem {v : Word} (hu : (os.map optionType).Nodup) (h : .digestSeed v ∈ os) :
    seedOf os = v := by
  rw [seedOf, findSome?_option hu h ?_ fun o' ho' => ?_]
  · rfl
  · rfl
  · cases o' with
    | digestSeed => rfl
    | _ => exact absurd rfl ho'

theorem seedOf_of_not_mem (h : ∀ v, .digestSeed v ∉ os) : seedOf os = 0xFFFFFFFF := by
  rw [seedOf, List.findSome?_eq_none_iff.mpr]
  · rfl
  · intro o ho
    cases o with
    | digestSeed v => exact absurd ho (h v)
    | _ => rfl

/-! ### The ranges of a descriptor (R114) -/

/-- Two ranges of one length share no address (R114). -/
def Apart (src dst len : Nat) : Prop := src + len ≤ dst ∨ dst + len ≤ src

/-- A destination of whole pages, and of whole sectors where PRE_ERASE is given (R114). -/
def Paged (os : List JobOption) (dst len : Nat) : Prop :=
  dst % 256 = 0 ∧ len % 256 = 0 ∧ (.preErase ∈ os → dst % 4096 = 0 ∧ len % 4096 = 0)

/-- The ranges that each kind of job takes, a length of 0 apart (R114). -/
def RangesAllowed (os : List JobOption) (src dst len : Nat) : JobKind → Prop
  | .copy => src + len ≤ 0x2000000 ∧ dst + len ≤ 0x2000000 ∧ src % 256 = 0 ∧ Paged os dst len
      ∧ Apart src dst len
  | .fill => src = 0 ∧ dst + len ≤ 0x2000000 ∧ Paged os dst len
  | .eraseRange => src = 0 ∧ dst + len ≤ 0x2000000 ∧ dst % 4096 = 0 ∧ len % 4096 = 0
  | .verify => src + len ≤ 0x2000000 ∧ dst + len ≤ 0x2000000 ∧ Apart src dst len
  | .digest => dst = 0 ∧ src + len ≤ 0x2000000

variable {src dst len : Nat}

theorem aligned_iff {n a : Nat} : aligned n a = true ↔ a % n = 0 := beq_iff_eq

theorem inArray_iff {a : Nat} : inArray a len = true ↔ a + len ≤ 0x2000000 := decide_eq_true_iff

theorem apart_iff : rangesMeet src len dst len = false ↔ Apart src dst len := by
  rw [rangesMeet, decide_eq_false_iff_not, Apart]
  omega

theorem paged_iff : (aligned 256 dst = true ∧ aligned 256 len = true
    ∧ (!hasPreErase os || (aligned 4096 dst && aligned 4096 len)) = true) ↔ Paged os dst len := by
  simp only [Paged, aligned_iff, Bool.or_eq_true, Bool.not_eq_true', Bool.and_eq_true, ← hasPreErase_iff]
  cases hasPreErase os <;> simp

theorem rangesOk_iff (k : JobKind) :
    rangesOk k os src dst len = true ↔ len ≠ 0 ∧ RangesAllowed os src dst len k := by
  by_cases hl : len = 0
  · cases k <;> simp [rangesOk, hl]
  · cases k <;> simp only [rangesOk, RangesAllowed, ← paged_iff, ← apart_iff, Bool.and_eq_true, inArray_iff,
      aligned_iff, beq_iff_eq, bne_iff_ne, Bool.not_eq_true', ne_eq, hl, not_false_eq_true, and_true, true_and,
      and_assoc]

/-! ### The descriptor (R112 to R114) -/

theorem descriptorOk_iff {k : JobKind} {count : Nat} : descriptorOk k count os src dst len = true
    ↔ count ≤ 4 ∧ (os.map optionType).Nodup ∧ len ≠ 0
      ∧ OptionsAllowed os k ∧ RangesAllowed os src dst len k := by
  simp only [descriptorOk, Bool.and_eq_true, decide_eq_true_iff, optionsAllowed_iff, rangesOk_iff]
  tauto

theorem jobKindOf_eq_some {b : Byte} {k : JobKind} :
    jobKindOf b = some k ↔ b.toNat = (jobKindCode k).toNat := by
  rw [BitVec.toNat_inj]
  constructor
  · unfold jobKindOf
    intro h
    repeat' split at h
    all_goals cases h
    all_goals assumption
  · rintro rfl
    cases k <;> rfl

theorem loadedDescriptor_eq_some {id : Byte} {bs : List Byte} {d : Descriptor} :
    loadedDescriptor id bs = some d ↔ ∃ k os, jobKindOf (byteAt bs 0) = some k ∧ jobOptionsOf bs = some os
      ∧ descriptorOk k (byteAt bs 13).toNat os (be32 bs 1).toNat (be32 bs 5).toNat (be32 bs 9).toNat = true
      ∧ newDescriptor id k os (be32 bs 1).toNat (be32 bs 5).toNat (be32 bs 9).toNat = d := by
  unfold loadedDescriptor
  cases jobKindOf (byteAt bs 0) with
  | none => simp
  | some k =>
    cases jobOptionsOf bs with
    | none => simp
    | some os => simp [Option.ite_none_right_eq_some]

theorem exists_jobKind {P : JobKind → Prop} :
    (∃ k, P k) ↔ P .copy ∨ P .fill ∨ P .eraseRange ∨ P .verify ∨ P .digest := by
  constructor
  · rintro ⟨k, h⟩
    cases k <;> simp [h]
  · rintro (h | h | h | h | h) <;> exact ⟨_, h⟩

/-- A frame describes a job where the kind that it names takes its options and ranges (R114). -/
theorem loadedDescriptor_ne_none {id : Byte} {bs : List Byte} (ho : jobOptionsOf bs = some os) :
    loadedDescriptor id bs ≠ none ↔ (byteAt bs 13).toNat ≤ 4 ∧ (os.map optionType).Nodup
      ∧ (be32 bs 9).toNat ≠ 0 ∧ ∃ k, (byteAt bs 0).toNat = (jobKindCode k).toNat ∧ OptionsAllowed os k
        ∧ RangesAllowed os (be32 bs 1).toNat (be32 bs 5).toNat (be32 bs 9).toNat k := by
  simp only [Option.ne_none_iff_exists', loadedDescriptor_eq_some, ho, Option.some.injEq, jobKindOf_eq_some,
    descriptorOk_iff]
  constructor
  · rintro ⟨_, k, _, hk, rfl, ⟨hcount, hu, hl, hopts, hranges⟩, -⟩
    exact ⟨hcount, hu, hl, k, hk, hopts, hranges⟩
  · rintro ⟨hcount, hu, hl, k, hk, hopts, hranges⟩
    exact ⟨_, k, os, hk, rfl, ⟨hcount, hu, hl, hopts, hranges⟩, rfl⟩

end

/-! ### The decision (R113) -/

section
variable {s : State} {f : Frame}

@[simp] theorem ended_jobIdNext (s : State) (p : Port) : (ended s p).jobIdNext = s.jobIdNext := by
  obtain ⟨ps, h⟩ := ended_eq s p
  rw [h, State.setPort_jobIdNext]

theorem exec_jobLoad_of_aborting (h : Arrives s .m .jobLoad f) (he : s.engine = .aborting) :
    exec (.jobLoad .m f) s = finish (refuse (ended s .m) .m .jobState) := by
  simp only [exec, execJobLoad]
  rw [requestEnd_of_arrives h, if_pos ((ended_engine s .m).trans he)]

theorem exec_jobLoad_of_none (h : Arrives s .m .jobLoad f) (he : s.engine ≠ .aborting)
    (hd : loadedDescriptor s.jobIdNext f.bytes = none) :
    exec (.jobLoad .m f) s = finish (refuse (ended s .m) .m .badArgument) := by
  simp only [exec, execJobLoad]
  rw [requestEnd_of_arrives h, if_neg ((ended_engine s .m).trans_ne he), ended_jobIdNext, hd]

theorem exec_jobLoad_of_some (h : Arrives s .m .jobLoad f) (he : s.engine ≠ .aborting) {d : Descriptor}
    (hd : loadedDescriptor s.jobIdNext f.bytes = some d) : exec (.jobLoad .m f) s = finish
      (if Config.jobListDepth ≤ s.jobs.length then refuse (ended s .m) .m .jobListFull
       else { ended s .m with jobs := s.jobs ++ [d], jobIdNext := nextTag s.jobIdNext }) := by
  simp only [exec, execJobLoad]
  rw [requestEnd_of_arrives h, if_neg ((ended_engine s .m).trans_ne he), ended_jobIdNext, hd]
  dsimp only
  by_cases hl : Config.jobListDepth ≤ s.jobs.length
  · rw [if_pos hl, ended_jobs, decided_fail (decide_eq_true hl)]
  · rw [if_neg hl, ended_jobs, decided_pass (decide_eq_false hl), decided_nil, ended_jobs, ended_jobIdNext]

end

/-- Settles O41: a frame describes a job where a kind takes its options and ranges, and the list has room. -/
theorem jobLoad : Obligations.JobLoad := by
  unfold Obligations.JobLoad
  refine ⟨fun id bs os ho => ?_, fun s f h => ⟨exec_jobLoad_of_aborting h, exec_jobLoad_of_none h,
    fun d he hd => ?_⟩⟩
  · intro kind src dst len paged apart
    refine ⟨(loadedDescriptor_ne_none ho).trans ?_, fun d hd => ?_⟩
    · rw [exists_jobKind]
      exact Iff.rfl
    · obtain ⟨k, os', hk, ho', hok, rfl⟩ := loadedDescriptor_eq_some.mp hd
      cases ho.symm.trans ho'
      obtain ⟨-, hu, -⟩ := descriptorOk_iff.mp hok
      exact ⟨rfl, rfl, (jobKindOf_eq_some.mp hk).symm, rfl, rfl, rfl, rfl, rfl, rfl, rfl, rfl,
        hasPreErase_iff, stopOf_iff, fun _ => fillOf_of_mem hu, fun _ => seedOf_of_mem hu,
        fillOf_of_not_mem, seedOf_of_not_mem⟩
  · obtain ⟨k, os, -, -, -, rfl⟩ := loadedDescriptor_eq_some.mp hd
    rw [exec_jobLoad_of_some h he hd]
    exact ⟨rfl, rfl, fun hl => congrArg finish (if_neg (Nat.not_le.mpr hl)),
      fun hl => congrArg finish (if_pos hl)⟩

end Sys2Proof.Machine

namespace Sys2Proof.Machine

set_option Elab.async false

/-! ## Job steps: when one is issued, and in which order (R121 to R123, R126, R130) -/

/-! ### The fault of the current descriptor (R130) -/

section
variable {s : State} {n : Nat} {d : Descriptor}

theorem faultJob_eq (hc : s.current = some n) (hd : d.state ≠ .faulted) (code : JobFault) (a : Nat) :
    faultJob s d code a = logEvent
      { s with jobs := s.jobs.set n { d with state := .faulted, fault := some (code, a) } }
      .jobFault 3 d.id (jobFaultCode code) (addressWord a) := by
  rw [faultJob, if_neg hd, setCurrentJob_eq hc]

/-- What a fault of the RUNNING descriptor in place `n` leaves: nothing is issued, and the engine is HALTED at
once where no step is outstanding (R130). -/
structure Faulted (s t : State) (n : Nat) (d : Descriptor) (code : JobFault) (a : Nat) : Prop where
  jobs : t.jobs = s.jobs.set n { d with state := .faulted, fault := some (code, a) }
  queue : t.queue = s.queue
  pool : t.pool = s.pool
  log : t.log = (logEvent s .jobFault 3 d.id (jobFaultCode code) (addressWord a)).log
  halted : stepsOutstanding s = 0 → t.engine = .halted ∧ t.jobAttn = true
  running : stepsOutstanding s ≠ 0 → t.engine = .running ∧ t.jobAttn = s.jobAttn

/-- The descriptor faults as `d`, which may hold the results of the chunk that it faulted in (R128). -/
theorem faulted_drainCheck (he : s.engine = .running) (hc : s.current = some n) (hn : n < s.jobs.length)
    (hd : d.state ≠ .faulted) (code : JobFault) (a : Nat) :
    Faulted s (driveIrq (drainCheck (faultJob s d code a))) n d code a := by
  rw [faultJob_eq hc hd]
  set new : Descriptor := { d with state := .faulted, fault := some (code, a) }
  set u : State := logEvent { s with jobs := s.jobs.set n new } .jobFault 3 d.id (jobFaultCode code)
    (addressWord a) with hu
  have left : stepsOutstanding u = stepsOutstanding s := by
    rw [stepsOutstanding, hu, logEvent_queue, stepsOutstanding]
  have engine : u.engine = .running := (logEvent_engine ..).trans he
  have log : u.log = (logEvent s .jobFault 3 d.id (jobFaultCode code) (addressWord a)).log :=
    log_logEvent_congr (s := { s with jobs := s.jobs.set n new }) (t := s) rfl rfl ..
  have jobs : u.jobs = s.jobs.set n new := logEvent_jobs ..
  have current : currentJob u = some new :=
    currentJob_eq ((logEvent_current ..).trans hc) (by rw [jobs, List.getElem?_set_self hn])
  by_cases h0 : stepsOutstanding s = 0
  · rw [drainCheck_of_faulted (left.trans h0) (.inl engine) current rfl]
    exact ⟨jobs, logEvent_queue .., logEvent_pool .., log, fun _ => ⟨rfl, rfl⟩, fun h => absurd h0 h⟩
  · rw [drainCheck_of_outstanding (left.trans_ne h0)]
    exact ⟨jobs, logEvent_queue .., logEvent_pool .., log, fun h => absurd h h0,
      fun _ => ⟨engine, logEvent_jobAttn ..⟩⟩

end

/-! ### The decision on a step (R122, R123) -/

section
variable {s : State} {n : Nat} {d : Descriptor} {k : Kind} {a : Nat}

theorem workingJob_eq (he : s.engine = .running) (hc : s.current = some n) (hj : s.jobs[n]? = some d)
    (hd : d.state = .running) : workingJob s = some d := by
  simp [workingJob, he, currentJob_eq hc hj, hd]

theorem exec_jobStepIssue (hp : s.power = .active) (hw : workingJob s = some d)
    (hs : stepAt d s.cursor = some (k, a)) : exec .jobStepIssue s = finish (tryStep s d k a) := by
  simp only [exec, execJobStepIssue]
  rw [if_pos hp, hw]
  dsimp only
  rw [hs]

theorem tryStep_of_unready (hr : stepReady s d k = false) : tryStep s d k a = s :=
  if_neg (Bool.eq_false_iff.mp hr)

theorem tryStep_of_refused (hr : stepReady s d k = true) {code : RefusalCode}
    (hm : portMWriteRefusal s a = some code) :
    tryStep s d k a = drainCheck (faultJob s d (rightsFault code) a) := by
  rw [tryStep, if_pos hr, hm]

theorem tryStep_of_permitted (hr : stepReady s d k = true) (hm : portMWriteRefusal s a = none) :
    tryStep s d k a = issueStep s d k a := by
  rw [tryStep, if_pos hr, hm]

/-- A step joins the queue in one update (R123). -/
theorem issueStep_eq (s : State) (d : Descriptor) (k : Kind) (a : Nat) : issueStep s d k a = { s with
    pool := if k = .pageProgram then (takeFree s .job (stepData s d s.cursor)).pool else s.pool
    queue := s.queue ++ [newEntry d.id .job k (granule k a) (bufferChoice s k) false false]
    cursor := cursorAfter d s.cursor k } := by
  rw [issueStep]
  by_cases hk : k = .pageProgram
  · rw [if_pos hk, if_pos hk, takeFree_eq]
    rfl
  · rw [if_neg hk, if_neg hk]
    rfl

theorem jobFaultCode_rightsFault (code : RefusalCode) :
    jobFaultCode (rightsFault code) = if code = .guarded then 4 else 1 := by
  by_cases hc : code = .guarded <;> simp [rightsFault, hc, jobFaultCode]

/-- A page is readable outside the busy bank and the suspended range (R126). -/
theorem pageReadable_iff : pageReadable s a = true
    ↔ bankBusyAt s a = false ∧ meetsSuspended s (a - a % 256) 256 = false := by
  simp only [pageReadable, Bool.and_eq_true, Bool.not_eq_true', granuleBase, granuleBytes, Config.pageBytes]

theorem stepsOutstanding_eq (s : State) :
    stepsOutstanding s = s.queue.countP fun e => e.origin = .job ∧ e.orphan = false :=
  List.countP_congr fun e _ => by simp [ownedLive]

/-- The five conditions of R122, one by one. -/
theorem stepReady_iff : stepReady s d k = true ↔ s.queue.length < 8
    ∧ (s.queue.countP fun e => e.origin = .job ∧ e.orphan = false) < 2
    ∧ (∀ e ∈ s.queue, e.kind = .commit ∨ e.kind = .guardFuse → e.state = .suspended)
    ∧ (k = .pageProgram → (∃ i : Fin 6, s.pool[i] = none)
      ∧ ((List.finRange 6).countP fun i => s.pool[i].any fun b => b.origin = .job) < 2)
    ∧ (k = .pageProgram → d.kind = .copy → bankBusyAt s (d.source + s.cursor.pos) = false
      ∧ meetsSuspended s (d.source + s.cursor.pos - (d.source + s.cursor.pos) % 256) 256 = false) := by
  have barrier : barrierPending s = false
      ↔ ∀ e ∈ s.queue, e.kind = .commit ∨ e.kind = .guardFuse → e.state = .suspended := by
    rw [← Bool.not_eq_true, barrierPending_iff]
    push Not
    rfl
  have buffer : bufferShort s .job = false ↔ (∃ i : Fin 6, s.pool[i] = none)
      ∧ ((List.finRange 6).countP fun i => s.pool[i].any fun b => b.origin = .job) < 2 := by
    rw [← Bool.not_eq_true, bufferShort_iff]
    push Not
    rfl
  have window : stepsOutstanding s < Config.jobWindow
      ↔ (s.queue.countP fun e => e.origin = .job ∧ e.orphan = false) < 2 := by
    rw [stepsOutstanding_eq]
    rfl
  simp only [stepReady, Bool.and_eq_true, Bool.or_eq_true, Bool.not_eq_true', decide_eq_true_eq,
    queueFull_eq_false, window, barrier, buffer, pageReadable_iff, bne_iff_ne, Bool.and_eq_false_iff,
    beq_eq_false_iff_ne, and_assoc, ← imp_iff_not_or, ne_eq]
  tauto

end

/-! ### The steps of a job in their order (R121) -/

section
variable {d : Descriptor} {c : Cursor}

theorem stepAt_of_end (h : d.length ≤ c.pos) : stepAt d c = none := if_pos h

theorem stepAt_of_reading (hk : d.kind = .verify ∨ d.kind = .digest) : stepAt d c = none := by
  obtain hk | hk := hk <;> simp [stepAt, hk]

theorem stepAt_page (hk : d.kind = .copy ∨ d.kind = .fill) (hl : c.pos < d.length)
    (he : d.preErase = false ∨ c.erased = true ∨ c.pos % 4096 ≠ 0) :
    stepAt d c = some (.pageProgram, d.dest + c.pos) := by
  have noErase : (d.preErase && aligned 4096 c.pos && !c.erased) = false := by
    obtain he | he | he := he <;> simp [aligned, he]
  obtain hk | hk := hk <;> simp [stepAt, hk, Nat.not_le.mpr hl, noErase]

theorem stepAt_erase (hk : d.kind = .copy ∨ d.kind = .fill) (hl : c.pos < d.length)
    (hp : d.preErase = true) (hc : c.pos % 4096 = 0) (he : c.erased = false) :
    stepAt d c = some (.sectorErase, d.dest + c.pos) := by
  obtain hk | hk := hk <;> simp [stepAt, hk, Nat.not_le.mpr hl, aligned, hp, hc, he]

theorem stepAt_range (hk : d.kind = .eraseRange) (hl : c.pos < d.length) : stepAt d c
    = if (d.dest + c.pos) % 65536 = 0 ∧ 65536 ≤ d.length - c.pos then some (.blockErase, d.dest + c.pos)
      else some (.sectorErase, d.dest + c.pos) := by
  rw [stepAt, if_neg (Nat.not_le.mpr hl), hk]
  refine if_congr ?_ rfl rfl
  rw [Bool.and_eq_true, aligned_iff, decide_eq_true_eq]
  rfl

theorem cursorAfter_page (hk : d.kind ≠ .eraseRange) :
    cursorAfter d c .pageProgram = ⟨c.pos + 256, false⟩ := by
  rw [cursorAfter, if_neg hk, if_neg (by decide)]
  rfl

theorem cursorAfter_erase (hk : d.kind ≠ .eraseRange) :
    cursorAfter d c .sectorErase = ⟨c.pos, true⟩ := by
  rw [cursorAfter, if_neg hk, if_pos rfl]

theorem cursorAfter_range (hk : d.kind = .eraseRange) (k : Kind) :
    cursorAfter d c k = ⟨c.pos + granuleBytes k, false⟩ := if_pos hk

theorem stepsFrom_of_none (h : stepAt d c = none) (m : Nat) : stepsFrom d m c = [] := by
  cases m with
  | zero => rfl
  | succ m => rw [stepsFrom, h]

theorem stepsFrom_succ {k : Kind} {a : Nat} (h : stepAt d c = some (k, a)) (m : Nat) :
    stepsFrom d (m + 1) c = (k, a) :: stepsFrom d m (cursorAfter d c k) := by
  rw [stepsFrom, h]

/-- A run of page steps, ascending. -/
theorem stepsFrom_pages (hk : d.kind ≠ .eraseRange) (m r : Nat) {p : Nat}
    (h : ∀ i < r, stepAt d ⟨p + 256 * i, false⟩ = some (.pageProgram, d.dest + (p + 256 * i))) :
    stepsFrom d (r + m) ⟨p, false⟩
      = (List.range r).map (fun i => (.pageProgram, d.dest + (p + 256 * i)))
        ++ stepsFrom d m ⟨p + 256 * r, false⟩ := by
  induction r generalizing p with
  | zero => rw [Nat.zero_add]; rfl
  | succ r ih =>
    have first : stepAt d ⟨p, false⟩ = some (.pageProgram, d.dest + p) := h 0 (by omega)
    have next (i : Nat) : p + 256 + 256 * i = p + 256 * (i + 1) := by omega
    have rest := ih (p := p + 256) fun i hi => by rw [next]; exact h (i + 1) (by omega)
    simp only [next] at rest
    rw [show r + 1 + m = r + m + 1 by omega, stepsFrom_succ first, cursorAfter_page hk, rest,
      List.range_succ_eq_map, List.map_cons, List.map_map]
    rfl

/-- Under PRE_ERASE a sector's erase comes before its 16 pages. -/
theorem stepsFrom_sector (hk : d.kind = .copy ∨ d.kind = .fill) (hp : d.preErase = true) (m : Nat) {p : Nat}
    (ha : p % 4096 = 0) (hl : p + 4096 ≤ d.length) : stepsFrom d (17 + m) ⟨p, false⟩
      = ((.sectorErase, d.dest + p) :: (List.range 16).map fun j => (.pageProgram, d.dest + (p + 256 * j)))
        ++ stepsFrom d m ⟨p + 4096, false⟩ := by
  have stores : d.kind ≠ .eraseRange := by obtain hk | hk := hk <;> simp [hk]
  have erase : stepAt d ⟨p, false⟩ = some (.sectorErase, d.dest + p) :=
    stepAt_erase hk (by simp only; omega) hp ha rfl
  have first : stepAt d ⟨p, true⟩ = some (.pageProgram, d.dest + p) :=
    stepAt_page hk (by simp only; omega) (.inr (.inl rfl))
  have next (i : Nat) : p + 256 + 256 * i = p + 256 * (i + 1) := by omega
  have rest := stepsFrom_pages stores m 15 (p := p + 256) fun i hi =>
    stepAt_page hk (by simp only; omega) (.inr (.inr (by simp only; omega)))
  simp only [next] at rest
  rw [show 17 + m = 15 + m + 1 + 1 by omega, stepsFrom_succ erase, cursorAfter_erase stores,
    stepsFrom_succ first, cursorAfter_page stores, rest, List.range_succ_eq_map, List.map_cons, List.map_map]
  rfl

theorem stepsFrom_sectors (hk : d.kind = .copy ∨ d.kind = .fill) (hp : d.preErase = true) (m r : Nat)
    {p : Nat} (ha : p % 4096 = 0) (hl : p + 4096 * r ≤ d.length) : stepsFrom d (17 * r + m) ⟨p, false⟩
      = ((List.range r).flatMap fun i => (.sectorErase, d.dest + (p + 4096 * i))
          :: (List.range 16).map fun j => (.pageProgram, d.dest + (p + 4096 * i + 256 * j)))
        ++ stepsFrom d m ⟨p + 4096 * r, false⟩ := by
  induction r generalizing p with
  | zero => rw [Nat.mul_zero, Nat.zero_add]; rfl
  | succ r ih =>
    have room : p + 4096 ≤ d.length :=
      (Nat.add_le_add_left (Nat.le_mul_of_pos_right 4096 r.succ_pos) p).trans hl
    have next (i : Nat) : p + 4096 + 4096 * i = p + 4096 * (i + 1) := by omega
    have rest := ih (p := p + 4096) (by omega) (by omega)
    simp only [next] at rest
    rw [show 17 * (r + 1) + m = 17 + (17 * r + m) by omega, stepsFrom_sector hk hp _ ha room, rest,
      List.range_succ_eq_map (n := r), List.flatMap_cons, List.flatMap_map, List.append_assoc]
    rfl

/-- A COPY or FILL issues its pages ascending. -/
theorem stepsFrom_of_pages (hk : d.kind = .copy ∨ d.kind = .fill) (hp : d.preErase = false) {n m : Nat}
    (hl : d.length = 256 * n) (hn : n ≤ m) :
    stepsFrom d m ⟨0, false⟩ = (List.range n).map fun i => (.pageProgram, d.dest + 256 * i) := by
  have stores : d.kind ≠ .eraseRange := by obtain hk | hk := hk <;> simp [hk]
  have run := stepsFrom_pages stores (m - n) n (p := 0) fun i hi =>
    stepAt_page hk (by simp only; omega) (.inl hp)
  have done : stepAt d ⟨0 + 256 * n, false⟩ = none := stepAt_of_end (by simp only; omega)
  rw [Nat.add_sub_cancel' hn, stepsFrom_of_none done, List.append_nil] at run
  simpa only [Nat.zero_add] using run

/-- A COPY or FILL under PRE_ERASE goes sector by sector. -/
theorem stepsFrom_of_sectors (hk : d.kind = .copy ∨ d.kind = .fill) (hp : d.preErase = true) {n m : Nat}
    (hl : d.length = 4096 * n) (hn : n ≤ m) : stepsFrom d (17 * m) ⟨0, false⟩
      = (List.range n).flatMap fun i => (.sectorErase, d.dest + 4096 * i)
        :: (List.range 16).map fun j => (.pageProgram, d.dest + 4096 * i + 256 * j) := by
  have run := stepsFrom_sectors hk hp (17 * (m - n)) n (p := 0) rfl (by omega)
  have done : stepAt d ⟨0 + 4096 * n, false⟩ = none := stepAt_of_end (by simp only; omega)
  rw [← Nat.mul_add, Nat.add_sub_cancel' hn, stepsFrom_of_none done, List.append_nil] at run
  simpa only [Nat.zero_add, Nat.add_assoc] using run

end

/-! ### The data of a page step (R121, R123) -/

theorem memRead_memPage (m : Memory) (base : Nat) {i : Nat} (hi : i < 256) :
    memRead (memPage m base) i = memRead m (base + i) := by
  induction m with
  | nil => rfl
  | cons c m ih =>
    rw [memPage, List.filterMap_cons, memRead_cons c m, ← ih]
    by_cases hc : base ≤ c.1 ∧ c.1 < base + Config.pageBytes
    · rw [if_pos hc]
      refine (memRead_cons ..).trans (if_congr ?_ rfl rfl)
      simp only
      omega
    · rw [if_neg hc, if_neg (by simp only [Config.pageBytes] at hc; omega)]
      rfl

theorem memRead_range' (v : Byte) (lo n : Nat) {i : Nat} (hlo : lo ≤ i) (hi : i < lo + n) :
    memRead ((List.range' lo n).map fun i => (i, v)) i = v := by
  induction n generalizing lo with
  | zero => omega
  | succ n ih =>
    rw [List.range'_succ, List.map_cons, memRead_cons]
    by_cases he : i = lo
    · exact if_pos he
    · rw [if_neg he, ih (lo + 1) (by omega) (by omega)]

theorem memRead_memFill (v : Byte) {i : Nat} (hi : i < 256) : memRead (memFill v) i = v := by
  unfold memFill
  split
  · exact (memRead_nil i).trans (Eq.symm ‹_›)
  · rw [List.range_eq_range']
    exact memRead_range' v 0 256 (Nat.zero_le i) (by omega)

theorem memRead_stepData (s : State) (d : Descriptor) (c : Cursor) {i : Nat} (hi : i < 256) :
    memRead (stepData s d c) i
      = if d.kind = .fill then d.fill else memRead s.array (d.source + c.pos + i) := by
  rw [stepData, apply_ite (memRead · i), memRead_memFill _ hi, memRead_memPage _ _ hi]

/-- Settles O43: the decision on a step by its conditions and its target's rights, the order of steps by induction
on pages and sectors. -/
theorem jobStepsIssue : Obligations.JobStepsIssue := by
  unfold Obligations.JobStepsIssue
  refine ⟨fun s n d k a hp he hc hj hd hs => ?_, fun s n d k a code hp he hc hj hd hs hr hm => ?_,
    fun s d k => stepReady_iff, fun d n m hn => ⟨fun hk => ⟨fun hpre hl => stepsFrom_of_pages hk hpre hl hn.le,
      fun hpre hl => stepsFrom_of_sectors hk hpre hl hn.le⟩, fun pos hk => ⟨fun hl => ?_, fun hl => ?_⟩,
      fun c hk => stepsFrom_of_none (stepAt_of_reading hk) m⟩,
    fun s d c i hi => memRead_stepData s d c hi⟩
  · have decides := exec_jobStepIssue hp (workingJob_eq he hc hj hd) hs
    refine ⟨fun hr hm => ?_, fun hr => ?_⟩
    · rw [decides, tryStep_of_permitted hr hm, issueStep_eq]
      rfl
    · rw [decides, tryStep_of_unready hr]
      rfl
  · have faults := faulted_drainCheck (d := d) he hc (List.getElem?_eq_some_iff.mp hj).1 (by simp [hd])
      (rightsFault code) a
    refine ⟨_, rightsFault code, ?_, rfl, faults.jobs, faults.queue, faults.pool, ?_, faults.halted,
      faults.running⟩
    · rw [exec_jobStepIssue hp (workingJob_eq he hc hj hd) hs, tryStep_of_refused hr hm]
      rfl
    · rw [faults.log, jobFaultCode_rightsFault]
      rfl
  · exact stepsFrom_of_none (stepAt_of_end hl) m
  · have step := stepAt_range (c := ⟨pos, false⟩) hk hl
    refine ⟨fun hb => ?_, fun hb => ?_⟩
    · rw [stepsFrom_succ (step.trans (if_pos hb)), cursorAfter_range hk]
      rfl
    · rw [stepsFrom_succ (step.trans (if_neg (by simp only; omega))), cursorAfter_range hk]
      rfl

end Sys2Proof.Machine

namespace Sys2Proof.Machine

set_option Elab.async false

/-! ## Chunk reads and the digest unit (R125 to R129) -/

/-! ### The descriptor after a chunk (R125, R127) -/

section
variable {t : State} {n : Nat} {d : Descriptor}

theorem moveOn_of_next (he : t.engine = .running) {m : Nat} (hn : nextLoaded t = some m) :
    moveOn t = beginJob t m := by simp only [moveOn, he, hn]

theorem moveOn_of_none (he : t.engine = .running) (hn : nextLoaded t = none) :
    moveOn t = enterIdle t := by simp only [moveOn, he, hn]

/-- A descriptor that is DONE, with its event (R125, R129). -/
theorem finishJob_eq (hc : t.current = some n) : finishJob t d = moveOn (logEvent
    { t with jobs := t.jobs.set n { d with
        state := .done, digest := if d.kind = .digest then some (crcFinal t.crc) else d.digest } }
    .jobDone 3 d.id (jobKindCode d.kind) (addressWord (rangeStart d))) := by
  rw [finishJob, setCurrentJob_eq hc]

theorem finishJob_of_digest (hc : t.current = some n) (hk : d.kind = .digest) :
    finishJob t d = moveOn (logEvent
      { t with jobs := t.jobs.set n { d with state := .done, digest := some (t.crc ^^^ 0xFFFFFFFF) } }
      .jobDone 3 d.id 5 (addressWord d.source)) := by
  rw [finishJob_eq hc, if_pos hk, rangeStart, hk]
  rfl

theorem finishJob_of_verify (hc : t.current = some n) (hk : d.kind = .verify) :
    finishJob t d = moveOn (logEvent { t with jobs := t.jobs.set n { d with state := .done } }
      .jobDone 3 d.id 4 (addressWord d.source)) := by
  rw [finishJob_eq hc, if_neg (by simp [hk]), rangeStart, hk]
  rfl

theorem afterChunk_of_rest (hc : t.current = some n) (hl : d.bytesDone < d.length) :
    afterChunk t d = { t with jobs := t.jobs.set n d } :=
  (if_neg (Nat.not_le.mpr hl)).trans (setCurrentJob_eq hc d)

theorem afterChunk_of_end (hl : d.length ≤ d.bytesDone) : afterChunk t d = finishJob t d := if_pos hl

end

/-- Bytes left in the page of an address (R127). -/
theorem toPageEnd_eq (a : Nat) : toPageEnd a = 256 - a % 256 := rfl

/-! ### A chunk of a DIGEST and of a VERIFY (R126 to R129) -/

section
variable {s : State} {d : Descriptor} {m : Nat}

theorem exec_chunkRead_digest (hp : s.power = .active) (hw : workingJob s = some d)
    (hk : d.kind = .digest) : exec .chunkRead s = finish (digestChunk s d) := by
  simp only [exec, execChunkRead]
  rw [if_pos hp, hw]
  dsimp only
  rw [hk]

theorem exec_chunkRead_verify (hp : s.power = .active) (hw : workingJob s = some d)
    (hk : d.kind = .verify) : exec .chunkRead s = finish (verifyChunk s d) := by
  simp only [exec, execChunkRead]
  rw [if_pos hp, hw]
  dsimp only
  rw [hk]

theorem digestChunk_of_unreadable (h : pageReadable s (d.source + d.bytesDone) = false) :
    digestChunk s d = s := if_neg (Bool.eq_false_iff.mp h)

theorem digestChunk_of_readable (h : pageReadable s (d.source + d.bytesDone) = true)
    (hm : m = min (toPageEnd (d.source + d.bytesDone)) (d.length - d.bytesDone)) :
    digestChunk s d = afterChunk
      { s with crc := crcRun s.crc (arrayBytesAt s (d.source + d.bytesDone) m) }
      { d with bytesDone := d.bytesDone + m } := by
  subst hm
  exact if_pos h

theorem verifyChunk_of_unreadable (h : pageReadable s (d.source + d.bytesDone) = false
    ∨ pageReadable s (d.dest + d.bytesDone) = false) : verifyChunk s d = s :=
  if_neg (Bool.eq_false_iff.mp (Bool.and_eq_false_iff.mpr h))

theorem byteAt_arrayBytesAt (s : State) (a : Nat) {i : Nat} (hi : i < m) :
    byteAt (arrayBytesAt s a m) i = memRead s.array (a + i) := by
  simp [byteAt, arrayBytesAt, hi]

theorem mismatchesIn_arrayBytesAt (s : State) (a b m : Nat) :
    mismatchesIn (arrayBytesAt s a m) (arrayBytesAt s b m)
      = (List.range m).filter fun i => memRead s.array (a + i) != memRead s.array (b + i) := by
  have length : (arrayBytesAt s a m).length = m := by simp [arrayBytesAt]
  rw [mismatchesIn, length]
  refine List.filter_congr fun i hi => ?_
  rw [byteAt_arrayBytesAt s a (List.mem_range.mp hi), byteAt_arrayBytesAt s b (List.mem_range.mp hi)]

section
variable {a b : Nat} (ha : a = d.source + d.bytesDone) (hb : b = d.dest + d.bytesDone)
  (hm : m = min (min (toPageEnd a) (toPageEnd b)) (d.length - d.bytesDone))
  (hra : pageReadable s a = true) (hrb : pageReadable s b = true) {bad : List Nat}
  (hbad : bad = (List.range m).filter fun i => memRead s.array (a + i) != memRead s.array (b + i))
include ha hb hm hra hrb hbad

/-- Without STOP, or without a mismatch, the whole chunk is compared (R128). -/
theorem verifyChunk_of_compared (hs : d.stop = false ∨ bad = []) :
    verifyChunk s d = afterChunk s (verifyCompared d m bad) := by
  rw [← mismatchesIn_arrayBytesAt] at hbad
  unfold verifyChunk
  dsimp only
  rw [← ha, ← hb, ← hm, hra, hrb, ← hbad]
  obtain hs | hs := hs
  · rw [hs]
    rfl
  · rw [hs]
    cases d.stop <;> rfl

/-- Under STOP the first mismatch faults the job there (R128). -/
theorem verifyChunk_of_stopped (hs : d.stop = true) {k : Nat} (hk : bad.head? = some k) :
    verifyChunk s d = drainCheck (faultJob s (verifyCompared d (k + 1) [k]) .mismatch (a + k)) := by
  rw [← mismatchesIn_arrayBytesAt] at hbad
  obtain ⟨rest, hl⟩ := List.head?_eq_some_iff.mp hk
  unfold verifyChunk
  dsimp only
  rw [← ha, ← hb, ← hm, hra, hrb, ← hbad, hs, hl]
  rfl

end
end

/-! ### The digest unit (R129) -/

theorem crcRun_append (r : Word) (xs ys : List Byte) : crcRun r (xs ++ ys) = crcRun (crcRun r xs) ys := by
  induction xs generalizing r with
  | nil => rfl
  | cons x xs ih => rw [List.cons_append, crcRun_cons, crcRun_cons, ih]

/-- A byte is eight shifts of the register (R129). -/
theorem crcRun_singleton (r : Word) (b : Byte) : crcRun r [b] = crcBit^[8] (r ^^^ b.setWidth 32) := by
  rw [crcRun_cons]
  rfl

/-- The check value of the CRC-32 (R129). -/
theorem crc32_check_value :
    crc32 0xFFFFFFFF [0x31, 0x32, 0x33, 0x34, 0x35, 0x36, 0x37, 0x38, 0x39] = 0xCBF43926 := by
  decide +kernel

/-- Settles O45: a chunk is waited for, taken, or the last of its job, and under STOP it ends at the first
mismatch. -/
theorem chunkRead : Obligations.ChunkRead := by
  unfold Obligations.ChunkRead
  refine ⟨fun s n d hp he hc hj hd => ?_,
    ⟨crc32_check_value, crcRun_append, crcRun_singleton, fun _ _ => rfl⟩, fun s a => pageReadable_iff⟩
  intro a b bytes goesOn
  have ha : a = d.source + d.bytesDone := rfl
  have working := workingJob_eq he hc hj hd
  have goes {finished : State} (h : exec .chunkRead s = finish (moveOn finished))
      (he : finished.engine = .running) : goesOn finished :=
    ⟨fun next hn => h.trans (congrArg finish (moveOn_of_next he hn)),
      fun hn => h.trans (congrArg finish (moveOn_of_none he hn))⟩
  refine ⟨fun hk => ?_, fun hk => ?_⟩
  · have chunk {t : State} (h : digestChunk s d = t) : exec .chunkRead s = finish t :=
      (exec_chunkRead_digest hp working hk).trans (congrArg finish h)
    refine ⟨fun m hm hl hr => ?_, fun m hm hl hr => ?_, fun hr => chunk (digestChunk_of_unreadable hr)⟩
    · refine chunk ((digestChunk_of_readable (m := m) hr ?_).trans (afterChunk_of_rest hc ?_))
      · rw [toPageEnd_eq]
        omega
      · simp only
        omega
    · intro finished
      refine goes (chunk ((digestChunk_of_readable (m := m) hr ?_).trans
        ((afterChunk_of_end ?_).trans (finishJob_of_digest hc hk)))) ((logEvent_engine ..).trans he)
      · rw [toPageEnd_eq]
        omega
      · simp only
        omega
  · have chunk {t : State} (h : verifyChunk s d = t) : exec .chunkRead s = finish t :=
      (exec_chunkRead_verify hp working hk).trans (congrArg finish h)
    intro bad
    refine ⟨fun m hm hl hra hrb hs => ?_, fun m k hm hra hrb hs hbad => ?_,
      fun m hm hla hlb hra hrb hs => ?_, fun hr => chunk (verifyChunk_of_unreadable hr)⟩
    · refine chunk ((verifyChunk_of_compared (m := m) rfl rfl ?_ hra hrb rfl hs).trans (afterChunk_of_rest hc ?_))
      · rw [toPageEnd_eq, toPageEnd_eq]
        omega
      · simp only [verifyCompared]
        omega
    · have faults := faulted_drainCheck (d := verifyCompared d (k + 1) [k]) he hc
        (List.getElem?_eq_some_iff.mp hj).1 (by simp [verifyCompared, hd]) .mismatch (a + k)
      exact ⟨_, chunk (verifyChunk_of_stopped rfl rfl hm hra hrb rfl hs hbad), faults.jobs, faults.log,
        faults.halted⟩
    · intro finished
      refine goes (chunk ((verifyChunk_of_compared (m := m) rfl rfl ?_ hra hrb rfl hs).trans
        ((afterChunk_of_end ?_).trans (finishJob_of_verify hc hk)))) ((logEvent_engine ..).trans he)
      · rw [toPageEnd_eq, toPageEnd_eq]
        omega
      · simp only [verifyCompared]
        omega

end Sys2Proof.Machine

namespace Sys2Proof.Machine

set_option Elab.async false

/-! ## What is programmable once, and what a cut-short operation leaves (R143, R145, R147, R148, R164)

The content that an operation changes is changed in the same way by its completion and by what cuts it short.
`OneWay` says that the fuse, the seal locks and the seal bits have gone one way only, `CutShort` what the fall
of RESET_N or of the supply may leave. Each is proved of a single operation, and carried to the commands by
what they keep. -/

/-! ### Bits that a program or an erase leaves -/

/-- A programmed bit keeps its value or takes the programmed one (R38, R81). -/
theorem getLsbD_programmedByte (old new mask : Byte) (k : Nat) :
    (programmedByte old new mask).getLsbD k = old.getLsbD k
      ∨ (programmedByte old new mask).getLsbD k = (old &&& new).getLsbD k := by
  rw [programmedByte, BitVec.getLsbD_or, BitVec.getLsbD_and, BitVec.getLsbD_and]
  cases old.getLsbD k <;> cases new.getLsbD k <;> cases mask.getLsbD k <;> decide

/-- An erased bit keeps its value or becomes 1 (R39, R81). -/
theorem getLsbD_erasedWith (old mask : Byte) (k : Nat) :
    (erasedWith old mask).getLsbD k = old.getLsbD k
      ∨ (erasedWith old mask).getLsbD k = (0xFF#8).getLsbD k := by
  rw [erasedWith, BitVec.getLsbD_or, BitVec.getLsbD_not, show 0xFF#8 = BitVec.allOnes 8 from rfl,
    BitVec.getLsbD_allOnes]
  cases old.getLsbD k <;> cases mask.getLsbD k <;> cases decide (k < 8) <;> decide

/-- A program sets no bit (R38, R147). -/
theorem and_programmedByte (old new mask : Byte) :
    old &&& programmedByte old new mask = programmedByte old new mask := by
  refine BitVec.eq_of_getLsbD_eq fun k _ => ?_
  rw [programmedByte, BitVec.getLsbD_and, BitVec.getLsbD_or, BitVec.getLsbD_and, BitVec.getLsbD_and]
  cases old.getLsbD k <;> cases new.getLsbD k <;> cases mask.getLsbD k <;> rfl

/-- A program of a page buffer leaves every byte outside its page (R38, R147). -/
theorem memRead_memProgram_outside {m buf : Memory} (hm : m.wf = true) (hb : BufferFits buf) (base : Nat)
    (stuck : StuckBits) {a : Nat} (ha : a < base ∨ base + 256 ≤ a) :
    memRead (memProgram m base buf stuck) a = memRead m a := by
  obtain ⟨hwf, hpage⟩ := hb
  rw [memRead_memProgram base stuck a hm hwf]
  split
  · have beyond : memRead buf (a - base) = erasedByte := by
      refine memRead_of_not_mem fun c hc hca => ?_
      have : c.1 < 256 := hpage c hc
      omega
    rw [beyond, programmedByte_erased]
  · rfl

/-- A program of a page buffer, bit by bit (R38, R147). -/
theorem getLsbD_memProgram {m buf : Memory} (hm : m.wf = true) (hb : BufferFits buf) (base : Nat)
    (stuck : StuckBits) (a k : Nat) :
    (memRead (memProgram m base buf stuck) a).getLsbD k = (memRead m a).getLsbD k
      ∨ (base ≤ a ∧ a < base + 256 ∧ (memRead (memProgram m base buf stuck) a).getLsbD k
        = (memRead m a &&& memRead buf (a - base)).getLsbD k) := by
  by_cases ha : base ≤ a ∧ a < base + 256
  · obtain ⟨hle, hlt⟩ := ha
    rw [memRead_memProgram base stuck a hm hb.1, if_pos hle]
    exact (getLsbD_programmedByte _ _ _ k).imp_right fun h => ⟨hle, hlt, h⟩
  · rw [memRead_memProgram_outside hm hb base stuck (by omega)]
    exact .inl rfl

/-- An erase, bit by bit (R39). -/
theorem getLsbD_memErase {m : Memory} (hm : m.wf = true) (base len : Nat) (stuck : StuckBits) (a k : Nat) :
    (memRead (memErase m base len stuck) a).getLsbD k = (memRead m a).getLsbD k
      ∨ (base ≤ a ∧ a < base + len
        ∧ (memRead (memErase m base len stuck) a).getLsbD k = (0xFF#8).getLsbD k) := by
  rw [memRead_memErase base len stuck a hm]
  split
  · rename_i ha
    exact (getLsbD_erasedWith _ _ k).imp_right fun h => ⟨ha.1, ha.2, h⟩
  · exact .inl rfl

/-! ### One way only (R145, R147, R148) -/

/-- A blown fuse stays blown, a locked page locked, and no seal bit goes from 0 to 1. -/
structure OneWay (s t : State) : Prop where
  fuse : s.fuse = true → t.fuse = true
  locks : s.sealLocks &&& t.sealLocks = s.sealLocks
  bits : ∀ a, memRead s.sealStore a &&& memRead t.sealStore a = memRead t.sealStore a

section
variable {s t u : State}

/-- An operation that touches nothing that is programmable once. -/
theorem oneWay_of_eq (h : (t.fuse, t.sealLocks, t.sealStore) = (s.fuse, s.sealLocks, s.sealStore) := by rfl) :
    OneWay s t := by
  simp only [Prod.mk.injEq] at h
  obtain ⟨hfuse, hlocks, hseal⟩ := h
  exact ⟨fun hs => hfuse ▸ hs, by rw [hlocks, BitVec.and_self], fun a => by rw [hseal, BitVec.and_self]⟩

theorem SameNonvolatile.oneWay (h : SameNonvolatile s t) : OneWay s t := by
  obtain ⟨-, -, -, hfuse, hseal, hlocks⟩ := h
  exact oneWay_of_eq (by rw [hfuse, hlocks, hseal])

theorem OneWay.trans (h : OneWay s t) (h' : OneWay t u) : OneWay s u := by
  refine ⟨fun hs => h'.fuse (h.fuse hs), ?_, fun a => ?_⟩
  · calc s.sealLocks &&& u.sealLocks
      _ = s.sealLocks &&& t.sealLocks &&& u.sealLocks := by rw [h.locks]
      _ = s.sealLocks := by rw [BitVec.and_assoc, h'.locks, h.locks]
  · calc memRead s.sealStore a &&& memRead u.sealStore a
      _ = memRead s.sealStore a &&& (memRead t.sealStore a &&& memRead u.sealStore a) := by rw [h'.bits]
      _ = memRead u.sealStore a := by rw [← BitVec.and_assoc, h.bits, h'.bits]

/-- The scope of the non-volatile content alone. -/
def contentScope : Scope := ⟨True, fun _ => False⟩

theorem Kept.sameNonvolatile (h : Kept contentScope s t) : SameNonvolatile s t := h.content trivial

theorem oneWay_fuse (s : State) : OneWay s { s with fuse := true } :=
  ⟨fun _ => rfl, BitVec.and_self, fun _ => BitVec.and_self⟩

theorem oneWay_locks (s : State) (bits : BitVec 3) : OneWay s { s with sealLocks := s.sealLocks ||| bits } := by
  refine ⟨id, ?_, fun _ => BitVec.and_self⟩
  refine BitVec.eq_of_getLsbD_eq fun k _ => ?_
  rw [BitVec.getLsbD_and, BitVec.getLsbD_or]
  cases s.sealLocks.getLsbD k <;> rfl

theorem oneWay_sealAfter (hc : Canonical s) (e : Entry) (page half : Nat) (stuck : StuckBits) :
    OneWay s { s with sealStore := sealAfter s e page half stuck } := by
  obtain ⟨-, hseal, -⟩ := id hc
  refine ⟨id, BitVec.and_self, fun a => ?_⟩
  rw [sealAfter, memRead_memProgram _ stuck a hseal (bufferData_sound hc e.buffer).1]
  split
  · exact and_programmedByte ..
  · exact BitVec.and_self

theorem oneWay_setStore (s : State) (i : SlotId) (bs : List Byte) : OneWay s (s.setStore i bs) :=
  oneWay_of_eq (by simp)

/-- A COMMIT writes a store slot, and nothing that is programmable once (R142). -/
theorem oneWay_commitResult (s : State) (g : Byte) (stuck : StuckBits) :
    OneWay s (commitResult s g stuck).1 := by
  have run : OneWay s { s with commitRun := none } := oneWay_of_eq
  have written (i : SlotId) (bs : List Byte) (c : SlotClass) :
      OneWay s ((State.setStore { s with commitRun := none } i bs).setStoreClass i c) :=
    (run.trans (oneWay_setStore _ i bs)).trans
      (Kept.sameNonvolatile (kept_setStoreClass (kept_refl _ _))).oneWay
  have applied {t : State} (h : OneWay s t) (k : EventKind) (d : Byte) (a : Word) :
      OneWay s (applyCommit t k g d a) :=
    h.trans (Kept.sameNonvolatile (kept_applyCommit (kept_refl _ _))).oneWay
  unfold commitResult
  dsimp only
  split
  · rename_i i _
    split
    · exact applied ((written i (commitBytes s) .valid).trans oneWay_of_eq) _ _ _
    · exact (written i _ .torn).trans (Kept.sameNonvolatile (kept_logEvent (kept_refl _ _))).oneWay
  · exact applied run _ _ _
  · exact applied run _ _ _

/-- A completed operation (R82). -/
theorem oneWay_operationResult (hc : Canonical s) (e : Entry) (stuck : StuckBits) :
    OneWay s (operationResult s e stuck).1 := by
  have logged {t : State} (h : OneWay s t) (k : EventKind) (o g d : Byte) (a : Word) :
      OneWay s (logEvent t k o g d a) :=
    h.trans (Kept.sameNonvolatile (kept_logEvent (kept_refl _ _))).oneWay
  unfold operationResult
  split
  case h_4 => exact oneWay_commitResult ..
  case h_5 =>
    split
    · exact logged (oneWay_fuse s) _ _ _ _ _
    · exact oneWay_of_eq
  case h_6 => exact oneWay_sealAfter hc ..
  case h_7 =>
    split
    · exact logged (oneWay_locks s _) _ _ _ _ _
    · exact oneWay_of_eq
  case h_8 => exact oneWay_of_eq
  all_goals exact oneWay_of_eq

/-! ### An operation that is cut short -/

/-- All that an aborted entry can leave of its target (R143, R164). -/
theorem abortTarget_cases (s : State) (e : Entry) (stuck : StuckBits) (slot : Option (List Byte)) :
    abortTarget s e stuck slot = s
      ∨ (∃ base len, isArrayKind e.kind = true ∧ e.target = .array base len
        ∧ abortTarget s e stuck slot = { s with array := arrayAfter s e base len stuck })
      ∨ (∃ page half, e.kind = .sealProgram ∧ e.target = .sealPage page half
        ∧ abortTarget s e stuck slot = { s with sealStore := sealAfter s e page half stuck })
      ∨ (∃ page half, e.kind = .sealLock ∧ e.target = .sealPage page half
        ∧ abortTarget s e stuck slot = { s with sealLocks := s.sealLocks ||| lockBit page })
      ∨ (e.kind = .guardFuse ∧ abortTarget s e stuck slot = { s with fuse := true })
      ∨ (∃ i, e.kind = .commit ∧ s.commitRun = some (.writing i)
        ∧ abortTarget s e stuck slot = s.setStore i (abandonedSlot s slot)) := by
  unfold abortTarget
  split
  case h_1 base len hk ht | h_2 base len hk ht | h_3 base len hk ht =>
    exact .inr (.inl ⟨base, len, by rw [hk]; rfl, ht, rfl⟩)
  case h_4 page half hk ht => exact .inr (.inr (.inl ⟨page, half, hk, ht, rfl⟩))
  case h_5 page half hk ht =>
    split
    · exact .inr (.inr (.inr (.inl ⟨page, half, hk, ht, rfl⟩)))
    · exact .inl rfl
  case h_6 hk =>
    split
    · exact .inr (.inr (.inr (.inr (.inl ⟨hk, rfl⟩))))
    · exact .inl rfl
  case h_7 hk =>
    split
    · exact .inr (.inr (.inr (.inr (.inr ⟨_, hk, ‹_›, rfl⟩))))
    · exact .inl rfl
    · exact .inl rfl
  case h_8 => exact .inl rfl

theorem canonical_abortTarget (hc : Canonical s) (e : Entry) (stuck : StuckBits)
    (slot : Option (List Byte)) : Canonical (abortTarget s e stuck slot) :=
  (kept_abortTarget (k := ⟨False, fun _ => False⟩) id (kept_refl _ s)).canonical hc

theorem canonical_abortActive (hc : Canonical s) (left : Leftover) : Canonical (abortActive s left) := by
  unfold abortActive
  split
  · exact canonical_abortTarget hc ..
  · exact hc

theorem oneWay_abortTarget (hc : Canonical s) (e : Entry) (stuck : StuckBits) (slot : Option (List Byte)) :
    OneWay s (abortTarget s e stuck slot) := by
  obtain h | ⟨_, _, -, -, h⟩ | ⟨_, _, -, -, h⟩ | ⟨_, _, -, -, h⟩ | ⟨-, h⟩ | ⟨_, -, -, h⟩ :=
    abortTarget_cases s e stuck slot <;> rw [h]
  · exact oneWay_of_eq
  · exact oneWay_of_eq
  · exact oneWay_sealAfter hc ..
  · exact oneWay_locks ..
  · exact oneWay_fuse s
  · exact oneWay_setStore ..

theorem oneWay_abortOperations (hc : Canonical s) (left : Leftover) : OneWay s (abortOperations s left) := by
  have active : OneWay s (abortActive s left) := by
    unfold abortActive
    split
    · exact oneWay_abortTarget hc ..
    · exact oneWay_of_eq
  unfold abortOperations abortSuspended
  split
  · split
    · exact active.trans (oneWay_abortTarget (canonical_abortActive hc left) ..)
    · exact active
  · exact oneWay_of_eq

/-- The fall of RESET_N, a loss of power and a power-on change the content by what they cut short alone (R162,
R164, R173). -/
theorem sameNonvolatile_cutShort {i : Instr} {left : Leftover}
    (hi : i = .resetNAssert left ∨ i = .powerLoss left ∨ i = .powerOn left) (h : exec i s = .next t) :
    SameNonvolatile (abortOperations s left) t := by
  have unpowered (ho : operating s = false) : abortOperations s left = s := if_neg (by simp [ho])
  obtain rfl | rfl | rfl := hi
  · have fall : exec (.resetNAssert left) s = finish (enterReset s left)
        ∨ exec (.resetNAssert left) s = finish { s with resetN := false } ∧ operating s = false := by
      cases hp : s.power <;> simp [exec, execResetNAssert, hp, operating]
    obtain hf | ⟨hf, ho⟩ := fall <;> rw [hf] at h <;> cases h
    · rw [enterReset, removeEntries_eq]
      exact ⟨rfl, rfl, rfl, rfl, rfl, rfl⟩
    · rw [unpowered ho]
      exact ⟨rfl, rfl, rfl, rfl, rfl, rfl⟩
  · by_cases hp : s.power = .off
    · have off : exec (.powerLoss left) s = finish s := by simp [exec, execPowerLoss, hp]
      rw [off] at h
      cases h
      rw [unpowered (by simp [operating, hp])]
      exact ⟨rfl, rfl, rfl, rfl, rfl, rfl⟩
    · rw [exec_powerLoss hp] at h
      cases h
      exact ⟨rfl, rfl, rfl, rfl, rfl, rfl⟩
  · cases hr : s.resetN with
    | true =>
      rw [exec_powerOn hr] at h
      generalize abortOperations s left = b at h ⊢
      obtain rfl : driveIrq _ = t := Host.Outcome.next.inj h
      have same : SameNonvolatile b (powerOnStep { b with sessionLock := false }) :=
        sameNonvolatile_powerOnStep { b with sessionLock := false }
      exact same.driveIrq
    | false =>
      rw [exec_powerOn_waiting hr] at h
      cases h
      exact ⟨rfl, rfl, rfl, rfl, rfl, rfl⟩

theorem oneWay_operationCompletion (hc : Canonical s) {stuck : StuckBits}
    (h : exec (.operationCompletion stuck) s = .next t) : OneWay s t := by
  by_cases hp : s.power = .active
  · cases ha : activeEntry s with
    | none =>
      simp only [exec, execOperationCompletion, if_pos hp, ha] at h
      cases h
      exact oneWay_of_eq
    | some e =>
      simp only [exec, execOperationCompletion, if_pos hp, ha] at h
      cases h
      have rest := kept_fillFromMailbox (kept_reportOutcome (e := e) (out := (operationResult s e stuck).2)
        (kept_removeActive (e := e) (kept_refl contentScope (operationResult s e stuck).1)))
      exact (oneWay_operationResult hc e stuck).trans rest.sameNonvolatile.driveIrq.oneWay
  · simp only [exec, execOperationCompletion, if_neg hp] at h
    cases h
    exact oneWay_of_eq

/-- A completion and an operation cut short go one way, and nothing else touches the content. -/
theorem oneWay_of_exec {i : Instr} (hc : Canonical s) (h : exec i s = .next t) : OneWay s t := by
  by_cases hcut : ∃ left, i = .resetNAssert left ∨ i = .powerLoss left ∨ i = .powerOn left
  · obtain ⟨left, hi⟩ := hcut
    exact (oneWay_abortOperations hc left).trans (sameNonvolatile_cutShort hi h).oneWay
  · by_cases hdone : ∃ stuck, i = .operationCompletion stuck
    · obtain ⟨stuck, rfl⟩ := hdone
      exact oneWay_operationCompletion hc h
    · have same := contentChangesOnlyAtCompletion i s t h (fun stuck hi => hdone ⟨stuck, hi⟩)
        (fun left hi => hcut ⟨left, .inr (.inr hi)⟩) (fun left hi => hcut ⟨left, .inr (.inl hi)⟩)
        (fun left hi => hcut ⟨left, .inl hi⟩)
      exact same.oneWay

end

/-- Settles O10, by what every command leaves of it. -/
theorem oneTimeContentNeverReturns : Obligations.OneTimeContentNeverReturns := by
  unfold Obligations.OneTimeContentNeverReturns
  intro i s t hc h
  obtain ⟨fuse, locks, bits⟩ := oneWay_of_exec hc h
  exact ⟨fuse, locks, bits⟩

end Sys2Proof.Machine

namespace Sys2Proof.Machine

set_option Elab.async false

/-! ### What a cut-short operation may leave (R143, R164) -/

/-- Each non-volatile item is as it was, or what the aborted operation of `s` may leave of it. -/
structure CutShort (s t : State) : Prop where
  array : ∀ a k, (memRead t.array a).getLsbD k = (memRead s.array a).getLsbD k
    ∨ (∃ e base, activeEntry s = some e ∧ e.kind = .pageProgram ∧ e.target = .array base 256
      ∧ base ≤ a ∧ a < base + 256 ∧ (memRead t.array a).getLsbD k
        = (memRead s.array a &&& memRead (bufferData s e.buffer) (a - base)).getLsbD k)
    ∨ (∃ e base len, (activeEntry s = some e ∨ suspendedEntry s = some e)
      ∧ isEraseKind e.kind = true ∧ e.target = .array base len ∧ base ≤ a ∧ a < base + len
      ∧ (memRead t.array a).getLsbD k = (0xFF#8).getLsbD k)
  sealBits : ∀ a k, (memRead t.sealStore a).getLsbD k = (memRead s.sealStore a).getLsbD k
    ∨ (∃ e page half, activeEntry s = some e ∧ e.kind = .sealProgram ∧ e.target = .sealPage page half
      ∧ page * 512 + half ≤ a ∧ a < page * 512 + half + 256 ∧ (memRead t.sealStore a).getLsbD k
        = (memRead s.sealStore a
          &&& memRead (bufferData s e.buffer) (a - (page * 512 + half))).getLsbD k)
  locks : ∀ q, t.sealLocks.getLsbD q = s.sealLocks.getLsbD q
    ∨ t.sealLocks.getLsbD q = true ∧ ∃ e half, activeEntry s = some e ∧ e.kind = .sealLock
      ∧ e.target = .sealPage q half
  fuse : t.fuse = s.fuse ∨ t.fuse = true ∧ ∃ e, activeEntry s = some e ∧ e.kind = .guardFuse
  store : ∀ slot, t.store slot = s.store slot
    ∨ (s.commitRun = some (.writing slot) ∧ (∃ e, activeEntry s = some e ∧ e.kind = .commit)
      ∧ (t.store slot = slotOf (s.generation + 1) s.stagingImage ∨ classify (t.store slot) ≠ .valid))

section
variable {s t : State} {e : Entry}

theorem cutShort_refl (s : State) : CutShort s s :=
  ⟨fun _ _ => .inl rfl, fun _ _ => .inl rfl, fun _ => .inl rfl, .inl rfl, fun _ => .inl rfl⟩

theorem CutShort.congr {u : State} (h : CutShort s t) (hu : SameNonvolatile t u) : CutShort s u := by
  obtain ⟨harray, h0, h1, hfuse, hseal, hlocks⟩ := hu
  have stores (slot : SlotId) : t.store slot = u.store slot := by cases slot <;> assumption
  obtain ⟨array, sealBits, locks, fuse, store⟩ := h
  exact ⟨harray ▸ array, hseal ▸ sealBits, hlocks ▸ locks, hfuse ▸ fuse, fun slot => stores slot ▸ store slot⟩

/-! The ACTIVE operation, by what it works on -/

theorem cutShort_program (hc : Canonical s) (ha : activeEntry s = some e) (hk : e.kind = .pageProgram)
    {base : Nat} (ht : e.target = .array base 256) (stuck : StuckBits) :
    CutShort s { s with array := arrayAfter s e base 256 stuck } := by
  refine { cutShort_refl s with array := fun a k => ?_ }
  rw [arrayAfter_of_program hk]
  refine (getLsbD_memProgram hc.1 (bufferData_sound hc e.buffer) base stuck a k).imp_right fun h => .inl ?_
  obtain ⟨hle, hlt, hbit⟩ := h
  exact ⟨e, base, ha, hk, ht, hle, hlt, hbit⟩

/-- An erase, of the ACTIVE or of the SUSPENDED entry, after what was left before. -/
theorem CutShort.erase (h : CutShort s t) (hc : Canonical t)
    (ha : activeEntry s = some e ∨ suspendedEntry s = some e) (hk : isEraseKind e.kind = true)
    {base len : Nat} (ht : e.target = .array base len) (stuck : StuckBits) :
    CutShort s { t with array := arrayAfter t e base len stuck } := by
  refine { h with array := fun a k => ?_ }
  rw [arrayAfter_of_erase (by rintro hp; rw [hp] at hk; cases hk)]
  obtain hbit | ⟨hle, hlt, hbit⟩ := getLsbD_memErase hc.1 base len stuck a k
  · rw [hbit]
    exact h.array a k
  · exact .inr (.inr ⟨e, base, len, ha, hk, ht, hle, hlt, hbit⟩)

theorem cutShort_sealProgram (hc : Canonical s) (ha : activeEntry s = some e) (hk : e.kind = .sealProgram)
    {page half : Nat} (ht : e.target = .sealPage page half) (stuck : StuckBits) :
    CutShort s { s with sealStore := sealAfter s e page half stuck } := by
  refine { cutShort_refl s with sealBits := fun a k => ?_ }
  refine (getLsbD_memProgram hc.2.1 (bufferData_sound hc e.buffer) _ stuck a k).imp_right fun h => ?_
  obtain ⟨hle, hlt, hbit⟩ := h
  exact ⟨e, page, half, ha, hk, ht, hle, hlt, hbit⟩

/-- The lock bit of a page is no other page's (R148). -/
theorem getLsbD_or_lockBit (locks : BitVec 3) (page q : Nat) :
    (locks ||| lockBit page).getLsbD q = locks.getLsbD q
      ∨ (locks ||| lockBit page).getLsbD q = true ∧ q = page := by
  rw [BitVec.getLsbD_or]
  by_cases hq : q = page
  · cases locks.getLsbD q
    · cases (lockBit page).getLsbD q
      · exact .inl rfl
      · exact .inr ⟨rfl, hq⟩
    · exact .inl rfl
  · have other : (lockBit page).getLsbD q = false := by
      rw [lockBit, BitVec.getLsbD_shiftLeft, BitVec.getLsbD_one]
      simp only [Bool.and_eq_false_iff, Bool.not_eq_false', decide_eq_false_iff_not, decide_eq_true_eq]
      omega
    rw [other, Bool.or_false]
    exact .inl rfl

theorem cutShort_sealLock (ha : activeEntry s = some e) (hk : e.kind = .sealLock)
    {page half : Nat} (ht : e.target = .sealPage page half) :
    CutShort s { s with sealLocks := s.sealLocks ||| lockBit page } := by
  refine { cutShort_refl s with locks := fun q => ?_ }
  refine (getLsbD_or_lockBit s.sealLocks page q).imp_right fun h => ?_
  obtain ⟨hset, rfl⟩ := h
  exact ⟨hset, e, half, ha, hk, ht⟩

theorem cutShort_fuse (ha : activeEntry s = some e) (hk : e.kind = .guardFuse) :
    CutShort s { s with fuse := true } :=
  { cutShort_refl s with fuse := .inr ⟨rfl, e, ha, hk⟩ }

/-- The slot that a COMMIT was writing: whole, or not VALID (R143). -/
theorem abandonedSlot_spec (s : State) (slot : Option (List Byte)) :
    abandonedSlot s slot = slotOf (s.generation + 1) s.stagingImage
      ∨ classify (abandonedSlot s slot) ≠ .valid := by
  cases slot with
  | none => exact .inl rfl
  | some bs => exact .inr (unfinishedSlot_not_valid _)

theorem cutShort_commit (ha : activeEntry s = some e) (hk : e.kind = .commit) {i : SlotId}
    (hr : s.commitRun = some (.writing i)) (slot : Option (List Byte)) :
    CutShort s (s.setStore i (abandonedSlot s slot)) := by
  have spec := abandonedSlot_spec s slot
  cases i
  · exact { cutShort_refl s with store := fun
      | .s0 => .inr ⟨hr, ⟨e, ha, hk⟩, spec⟩
      | .s1 => .inl rfl }
  · exact { cutShort_refl s with store := fun
      | .s0 => .inl rfl
      | .s1 => .inr ⟨hr, ⟨e, ha, hk⟩, spec⟩ }

/-! Both operations -/

theorem cutShort_abortActive (hc : Canonical s) (left : Leftover)
    (hl : ∀ e base len, activeEntry s = some e → e.kind = .pageProgram → e.target = .array base len →
      len = 256) : CutShort s (abortActive s left) := by
  unfold abortActive
  split
  · rename_i e ha
    obtain h | ⟨base, len, hk, ht, h⟩ | ⟨page, half, hk, ht, h⟩ | ⟨page, half, hk, ht, h⟩ | ⟨hk, h⟩
      | ⟨i, hk, hr, h⟩ := abortTarget_cases s e left.active left.slot <;> rw [h]
    · exact cutShort_refl s
    · obtain hp | he := (isArrayKind_iff e.kind).mp hk
      · obtain rfl := hl e base len ha hp ht
        exact cutShort_program hc ha hp ht _
      · exact (cutShort_refl s).erase hc (.inl ha) (isEraseKind_iff.mpr he) ht _
    · exact cutShort_sealProgram hc ha hk ht _
    · exact cutShort_sealLock ha hk ht
    · exact cutShort_fuse ha hk
    · exact cutShort_commit ha hk hr _
  · exact cutShort_refl s

theorem suspendedEntry_abortActive (s : State) (left : Leftover) :
    suspendedEntry (abortActive s left) = suspendedEntry s := by
  unfold abortActive
  split
  · obtain ⟨_, _, _, _, _, _, h⟩ := abortTarget_frame s ‹Entry› left.active left.slot
    rw [h]
    rfl
  · rfl

/-- A SUSPENDED entry is an erase (R75, R88). -/
theorem isEraseKind_of_suspended (hs : SequencerSound s) (he : suspendedEntry s = some e) :
    isEraseKind e.kind = true := by
  obtain ⟨-, -, herase, -⟩ := hs
  exact herase e (List.mem_of_find?_eq_some he) (List.find?_some he)

/-- An aborted erase leaves the array alone changed (R164). -/
theorem abortTarget_of_erase (hk : isEraseKind e.kind = true) (stuck : StuckBits)
    (slot : Option (List Byte)) : abortTarget s e stuck slot = s
      ∨ ∃ base len, e.target = .array base len
        ∧ abortTarget s e stuck slot = { s with array := arrayAfter s e base len stuck } := by
  have other {k : Kind} (h : e.kind = k) (hne : isEraseKind k = false) : False := by
    rw [h, hne] at hk
    cases hk
  obtain h | ⟨base, len, -, ht, h⟩ | ⟨_, _, h, -⟩ | ⟨_, _, h, -⟩ | ⟨h, -⟩ | ⟨_, h, -⟩ :=
    abortTarget_cases s e stuck slot
  · exact .inl h
  · exact .inr ⟨base, len, ht, h⟩
  all_goals exact (other h rfl).elim

theorem cutShort_abortOperations (hc : Canonical s) (hs : SequencerSound s) (left : Leftover)
    (hl : ∀ e base len, activeEntry s = some e → e.kind = .pageProgram → e.target = .array base len →
      len = 256) : CutShort s (abortOperations s left) := by
  have active := cutShort_abortActive hc left hl
  unfold abortOperations abortSuspended
  rw [suspendedEntry_abortActive]
  split
  · split
    · rename_i e he
      have hk := isEraseKind_of_suspended hs he
      obtain h | ⟨base, len, ht, h⟩ :=
        abortTarget_of_erase (s := abortActive s left) hk left.suspended none <;> rw [h]
      · exact active
      · exact active.erase (canonical_abortActive hc left) (.inr he) hk ht _
    · exact active
  · exact cutShort_refl s

end

/-- Settles O54: what the two operations leave, and what the command leaves of it. -/
theorem cutShortOperationsLeave : Obligations.CutShortOperationsLeave := by
  unfold Obligations.CutShortOperationsLeave
  intro i s t left hi _ hc hs hl h
  obtain ⟨array, sealBits, locks, fuse, store⟩ :=
    (cutShort_abortOperations hc hs left hl).congr (sameNonvolatile_cutShort hi h)
  exact ⟨array, sealBits, locks, fuse, store⟩

end Sys2Proof.Machine

namespace Sys2Proof.Machine

set_option Elab.async false

/-! ## The session lock and the slot states (R137, R138, R141)

LOCK_SESSION, a COMMIT's start and completion, the load and the supply change them; `marks` reads them off a
state, one lemma per other operation says that it leaves them, and `marks_of_exec` says for which commands that
holds of the whole. -/

/-- The session lock and the states of the two store slots. -/
def marks (s : State) : Bool × SlotClass × SlotClass := (s.sessionLock, s.class0, s.class1)

theorem marks_eq_iff {s t : State} :
    marks t = marks s ↔ t.sessionLock = s.sessionLock ∧ t.class0 = s.class0 ∧ t.class1 = s.class1 := by
  simp only [marks, Prod.mk.injEq]

/-! ### Operations that leave them -/

@[simp] theorem marks_setPort (s : State) (p : Port) (ps : PortState) : marks (s.setPort p ps) = marks s := by
  cases p <;> rfl
@[simp] theorem marks_setSlot (s : State) (i : SlotId) (sl : MailSlot) : marks (s.setSlot i sl) = marks s := by
  cases i <;> rfl
@[simp] theorem marks_enqueue (s : State) (e : Entry) : marks (enqueue s e) = marks s := rfl
@[simp] theorem marks_logEvent (s : State) (k : EventKind) (o t d : Byte) (a : Word) :
    marks (logEvent s k o t d a) = marks s := by unfold logEvent; split <;> rfl
@[simp] theorem marks_refuse (s : State) (p : Port) (code : RefusalCode) : marks (refuse s p code) = marks s :=
  marks_setPort ..
@[simp] theorem marks_refuseTorn (s : State) (p : Port) (c : Command) : marks (refuseTorn s p c) = marks s := by
  simp [refuseTorn]
@[simp] theorem marks_pushCompletion (s : State) (p : Port) (r : Completion) :
    marks (pushCompletion s p r) = marks s := by
  unfold pushCompletion
  dsimp only
  split <;> simp
@[simp] theorem marks_noteTag (s : State) (p : Port) (t : Byte) : marks (noteTag s p t) = marks s :=
  marks_setPort ..
@[simp] theorem marks_takeFree (s : State) (o : Origin) (d : Memory) : marks (takeFree s o d) = marks s := by
  unfold takeFree; split <;> rfl
@[simp] theorem marks_releaseBuffer (s : State) (b : Option (Fin 6)) : marks (releaseBuffer s b) = marks s := by
  cases b <;> rfl
@[simp] theorem marks_removeEntries (s : State) (has : Entry → Bool) : marks (removeEntries s has) = marks s := by
  rw [removeEntries_eq]; rfl

section
variable {s t : State} {p : Port}

theorem marks_decided {checks : List (Bool × RefusalCode)} {accept : State → State}
    (ht : marks t = marks s) (h : marks (accept t) = marks s) : marks (decided t p checks accept) = marks s := by
  unfold decided
  split
  · rw [marks_refuse, ht]
  · exact h

theorem marks_armedDecision {decide : State → State} (ht : marks t = marks s)
    (h : ∀ u, marks u = marks s → marks (decide u) = marks s) : marks (armedDecision t p decide) = marks s := by
  unfold armedDecision
  split
  · exact h _ (by rw [marks_setPort, ht])
  · rw [marks_refuse, ht]

theorem marks_withHeldSlot {field : Byte} {act : SlotId → State} (ht : marks t = marks s)
    (h : ∀ i, marks (act i) = marks s) : marks (withHeldSlot t p field act) = marks s := by
  unfold withHeldSlot
  repeat' split
  · rw [marks_refuse, ht]
  · exact h _
  · rw [marks_refuse, ht]

end

/-! The mailbox and the watchdog -/

section
variable (s : State) (i : SlotId)

@[simp] theorem marks_slotToQueue : marks (slotToQueue s i) = marks s := by simp [slotToQueue]
@[simp] theorem marks_releaseSlot : marks (releaseSlot s i) = marks s := by unfold releaseSlot; split <;> simp
@[simp] theorem marks_fillFromMailbox : marks (fillFromMailbox s) = marks s := by rw [fillFromMailbox_eq]; rfl
@[simp] theorem marks_emptySlotAt : marks (emptySlotAt s i) = marks s := by simp [emptySlotAt]
@[simp] theorem marks_denySlot (auto : Bool) : marks (denySlot s i auto) = marks s := by simp [denySlot]
@[simp] theorem marks_resolveByDefault (auto : Bool) (k : EventKind) :
    marks (resolveByDefault s i auto k) = marks s := by
  unfold resolveByDefault
  dsimp only
  split <;> simp
@[simp] theorem marks_lapseSlot : marks (lapseSlot s i) = marks s := by unfold lapseSlot; split <;> simp
@[simp] theorem marks_lapse : marks (lapse s) = marks s := by
  simp only [lapse, marks_lapseSlot, marks_logEvent]; rfl
@[simp] theorem marks_redirectSlot (a : Nat) : marks (redirectSlot s i a) = marks s := by simp [redirectSlot]
@[simp] theorem marks_writeSlotBuffer (p : Port) (b : Option (Fin 6)) :
    marks (writeSlotBuffer s p b) = marks s := by
  unfold writeSlotBuffer
  repeat' split
  all_goals rfl
@[simp] theorem marks_startWatchdog : marks (startWatchdog s) = marks s := rfl
@[simp] theorem marks_watchdogWritten : marks (watchdogWritten s) = marks s := by
  unfold watchdogWritten
  split
  · split
    case h_3 => exact marks_logEvent ..
    all_goals rfl
  · split <;> rfl
@[simp] theorem marks_takeDefaults (p : Port) : marks (takeDefaults s p) = marks s := by cases p <;> rfl

/-! Requests -/

@[simp] theorem marks_discardLatch (p : Port) : marks (discardLatch s p) = marks s := marks_setPort ..
@[simp] theorem marks_receiveData (p : Port) (start : Nat) (data : List Byte) :
    marks (receiveData s p start data) = marks s := marks_setPort ..
@[simp] theorem marks_takeProgramBuffer (p : Port) (k : Kind) : marks (takeProgramBuffer s p k) = marks s := by
  unfold takeProgramBuffer; split <;> simp
@[simp] theorem marks_acceptModify (p : Port) (k : Kind) (a : Nat) (auto : Bool) :
    marks (acceptModify s p k a auto) = marks s := by simp [acceptModify]
@[simp] theorem marks_queueModify (p : Port) (k : Kind) (a : Nat) : marks (queueModify s p k a) = marks s := by
  unfold queueModify; split <;> simp
@[simp] theorem marks_startTrapDeadline : marks (startTrapDeadline s i) = marks s := rfl
@[simp] theorem marks_holdRequest (k : Kind) (j : Fin 16) (a b : Nat) :
    marks (holdRequest s i k j a b) = marks s := by simp [holdRequest]
@[simp] theorem marks_denyAtOnce (k : Kind) (a : Nat) : marks (denyAtOnce s k a) = marks s := by
  simp [denyAtOnce]
@[simp] theorem marks_releaseAtOnce (k : Kind) (a : Nat) : marks (releaseAtOnce s k a) = marks s := by
  unfold releaseAtOnce; split <;> simp
@[simp] theorem marks_trapStep (k : Kind) (j : Fin 16) (a b : Nat) : marks (trapStep s k j a b) = marks s := by
  unfold trapStep
  repeat' split
  all_goals simp
@[simp] theorem marks_decideModify (p : Port) (k : Kind) (f : Frame) : marks (decideModify s p k f) = marks s := by
  unfold decideModify
  dsimp only
  split
  · simp
  · split
    · simp
    · split
      · simp [refuseModify]
      · refine marks_decided rfl ?_
        split <;> simp
@[simp] theorem marks_acceptEntry (k : Kind) (t : Target) (b : Option (Fin 6)) :
    marks (acceptEntry s k t b) = marks s := by simp [acceptEntry]
@[simp] theorem marks_cancelEntry (p : Port) (e : Entry) : marks (cancelEntry s p e) = marks s := by
  simp only [cancelEntry, marks_fillFromMailbox, marks_pushCompletion, marks_releaseBuffer]; rfl
@[simp] theorem marks_cancelSlot : marks (cancelSlot s i) = marks s := by simp [cancelSlot]
@[simp] theorem marks_decideCancel (p : Port) (t : Byte) : marks (decideCancel s p t) = marks s := by
  unfold decideCancel
  repeat' split
  all_goals simp
@[simp] theorem marks_takeSuspend : marks (takeSuspend s) = marks s := by rw [takeSuspend_eq]; rfl
@[simp] theorem marks_setResumePending : marks (setResumePending s) = marks s := rfl
@[simp] theorem marks_writeLive (off : Nat) (v : Byte) : marks (writeLive s off v) = marks s := by
  unfold writeLive
  dsimp only
  split
  · exact marks_watchdogWritten _
  · rfl

/-! The engine -/

@[simp] theorem marks_setCurrentJob (d : Descriptor) : marks (setCurrentJob s d) = marks s := by
  unfold setCurrentJob; split <;> rfl
@[simp] theorem marks_beginJob (n : Nat) : marks (beginJob s n) = marks s := by unfold beginJob; split <;> rfl
@[simp] theorem marks_drainCheck : marks (drainCheck s) = marks s := by
  unfold drainCheck
  repeat' split
  all_goals rfl
@[simp] theorem marks_moveOn : marks (moveOn s) = marks s := by
  unfold moveOn
  split
  · split
    · exact marks_beginJob ..
    · rfl
  all_goals rfl
@[simp] theorem marks_finishJob (d : Descriptor) : marks (finishJob s d) = marks s := by simp [finishJob]
@[simp] theorem marks_faultJob (d : Descriptor) (c : JobFault) (a : Nat) : marks (faultJob s d c a) = marks s := by
  unfold faultJob; split <;> simp
@[simp] theorem marks_tryStep (d : Descriptor) (k : Kind) (a : Nat) : marks (tryStep s d k a) = marks s := by
  unfold tryStep
  split
  · split
    · simp
    · rw [issueStep_eq]; rfl
  · rfl
@[simp] theorem marks_stepCompleted (e : Entry) (out : OpOutcome) : marks (stepCompleted s e out) = marks s := by
  unfold stepCompleted finishIfDone
  dsimp only
  repeat' split
  all_goals simp
@[simp] theorem marks_afterChunk (d : Descriptor) : marks (afterChunk s d) = marks s := by
  unfold afterChunk; split <;> simp
@[simp] theorem marks_digestChunk (d : Descriptor) : marks (digestChunk s d) = marks s := by
  unfold digestChunk
  dsimp only
  split
  · exact marks_afterChunk ..
  · rfl
@[simp] theorem marks_verifyChunk (d : Descriptor) : marks (verifyChunk s d) = marks s := by
  unfold verifyChunk
  dsimp only
  repeat' split
  all_goals simp
@[simp] theorem marks_startNext (p : Port) : marks (startNext s p) = marks s := by
  unfold startNext
  split
  · exact marks_beginJob ..
  · simp

/-! Completions and resets -/

@[simp] theorem marks_reportOutcome (e : Entry) (out : OpOutcome) : marks (reportOutcome s e out) = marks s := by
  have logged : marks (logFailed s e out) = marks s := by unfold logFailed; split <;> simp
  unfold reportOutcome
  dsimp only
  repeat' split
  all_goals simp [logged]
@[simp] theorem marks_removeActive (e : Entry) : marks (removeActive s e) = marks s := marks_releaseBuffer ..
@[simp] theorem marks_expireHold (e : Entry) : marks (expireHold s e) = marks s := by
  unfold expireHold
  split
  · rfl
  · exact marks_logEvent ..
@[simp] theorem marks_abortOperations (left : Leftover) : marks (abortOperations s left) = marks s := by
  obtain ⟨_, _, _, _, _, _, h⟩ := abortOperations_frame s left
  rw [h]
  rfl
@[simp] theorem marks_enterReset (left : Leftover) : marks (enterReset s left) = marks s :=
  (marks_removeEntries ..).trans (marks_abortOperations s left)
@[simp] theorem marks_orphanEntries (o : Origin) : marks (orphanEntries s o) = marks s := by
  rw [orphanEntries_eq]; rfl
@[simp] theorem marks_softReset (p : Port) : marks (softReset s p) = marks s := by
  have engine (t : State) : marks (resetEngine t) = marks t := marks_orphanEntries t .job
  cases p <;> simp [softReset, resetShared, resetPortState, engine]

/-! Transactions -/

@[simp] theorem marks_beginTransaction (p : Port) : marks (beginTransaction s p) = marks s := by
  obtain ⟨ps, h⟩ := beginTransaction_eq s p
  rw [h, marks_setPort]
@[simp] theorem marks_deselect (p : Port) : marks (deselect s p) = marks s := marks_setPort ..
@[simp] theorem marks_closeTransaction (p : Port) : marks (closeTransaction s p) = marks s := marks_setPort ..
@[simp] theorem marks_ended (p : Port) : marks (ended s p) = marks s := by simp [ended]
@[simp] theorem marks_consumeDelivery (p : Port) : marks (consumeDelivery s p) = marks s := by
  obtain h | ⟨tx, fifo, log, -, h⟩ := consumeDelivery_cases s p <;> rw [h]
  exact marks_setPort ..
@[simp] theorem marks_fetchByte (p : Port) (r : ReadOp) : marks (fetchByte s p r) = marks s := by
  unfold fetchByte
  dsimp only
  split
  · rename_i tx _
    obtain ⟨flags, h⟩ := dataByte_snd (consumeDelivery s p) p
      (chooseDelivery (consumeDelivery s p) p r tx) r
    simp [h]
  all_goals simp
@[simp] theorem marks_firstFetch (p : Port) (tx : Tx) (w : List Byte) : marks (firstFetch s p tx w) = marks s := by
  unfold firstFetch
  dsimp only
  split <;> simp [startRead, receiveBytes]
@[simp] theorem marks_wakeUp (p : Port) : marks (wakeUp s p) = marks s := by
  have port (ps : PortState) : marks (s.setPort p ps) = marks s := marks_setPort ..
  unfold wakeUp
  dsimp only
  repeat' split
  all_goals exact port _

end

/-! ### Commands that leave them -/

/-- The outcome is a next state with the lock and the slot states as they were. -/
def KeepsMarks (s : State) (o : Host.Outcome State Fault Refusal) : Prop :=
  ∃ u, o = finish u ∧ marks u = marks s

section
variable {s : State} {p : Port} {f : Frame}

theorem keepsMarks_finish {u : State} (h : marks u = marks s := by simp) : KeepsMarks s (finish u) := ⟨u, rfl, h⟩

theorem keepsMarks_endTransaction {fits : Tx → Bool} {act : Tx → State → State}
    (h : ∀ tx t, marks (act tx t) = marks t) : KeepsMarks s (endTransaction s p fits act) := by
  obtain he | he | he | ⟨tx, -, -, he⟩ := endTransaction_cases s p fits act <;> rw [he]
  · exact keepsMarks_finish
  · exact keepsMarks_finish
  · exact keepsMarks_finish
  · exact keepsMarks_finish ((h tx _).trans (marks_ended s p))

/-- A request's row has its own effect on the ended state, or leaves the marks (R8, R9, R10). -/
theorem requestEnd_cases {c : Command} {act : Tx → State → State} : KeepsMarks s (requestEnd s p c f act)
    ∨ ∃ tx, requestEnd s p c f act = finish (act tx (ended s p)) := by
  unfold requestEnd
  obtain he | he | he | ⟨tx, -, -, he⟩ := endTransaction_cases s p (txFits c) (fun tx s' =>
    if !recognises p c then refuse s' p .unknownCommand
    else if torn c f then refuseTorn s' p c
    else act tx s') <;> rw [he]
  · exact .inl keepsMarks_finish
  · exact .inl keepsMarks_finish
  · exact .inl keepsMarks_finish
  · split
    · exact .inl keepsMarks_finish
    · split
      · exact .inl keepsMarks_finish
      · exact .inr ⟨tx, rfl⟩

theorem keepsMarks_request {c : Command} {act : Tx → State → State} (h : ∀ tx t, marks (act tx t) = marks t) :
    KeepsMarks s (requestEnd s p c f act) := by
  obtain hk | ⟨tx, he⟩ := requestEnd_cases (s := s) (p := p) (f := f) (c := c) (act := act)
  · exact hk
  · rw [he]
    exact keepsMarks_finish ((h tx _).trans (marks_ended s p))

theorem keepsMarks_read {c : Command} {act : Tx → List Byte → State → State}
    (h : ∀ tx bs t, marks (act tx bs t) = marks t) : KeepsMarks s (readEnd s p c f act) := by
  refine keepsMarks_endTransaction fun tx t => ?_
  split
  · simp
  · split
    · exact h tx _ t
    · rfl

/-- A request whose whole effect, after some checks perhaps, is on its port. -/
theorem keepsMarks_portRequest {c : Command} {checks : List (Bool × RefusalCode)} {g : State → PortState} :
    KeepsMarks s (requestEnd s p c f fun _ s' => decided s' p checks fun s' => s'.setPort p (g s')) :=
  keepsMarks_request fun _ _ => marks_decided rfl (by simp)

theorem keepsMarks_modify {c : Command} {k : Kind} {prepare : State → State}
    (hp : ∀ t, marks (prepare t) = marks t) : KeepsMarks s (requestEnd s p c f fun _ s' =>
      discardLatch (armedDecision (prepare s') p fun s'' => decideModify s'' p k f) p) :=
  keepsMarks_request fun _ t => (marks_discardLatch ..).trans
    (marks_armedDecision (hp t) fun _ hu => (marks_decideModify ..).trans hu)

theorem keepsMarks_suspend : KeepsMarks s (execSuspend p f s) := by
  refine keepsMarks_request fun _ t => ?_
  split
  · simp
  · exact marks_decided rfl (by simp)

theorem keepsMarks_resume : KeepsMarks s (execResume p f s) := by
  refine keepsMarks_request fun _ t => ?_
  split
  · simp
  · exact marks_decided rfl (by simp)

theorem keepsMarks_resetPort : KeepsMarks s (execResetPort p f s) := by
  refine keepsMarks_request fun _ t => ?_
  split <;> simp

theorem keepsMarks_wake : KeepsMarks s (execWake p f s) := by
  unfold execWake wakeEnd
  dsimp only
  repeat' split
  all_goals exact keepsMarks_finish

theorem keepsMarks_mailboxRedirect : KeepsMarks s (execMailboxRedirect p f s) := by
  refine keepsMarks_request fun _ t => marks_withHeldSlot rfl fun i => ?_
  dsimp only
  repeat' split
  all_goals simp

theorem keepsMarks_mailboxRelease : KeepsMarks s (execMailboxRelease p f s) :=
  keepsMarks_request fun _ _ => marks_withHeldSlot rfl fun _ => by simp

theorem keepsMarks_mailboxDeny : KeepsMarks s (execMailboxDeny p f s) :=
  keepsMarks_request fun _ _ => marks_withHeldSlot rfl fun _ => by simp

theorem keepsMarks_mailboxDataWrite : KeepsMarks s (execMailboxDataWrite p f s) :=
  keepsMarks_request fun _ t => (marks_discardLatch ..).trans
    (marks_withHeldSlot (by simp) fun _ => marks_decided (by simp) (by simp))

theorem keepsMarks_heartbeat : KeepsMarks s (execHeartbeat p f s) := by
  refine keepsMarks_request fun _ t => ?_
  split <;> simp

theorem keepsMarks_tableWriteEntry : KeepsMarks s (execTableWriteEntry p f s) := by
  refine keepsMarks_request fun _ t => marks_decided rfl ?_
  split
  · rfl
  · simp

theorem keepsMarks_tableClearEntry : KeepsMarks s (execTableClearEntry p f s) := by
  refine keepsMarks_request fun _ t => marks_decided rfl ?_
  split
  · rfl
  · simp

theorem keepsMarks_swapViews : KeepsMarks s (execSwapViews p f s) := by
  refine keepsMarks_request fun _ t => marks_decided rfl ?_
  split
  · split
    · rfl
    · simp
  · simp

theorem keepsMarks_commit : KeepsMarks s (execCommit p f s) :=
  keepsMarks_request fun _ _ => marks_armedDecision rfl fun _ hu =>
    marks_decided hu (marks_decided hu ((marks_acceptEntry ..).trans hu))

theorem keepsMarks_guardFuse : KeepsMarks s (execGuardFuse p f s) :=
  keepsMarks_request fun _ _ => marks_armedDecision rfl fun _ hu =>
    marks_decided hu ((marks_acceptEntry ..).trans hu)

theorem keepsMarks_sealLock : KeepsMarks s (execSealLock p f s) :=
  keepsMarks_request fun _ _ => marks_armedDecision rfl fun _ hu =>
    marks_decided hu ((marks_acceptEntry ..).trans hu)

theorem keepsMarks_sealProgram : KeepsMarks s (execSealProgram p f s) :=
  keepsMarks_request fun _ _ => (marks_discardLatch ..).trans
    (marks_armedDecision (marks_receiveData ..) fun _ hu =>
      marks_decided hu (by rw [marks_acceptEntry, marks_takeFree, hu]))

theorem keepsMarks_jobLoad : KeepsMarks s (execJobLoad p f s) := by
  refine keepsMarks_request fun _ t => ?_
  split
  · simp
  · split
    · simp
    · exact marks_decided rfl rfl

theorem keepsMarks_jobStart : KeepsMarks s (execJobStart p f s) := by
  refine keepsMarks_request fun _ t => ?_
  split
  case h_3 =>
    split
    · rfl
    · simp
  all_goals simp

theorem keepsMarks_jobPause : KeepsMarks s (execJobPause p f s) := by
  refine keepsMarks_request fun _ t => ?_
  split
  · exact marks_drainCheck _
  · simp

theorem keepsMarks_jobAbort : KeepsMarks s (execJobAbort p f s) := by
  refine keepsMarks_request fun _ t => ?_
  split
  case h_1 | h_2 | h_3 | h_4 =>
    rw [marks_drainCheck, marks_fillFromMailbox, marks_removeEntries]
    rfl
  all_goals simp

theorem keepsMarks_jobClear : KeepsMarks s (execJobClear p f s) := by
  refine keepsMarks_request fun _ t => ?_
  split
  case h_1 | h_2 => rfl
  all_goals simp

theorem keepsMarks_readPortStatus : KeepsMarks s (execReadPortStatus p f s) := by
  refine keepsMarks_read fun _ _ t => ?_
  split
  · exact marks_setPort ..
  · rfl

theorem keepsMarks_eventRead : KeepsMarks s (execEventRead p f s) := by
  refine keepsMarks_read fun _ _ t => ?_
  split <;> rfl

theorem keepsMarks_continuationTransaction : KeepsMarks s (execContinuationTransaction p f s) := by
  refine keepsMarks_endTransaction fun _ t => ?_
  split
  · simp
  · split
    · exact marks_setPort ..
    · rfl

theorem keepsMarks_unknownCommand (code : Byte) : KeepsMarks s (execUnknownCommand p code f s) := by
  unfold execUnknownCommand
  exact keepsMarks_endTransaction fun _ _ => marks_refuse ..

theorem keepsMarks_dataByteFetch (w : List Byte) : KeepsMarks s (execDataByteFetch p w s) := by
  unfold execDataByteFetch
  dsimp only
  repeat' split
  all_goals exact keepsMarks_finish

theorem keepsMarks_ignoredTransactionEnd : KeepsMarks s (execIgnoredTransactionEnd p s) := by
  unfold execIgnoredTransactionEnd
  repeat' split
  all_goals exact keepsMarks_finish

theorem keepsMarks_completionPop : KeepsMarks s (execCompletionPop p s) := by
  unfold execCompletionPop
  split <;> exact keepsMarks_finish

theorem keepsMarks_eventPop : KeepsMarks s (execEventPop s) := by
  unfold execEventPop
  split <;> exact keepsMarks_finish

/-! The events inside the device -/

theorem keepsMarks_entryRestart : KeepsMarks s (execEntryRestart s) := by
  unfold execEntryRestart
  repeat' split
  all_goals exact keepsMarks_finish rfl

theorem keepsMarks_suspendTaken : KeepsMarks s (execSuspendTaken s) := by
  unfold execSuspendTaken
  split <;> exact keepsMarks_finish rfl

theorem keepsMarks_runQuantumExpiry : KeepsMarks s (execRunQuantumExpiry s) := by
  unfold execRunQuantumExpiry
  split <;> exact keepsMarks_finish rfl

theorem keepsMarks_holdDeadlineExpiry : KeepsMarks s (execHoldDeadlineExpiry s) := by
  unfold execHoldDeadlineExpiry
  repeat' split
  all_goals exact keepsMarks_finish

theorem keepsMarks_releasingSlotEntry : KeepsMarks s (execReleasingSlotEntry s) := by
  unfold execReleasingSlotEntry
  split <;> exact keepsMarks_finish

theorem keepsMarks_trapDeadlineExpiry (i : SlotId) : KeepsMarks s (execTrapDeadlineExpiry i s) := by
  unfold execTrapDeadlineExpiry
  split <;> exact keepsMarks_finish

theorem keepsMarks_watchdogWarningPoint : KeepsMarks s (execWatchdogWarningPoint s) := by
  unfold execWatchdogWarningPoint
  split <;> exact keepsMarks_finish rfl

theorem keepsMarks_watchdogLapse : KeepsMarks s (execWatchdogLapse s) := by
  unfold execWatchdogLapse
  split <;> exact keepsMarks_finish

theorem keepsMarks_jobStepIssue : KeepsMarks s (execJobStepIssue s) := by
  unfold execJobStepIssue
  repeat' split
  all_goals exact keepsMarks_finish

theorem keepsMarks_chunkRead : KeepsMarks s (execChunkRead s) := by
  unfold execChunkRead
  repeat' split
  all_goals exact keepsMarks_finish

theorem keepsMarks_tick : KeepsMarks s (execTick s) := by
  unfold execTick
  split <;> exact keepsMarks_finish rfl

theorem keepsMarks_resetNAssert (left : Leftover) : KeepsMarks s (execResetNAssert left s) := by
  unfold execResetNAssert
  split
  case h_1 | h_2 => exact keepsMarks_finish
  all_goals exact keepsMarks_finish rfl

end

/-- The commands that may change the session lock or a slot state (R137, R139, R141, R142). -/
def touchesMarks : Instr → Bool
  | .lockSession _ _ | .entryStart | .operationCompletion _ | .powerOn _ | .powerLoss _ | .resetNRelease => true
  | _ => false

theorem exec_keepsMarks (i : Instr) (s : State) (hi : touchesMarks i = false) : KeepsMarks s (exec i s) := by
  cases i
  case lockSession | entryStart | operationCompletion | powerOn | powerLoss | resetNRelease => cases hi
  case dataByteFetch p w => exact keepsMarks_dataByteFetch w
  case armWrite | disarmWrite | setIrqMask | resetArm => exact keepsMarks_request fun _ _ => marks_setPort ..
  case setLanes | setWait | setWrap => exact keepsMarks_portRequest
  case pageProgram p f =>
    exact keepsMarks_modify
      (prepare := fun t => receiveData t p (byteAt f.bytes 3).toNat (f.bytes.drop 4))
      fun t => marks_receiveData ..
  case sectorErase | blockErase => exact keepsMarks_modify (prepare := id) fun _ => rfl
  case suspend => exact keepsMarks_suspend
  case resume => exact keepsMarks_resume
  case cancel => exact keepsMarks_request fun _ _ => marks_decideCancel ..
  case resetPort => exact keepsMarks_resetPort
  case dormant => exact keepsMarks_request fun _ _ => marks_decided rfl rfl
  case wake => exact keepsMarks_wake
  case tableWriteEntry => exact keepsMarks_tableWriteEntry
  case tableClearEntry => exact keepsMarks_tableClearEntry
  case stageFromActive | settingsWriteStaged => exact keepsMarks_request fun _ _ => marks_decided rfl rfl
  case commit => exact keepsMarks_commit
  case swapViews => exact keepsMarks_swapViews
  case settingsWriteLive => exact keepsMarks_request fun _ _ => marks_decided rfl (by simp)
  case mailboxRelease => exact keepsMarks_mailboxRelease
  case mailboxDeny => exact keepsMarks_mailboxDeny
  case mailboxRedirect => exact keepsMarks_mailboxRedirect
  case mailboxDataWrite => exact keepsMarks_mailboxDataWrite
  case releasingSlotEntry => exact keepsMarks_releasingSlotEntry
  case heartbeat => exact keepsMarks_heartbeat
  case jobLoad => exact keepsMarks_jobLoad
  case jobStart => exact keepsMarks_jobStart
  case jobPause => exact keepsMarks_jobPause
  case jobAbort => exact keepsMarks_jobAbort
  case jobClear => exact keepsMarks_jobClear
  case sealProgram => exact keepsMarks_sealProgram
  case sealLock => exact keepsMarks_sealLock
  case guardFuse => exact keepsMarks_guardFuse
  case streamRead => exact keepsMarks_read fun _ _ _ => marks_setPort ..
  case continuationTransaction => exact keepsMarks_continuationTransaction
  case readPortStatus => exact keepsMarks_readPortStatus
  case unknownCommand p code f => exact keepsMarks_unknownCommand (f := f) code
  case completionPop => exact keepsMarks_completionPop
  case eventRead => exact keepsMarks_eventRead
  case eventPop => exact keepsMarks_eventPop
  case entryRestart => exact keepsMarks_entryRestart
  case suspendTaken => exact keepsMarks_suspendTaken
  case runQuantumExpiry => exact keepsMarks_runQuantumExpiry
  case holdDeadlineExpiry => exact keepsMarks_holdDeadlineExpiry
  case trapDeadlineExpiry slot => exact keepsMarks_trapDeadlineExpiry slot
  case watchdogWarningPoint => exact keepsMarks_watchdogWarningPoint
  case watchdogLapse => exact keepsMarks_watchdogLapse
  case jobStepIssue => exact keepsMarks_jobStepIssue
  case chunkRead => exact keepsMarks_chunkRead
  case resetNAssert left => exact keepsMarks_resetNAssert left
  case transactionBegin => exact keepsMarks_finish (marks_beginTransaction ..)
  case ignoredTransactionEnd => exact keepsMarks_ignoredTransactionEnd
  case tick => exact keepsMarks_tick
  case guardNChange => exact keepsMarks_finish rfl
  all_goals exact keepsMarks_read fun _ _ _ => rfl

theorem KeepsMarks.of_next {s t : State} {o : Host.Outcome State Fault Refusal} (h : KeepsMarks s o)
    (ht : o = .next t) : marks t = marks s := by
  obtain ⟨u, rfl, hu⟩ := h
  obtain rfl : driveIrq u = t := Host.Outcome.next.inj ht
  exact hu

theorem marks_of_exec {i : Instr} {s t : State} (h : exec i s = .next t) (hi : touchesMarks i = false) :
    marks t = marks s := (exec_keepsMarks i s hi).of_next h

/-! ### Commands that change them -/

section
variable {s t : State}

theorem sessionLock_of_marks (h : marks t = marks s) : t.sessionLock = s.sessionLock := (marks_eq_iff.mp h).1

theorem classes_of_marks (h : marks t = marks s) : t.class0 = s.class0 ∧ t.class1 = s.class1 :=
  (marks_eq_iff.mp h).2

/-- A start other than a COMMIT's leaves the marks, and a COMMIT's the lock (R78, R141). -/
theorem marks_startEffect {e : Entry} (h : e.kind ≠ .commit) : marks (startEffect s e) = marks s := by
  rw [startEffect_of_ne_commit s h]
  split <;> rfl

theorem sessionLock_startEffect (s : State) (e : Entry) : (startEffect s e).sessionLock = s.sessionLock := by
  by_cases h : e.kind = .commit
  · rw [startEffect_of_commit s h, startCommit]
    split <;> simp
  · exact sessionLock_of_marks (marks_startEffect h)

/-- ENTRY_START starts an entry, or does nothing (R77). -/
theorem exec_entryStart_cases (s : State) : exec .entryStart s = finish s
    ∨ ∃ e q, startOldest (suspendedEntry s) [] s.queue = some (e, q)
      ∧ exec .entryStart s = finish (startEffect { s with queue := q } e) := by
  simp only [exec, execEntryStart]
  split
  · split
    · exact .inr ⟨_, _, ‹_›, rfl⟩
    · exact .inl rfl
  · exact .inl rfl

@[simp] theorem sessionLock_applyCommit (s : State) (k : EventKind) (g d : Byte) (a : Word) :
    (applyCommit s k g d a).sessionLock = s.sessionLock := by
  have staged (u : State) : marks (applyStaging u) = marks u := by
    unfold applyStaging
    dsimp only
    split
    · rfl
    · exact marks_watchdogWritten _
  refine sessionLock_of_marks ?_
  unfold applyCommit
  split <;> simp [staged]

theorem sessionLock_commitResult (s : State) (g : Byte) (stuck : StuckBits) :
    (commitResult s g stuck).1.sessionLock = s.sessionLock := by
  unfold commitResult
  dsimp only
  split
  · split <;> simp
  · simp
  · simp

/-- A result other than a COMMIT's leaves the marks, and a COMMIT's the lock (R82, R142). -/
theorem marks_operationResult {e : Entry} (h : e.kind ≠ .commit) (stuck : StuckBits) :
    marks (operationResult s e stuck).1 = marks s := by
  unfold operationResult
  split
  case h_4 hk => exact absurd hk h
  case h_5 | h_7 =>
    split
    · exact marks_logEvent ..
    · rfl
  all_goals rfl

theorem sessionLock_operationResult (s : State) (e : Entry) (stuck : StuckBits) :
    (operationResult s e stuck).1.sessionLock = s.sessionLock := by
  by_cases h : e.kind = .commit
  · rw [operationResult, h]
    exact sessionLock_commitResult ..
  · exact sessionLock_of_marks (marks_operationResult h stuck)

/-- What follows the result of a completion leaves the marks (R82, R83). -/
theorem exec_operationCompletion_marks {stuck : StuckBits} (h : exec (.operationCompletion stuck) s = .next t) :
    marks t = marks s ∨ ∃ e, activeEntry s = some e ∧ marks t = marks (operationResult s e stuck).1 := by
  simp only [exec, execOperationCompletion] at h
  split at h
  · split at h
    · cases h
      exact .inl rfl
    · rename_i e he
      refine .inr ⟨e, he, KeepsMarks.of_next ?_ h⟩
      exact keepsMarks_finish
  · cases h
    exact .inl rfl

theorem classes_of_entryStart (h : exec .entryStart s = .next t)
    (hk : ∀ e q, startOldest (suspendedEntry s) [] s.queue = some (e, q) → e.kind ≠ .commit) :
    t.class0 = s.class0 ∧ t.class1 = s.class1 := by
  refine classes_of_marks (KeepsMarks.of_next ?_ h)
  obtain he | ⟨e, q, hq, he⟩ := exec_entryStart_cases s <;> rw [he]
  · exact keepsMarks_finish
  · exact keepsMarks_finish (marks_startEffect (hk e q hq))

theorem classes_of_operationCompletion {stuck : StuckBits} (h : exec (.operationCompletion stuck) s = .next t)
    (hk : ∀ e, activeEntry s = some e → e.kind ≠ .commit) : t.class0 = s.class0 ∧ t.class1 = s.class1 := by
  obtain hm | ⟨e, ha, hm⟩ := exec_operationCompletion_marks h
  · exact classes_of_marks hm
  · exact classes_of_marks (hm.trans (marks_operationResult (hk e ha) stuck))

/-- LOCK_SESSION: the lock and its event, the first time (R137). -/
def lockOnce (s : State) : State :=
  if s.sessionLock then s else logEvent { s with sessionLock := true } .sessionLocked 2 0 0 noAddress

theorem exec_lockSession {f : Frame} (h : Arrives s .m .lockSession f) :
    exec (.lockSession .m f) s = finish (lockOnce (ended s .m)) := requestEnd_of_arrives h lockOnce

@[simp] theorem ended_sessionLock (s : State) (p : Port) : (ended s p).sessionLock = s.sessionLock :=
  sessionLock_of_marks (marks_ended s p)

theorem sessionLock_lockOnce (s : State) : (lockOnce s).sessionLock = true := by
  unfold lockOnce
  split
  · assumption
  · simp

theorem classes_lockOnce (s : State) : (lockOnce s).class0 = s.class0 ∧ (lockOnce s).class1 = s.class1 := by
  unfold lockOnce
  split <;> simp

/-- LOCK_SESSION leaves the marks, or sets the lock and leaves the slot states (R137). -/
theorem marks_of_lockSession {p : Port} {f : Frame} (h : exec (.lockSession p f) s = .next t) :
    marks t = marks s ∨ t.sessionLock = true ∧ t.class0 = s.class0 ∧ t.class1 = s.class1 := by
  obtain hk | ⟨tx, he⟩ := requestEnd_cases (s := s) (p := p) (f := f) (c := .lockSession)
    (act := fun _ => lockOnce)
  · exact .inl (hk.of_next h)
  · obtain rfl : driveIrq (lockOnce (ended s p)) = t := Host.Outcome.next.inj (he.symm.trans h)
    obtain ⟨h0, h1⟩ := classes_lockOnce (ended s p)
    obtain ⟨e0, e1⟩ := classes_of_marks (marks_ended s p)
    exact .inr ⟨sessionLock_lockOnce _, h0.trans e0, h1.trans e1⟩

/-- The release of RESET_N keeps the lock of a device that has been powered on (R137, R162). -/
theorem sessionLock_of_resetNRelease (hw : s.power ≠ .waiting) (h : exec .resetNRelease s = .next t) :
    t.sessionLock = s.sessionLock := by
  simp only [exec, execResetNRelease] at h
  split at h
  next =>
    obtain rfl : driveIrq _ = t := Host.Outcome.next.inj h
    rw [driveIrq_sessionLock, foldl_logAborted, sessionLock_reportAll, sessionLock_powerOnStep]
  next hp => exact absurd hp hw
  all_goals
    cases h
    rfl

theorem sessionLock_of_entryStart (h : exec .entryStart s = .next t) : t.sessionLock = s.sessionLock := by
  obtain he | ⟨e, q, -, he⟩ := exec_entryStart_cases s <;>
    obtain rfl : driveIrq _ = t := Host.Outcome.next.inj (he.symm.trans h)
  · rfl
  · exact sessionLock_startEffect ..

theorem sessionLock_of_operationCompletion {stuck : StuckBits}
    (h : exec (.operationCompletion stuck) s = .next t) : t.sessionLock = s.sessionLock := by
  obtain hm | ⟨e, -, hm⟩ := exec_operationCompletion_marks h
  · exact sessionLock_of_marks hm
  · exact (sessionLock_of_marks hm).trans (sessionLock_operationResult s e stuck)

end

/-- Settles O15: of the commands that touch the lock, those that the supply does not make keep it. -/
theorem sessionLock : Obligations.SessionLock := by
  unfold Obligations.SessionLock
  refine ⟨fun s f ha => ?_, fun i s t h hs hw hon hloss => ?_⟩
  · rw [exec_lockSession ha, lockOnce, ended_sessionLock]
    rfl
  · cases hi : touchesMarks i with
    | false => exact (sessionLock_of_marks (marks_of_exec h hi)).trans hs
    | true =>
      cases i
      case lockSession =>
        obtain hm | ⟨hset, -⟩ := marks_of_lockSession h
        · exact (sessionLock_of_marks hm).trans hs
        · exact hset
      case entryStart => exact (sessionLock_of_entryStart h).trans hs
      case operationCompletion => exact (sessionLock_of_operationCompletion h).trans hs
      case resetNRelease => exact (sessionLock_of_resetNRelease hw h).trans hs
      case powerOn left => exact absurd rfl (hon left)
      case powerLoss left => exact absurd rfl (hloss left)
      all_goals cases hi

end Sys2Proof.Machine

namespace Sys2Proof.Machine

set_option Elab.async false

/-! ## The bytes of an image and of a store slot (sections 4.1, 4.2, 8.3, R138, R139) -/

/-! ### Fields at a place of a list of bytes -/

theorem byteAt_drop (bs : List Byte) (n i : Nat) : byteAt (bs.drop n) i = byteAt bs (n + i) := by
  simp only [byteAt, List.getD_eq_getElem?_getD, List.getElem?_drop]

theorem be16_drop (bs : List Byte) (n i : Nat) : be16 (bs.drop n) i = be16 bs (n + i) := by
  rw [be16, be16, byteAt_drop, byteAt_drop, Nat.add_assoc]

theorem be32_drop (bs : List Byte) (n i : Nat) : be32 (bs.drop n) i = be32 bs (n + i) := by
  rw [be32, be32, be16_drop, be16_drop, Nat.add_assoc]

/-- The two bytes of a field, as they were read (00_scope section 4.5). -/
theorem bytes16_be16 (bs : List Byte) (i : Nat) : bytes16 (be16 bs i) = [byteAt bs i, byteAt bs (i + 1)] := by
  have high (a b : Byte) : (a ++ b : Half).extractLsb' 8 8 = a := by
    refine BitVec.eq_of_getLsbD_eq fun k hk => ?_
    rw [BitVec.getLsbD_extractLsb', BitVec.getLsbD_append, if_neg (by omega)]
    simp [hk]
  have low (a b : Byte) : (a ++ b : Half).extractLsb' 0 8 = b := by
    refine BitVec.eq_of_getLsbD_eq fun k hk => ?_
    rw [BitVec.getLsbD_extractLsb', BitVec.getLsbD_append, Nat.zero_add, if_pos hk]
    simp [hk]
  rw [bytes16, be16, high, low]

/-- The first bytes of a list, one by one. -/
theorem map_byteAt_range {n : Nat} {bs : List Byte} (h : n ≤ bs.length) :
    (List.range n).map (byteAt bs) = bs.take n := by
  refine List.ext_getElem (by simp [h]) fun i hi hi' => ?_
  rw [List.length_take] at hi'
  rw [List.getElem_map, List.getElem_range, List.getElem_take, byteAt, List.getD_eq_getElem]

/-! ### The image and its 205 bytes -/

/-- An entry's fields do not look past its 12 bytes (section 4.1). -/
theorem entryOf_entryBytes (e : PartEntry) (rest : List Byte) : entryOf (entryBytes e ++ rest) = e := by
  have half (h : Half) (f : List Byte) (i : Nat) (he : (entryBytes e ++ rest).drop i = bytes16 h ++ f) :
      be16 (entryBytes e ++ rest) i = h := by
    rw [← be16_bytes16 h f, ← he, be16_drop, Nat.add_zero]
  rw [entryOf, half e.physBase _ 1 rfl, half e.length _ 3 rfl, half e.viewBase _ 5 rfl]
  rfl

theorem entryBytes_entryOf {bs : List Byte} (h : 12 ≤ bs.length) : entryBytes (entryOf bs) = bs.take 12 := by
  rw [← map_byteAt_range h, entryBytes, entryOf, bytes16_be16, bytes16_be16, bytes16_be16]
  rfl

theorem settingsOf_settingsBytes_append (t : Settings) (rest : List Byte) :
    settingsOf (settingsBytes t ++ rest) = t := rfl

theorem settingsBytes_settingsOf {bs : List Byte} (h : 13 ≤ bs.length) :
    settingsBytes (settingsOf bs) = bs.take 13 := (map_byteAt_range h : _)

/-- The entries' bytes stand one after another, 12 for each (section 4.2). -/
theorem drop_flatMap_entryBytes (es : List PartEntry) (i : Nat) :
    (es.flatMap entryBytes).drop (12 * i) = (es.drop i).flatMap entryBytes := by
  induction i generalizing es with
  | zero => rfl
  | succ i ih =>
    cases es with
    | nil => simp
    | cons e es =>
      rw [List.flatMap_cons, Nat.mul_succ, Nat.add_comm, List.drop_append, entryBytes_length,
        Nat.add_sub_cancel_left, ih, List.drop_eq_nil_of_le (by simp), List.nil_append, List.drop_succ_cons]

theorem drop_imageToBytes (im : Image) (i : Fin 16) : ∃ rest,
    (imageToBytes im).drop (13 + 12 * i.val) = entryBytes im.entries[i] ++ rest := by
  refine ⟨(im.entries.toList.drop (i.val + 1)).flatMap entryBytes, ?_⟩
  have hi : i.val < im.entries.toList.length := by simp
  rw [imageToBytes, List.drop_append, settingsBytes_length, Nat.add_sub_cancel_left,
    List.drop_eq_nil_of_le (by simp), List.nil_append, drop_flatMap_entryBytes,
    List.drop_eq_getElem_cons hi, List.flatMap_cons]
  simp

/-- Every image reads back from its bytes (section 4.2). -/
theorem imageOf_imageToBytes (im : Image) : imageOf (imageToBytes im) = im := by
  have entries : Vector.ofFn (fun i : Fin 16 => entryOf ((imageToBytes im).drop (13 + 12 * i.val)))
      = im.entries := by
    refine Vector.ext fun i hi => ?_
    obtain ⟨rest, h⟩ := drop_imageToBytes im ⟨i, hi⟩
    rw [Vector.getElem_ofFn, h, entryOf_entryBytes]
    rfl
  rw [imageOf, entries, imageToBytes, settingsOf_settingsBytes_append]

/-- The bytes of the entries that a list of bytes describes. -/
theorem flatMap_entryBytes_entryOf (n : Nat) {bs : List Byte} (h : bs.length = 12 * n) :
    (List.ofFn fun i : Fin n => entryOf (bs.drop (12 * i.val))).flatMap entryBytes = bs := by
  induction n generalizing bs with
  | zero =>
    rw [List.length_eq_zero_iff.mp h]
    rfl
  | succ n ih =>
    have rest := ih (bs := bs.drop 12) (by rw [List.length_drop]; omega)
    simp only [List.drop_drop] at rest
    rw [List.ofFn_succ, List.flatMap_cons]
    simp only [Fin.val_zero, Nat.mul_zero, List.drop_zero, Fin.val_succ, Nat.mul_succ, Nat.add_comm (12 * _)]
    rw [rest, entryBytes_entryOf (by omega), List.take_append_drop]

/-- Every 205 bytes are those of the image that they describe (section 4.2). -/
theorem imageToBytes_imageOf {bs : List Byte} (h : bs.length = 205) : imageToBytes (imageOf bs) = bs := by
  have entries := flatMap_entryBytes_entryOf 16 (bs := bs.drop 13) (by rw [List.length_drop]; omega)
  simp only [List.drop_drop] at entries
  rw [imageToBytes, imageOf, settingsBytes_settingsOf (by omega), Vector.toList_ofFn, entries,
    List.take_append_drop]

/-! ### The slot and its 213 bytes -/

@[simp] theorem slotBody_length (gen : Word) (im : Image) : (slotBody gen im).length = 209 := by
  simp [slotBody, length_imageToBytes]

theorem take_slotOf (gen : Word) (im : Image) : (slotOf gen im).take 209 = slotBody gen im := by
  rw [slotOf, List.take_left' (slotBody_length gen im)]

theorem slotGeneration_slotOf (gen : Word) (im : Image) : slotGeneration (slotOf gen im) = gen := by
  rw [slotGeneration, slotOf, slotBody, List.append_assoc, be32_bytes32]

theorem slotImageBytes_slotOf (gen : Word) (im : Image) : slotImageBytes (slotOf gen im) = imageToBytes im := by
  rw [slotImageBytes, slotOf, slotBody, List.append_assoc, List.drop_left' (bytes32_length gen)]
  exact List.take_left' (length_imageToBytes im)

theorem crcField_slotOf (gen : Word) (im : Image) :
    be32 (slotOf gen im) 209 = crc32 0xFFFFFFFF (slotBody gen im) := by
  have last : (slotOf gen im).drop 209 = bytes32 (crc32 0xFFFFFFFF (slotBody gen im)) ++ [] := by
    rw [slotOf, List.drop_left' (slotBody_length gen im), List.append_nil]
    rfl
  rw [← be32_bytes32 (crc32 0xFFFFFFFF (slotBody gen im)) [], ← last, be32_drop]

/-- The CRC-32 of 209 bytes of FFh is not FFFFFFFFh, so that no slot of an image looks erased. -/
theorem crc32_erased_ne : crc32 0xFFFFFFFF (List.replicate 209 0xFF) ≠ 0xFFFFFFFF := by decide +kernel

theorem slotOf_ne_blank (gen : Word) (im : Image) : slotOf gen im ≠ List.replicate 213 0xFF := by
  intro h
  have body : slotBody gen im = List.replicate 209 0xFF := by
    rw [← take_slotOf, h, List.take_replicate]
    rfl
  refine crc32_erased_ne ?_
  rw [← body, ← crcField_slotOf, h]
  rfl

theorem classify_eq {bs : List Byte} (h : bs.length = 213) : classify bs
    = if bs = List.replicate 213 0xFF then .blank
      else if be32 bs 0 ≠ 0 ∧ be32 bs 209 = crc32 0xFFFFFFFF (bs.take 209) then .valid else .torn := by
  have blank : bs.all (· == 0xFF#8) = true ↔ bs = List.replicate 213 0xFF := by
    rw [List.eq_replicate_iff, List.all_eq_true]
    exact ⟨fun hall => ⟨h, fun b hb => eq_of_beq (hall b hb)⟩, fun hall b hb => beq_iff_eq.mpr (hall.2 b hb)⟩
  have valid : (slotGeneration bs != 0#32 && slotCrcOk bs) = true
      ↔ be32 bs 0 ≠ 0 ∧ be32 bs 209 = crc32 0xFFFFFFFF (bs.take 209) := by
    simp [slotGeneration, slotCrcOk]
  simp only [classify, blank, valid]

/-- A slot with an image and a generation other than 0 is VALID (R138). -/
theorem classify_slotOf {gen : Word} (hg : gen ≠ 0) (im : Image) : classify (slotOf gen im) = .valid := by
  have generation : be32 (slotOf gen im) 0 = gen := slotGeneration_slotOf gen im
  rw [classify_eq (length_slotOf gen im), if_neg (slotOf_ne_blank gen im), if_pos]
  rw [generation, take_slotOf]
  exact ⟨hg, crcField_slotOf gen im⟩

/-! ### The slot states (R138, R141, R142) -/

/-- The load sets the slot states by classification (R138). -/
theorem marks_loadConfig (s : State) : marks (loadConfig s) = marks (classified s) := by
  obtain ⟨_, _, _, h⟩ := reportAll_frame (classified s) (loadReports s)
  obtain ⟨_, hw⟩ := watchdogLoaded_eq
    (withImage (reportAll (classified s) (loadReports s)) (selectSlot (classified s)))
  rw [loadConfig_reports, marks_takeDefaults, marks_takeDefaults, hw, h]
  rfl

/-- A loss of power leaves the slot states as they were (assumption 15). -/
theorem classes_of_powerLoss {s t : State} {left : Leftover} (h : exec (.powerLoss left) s = .next t) :
    t.class0 = s.class0 ∧ t.class1 = s.class1 := by
  by_cases hp : s.power = .off
  · have off : exec (.powerLoss left) s = finish s := by simp [exec, execPowerLoss, hp]
    rw [off] at h
    cases h
    exact ⟨rfl, rfl⟩
  · rw [exec_powerLoss hp] at h
    obtain rfl : driveIrq _ = t := Host.Outcome.next.inj h
    obtain ⟨h0, h1⟩ := classes_of_marks (marks_abortOperations s left)
    exact ⟨h0, h1⟩

/-- Settles O57. -/
theorem slotClassification : Obligations.SlotClassification := by
  unfold Obligations.SlotClassification
  refine ⟨fun bs h => classify_eq h, fun s => ?_, fun s => ?_, fun i s t h hstart hdone hon hrise => ?_,
    rfl, classify_slotOf (by decide) factoryImage, classify_blankSlot⟩
  · obtain ⟨-, -, h0, h1, -⟩ := fields_statusByte9 s
    refine ⟨h0.trans ?_, h1.trans ?_⟩
    · cases s.class0 <;> rfl
    · cases s.class1 <;> rfl
  · exact classes_of_marks (s := classified s) (marks_loadConfig s)
  · cases hi : touchesMarks i with
    | false => exact classes_of_marks (marks_of_exec h hi)
    | true =>
      cases i
      case lockSession =>
        obtain hm | ⟨-, hclasses⟩ := marks_of_lockSession h
        · exact classes_of_marks hm
        · exact hclasses
      case entryStart => exact classes_of_entryStart h fun e q => hstart e q rfl
      case operationCompletion stuck => exact classes_of_operationCompletion h fun e => hdone stuck e rfl
      case powerLoss => exact classes_of_powerLoss h
      case powerOn left => exact absurd rfl (hon left)
      case resetNRelease => exact absurd rfl hrise
      all_goals cases hi

/-! ### An image outlives the supply (R139, R141, R142, R161) -/

/-- A loss of power with nothing running, and the power-on after it, take the power-on step on the same
non-volatile content. -/
theorem exec_powerLoss_powerOn {s : State} (hr : s.resetN = true) (hp : s.power = .active)
    (ha : activeEntry s = none) (hs : suspendedEntry s = none) (l1 l2 : Leftover) :
    ∃ t b, exec (.powerLoss l1) s = .next t ∧ exec (.powerOn l2) t = finish (powerOnStep b)
      ∧ b.resetN = true ∧ SameNonvolatile s b := by
  have loss := exec_powerLoss (s := s) (left := l1) (by rw [hp]; decide)
  rw [abortOperations_of_idle l1 ha hs] at loss
  refine ⟨_, _, loss, exec_powerOn hr, ?_, ?_⟩
  · rw [abortOperations_of_idle l2 rfl rfl]
    exact hr
  · rw [abortOperations_of_idle l2 rfl rfl]
    exact ⟨rfl, rfl, rfl, rfl, rfl, rfl⟩

theorem store_of_sameNonvolatile {s t : State} (h : SameNonvolatile s t) (i : SlotId) : s.store i = t.store i := by
  obtain ⟨-, h0, h1, -⟩ := h
  cases i <;> assumption

theorem PowerOnColumn.loadTaken {s t : State} (h : PowerOnColumn s t) : LoadTaken t := by
  obtain ⟨-, -, -, -, -, -, -, -, -, -, -, -, -, -, taken, -⟩ := h
  exact taken

/-- The load takes the image of a slot with the highest generation (R139). -/
theorem LoadTaken.of_newest {t : State} (h : LoadTaken t) {slot other : SlotId} {gen : Word} {im : Image}
    (hne : other ≠ slot) (hg : gen ≠ 0) (hslot : t.store slot = slotOf gen im)
    (hother : classify (t.store other) = .valid → slotGeneration (t.store other) < gen) :
    t.activeImage = im ∧ t.stagingImage = im ∧ t.generation = gen ∧ t.selected = some slot
      ∧ t.dirty = false := by
  obtain ⟨-, newest, -, chosen, -, staging, -⟩ := h
  have selected : t.selected = some slot := by
    refine newest slot other hne (by rw [hslot, classify_slotOf hg]) fun hv => .inl ?_
    rw [hslot, slotGeneration_slotOf]
    exact hother hv
  obtain ⟨active, generation, dirty⟩ := chosen slot selected
  rw [hslot, slotImageBytes_slotOf, imageOf_imageToBytes] at active
  rw [hslot, slotGeneration_slotOf] at generation
  exact ⟨active, staging.trans active, generation, selected, dirty⟩

/-- Settles O58. -/
theorem storedImageSurvives : Obligations.StoredImageSurvives := by
  unfold Obligations.StoredImageSurvives
  refine ⟨fun gen im hg => ⟨length_slotOf gen im, classify_slotOf hg im, slotGeneration_slotOf gen im, ?_⟩,
    fun gen im i => ?_, fun bs => imageToBytes_imageOf, fun bs _ => ⟨rfl, rfl⟩,
    fun s slot other gen im l1 l2 hr hp ha hs hne hg hslot hother => ?_⟩
  · rw [slotImageBytes_slotOf, imageOf_imageToBytes]
  · intro bs bytes t e k
    have crc : be32 bs 209 = crc32 0xFFFFFFFF (bs.take 209) := by
      rw [crcField_slotOf, take_slotOf]
    obtain ⟨rest, entry⟩ := drop_imageToBytes im i
    have half (j : Nat) : be16 bytes (k + j) = be16 (entryBytes e ++ rest) j := by rw [← entry, be16_drop]
    have byte (j : Nat) : byteAt bytes (k + j) = byteAt (entryBytes e ++ rest) j := by rw [← entry, byteAt_drop]
    have read := congrArg (fun q : PartEntry => (q.physBase, q.length, q.viewBase)) (entryOf_entryBytes e rest)
    simp only [entryOf, Prod.mk.injEq] at read
    obtain ⟨base, length, view⟩ := read
    exact ⟨length_slotOf gen im, slotGeneration_slotOf gen im, slotImageBytes_slotOf gen im, crc,
      length_imageToBytes im, rfl, byte 0, (half 1).trans base, (half 3).trans length, (half 5).trans view,
      byte 7, byte 8, byte 9, byte 10, byte 11⟩
  · obtain ⟨t, b, hloss, hon, hb, same⟩ := exec_powerLoss_powerOn hr hp ha hs l1 l2
    have stores (i : SlotId) : (driveIrq (powerOnStep b)).store i = s.store i :=
      (store_of_sameNonvolatile (sameNonvolatile_powerOnStep b).driveIrq i).symm.trans
        (store_of_sameNonvolatile same i).symm
    exact ⟨t, _, hloss, hon, (powerOnColumn_powerOnStep hb).driveIrq.loadTaken.of_newest hne hg
      ((stores slot).trans hslot) (by rwa [stores other])⟩

end Sys2Proof.Machine

namespace Sys2Proof.Machine

/-! ## While the device is not ACTIVE (R159, R161, R162, R168)

A row of a port then changes that port's selection and releases its lanes at most, and an event inside the
device changes nothing; so the causes of the interrupt outputs stay as they are. -/

/-! ### A change of one port's pins -/

/-- A state that differs in the selection and the released lanes of one port at most. -/
def PinsMoved (p : Port) (s u : State) : Prop :=
  ∃ sel driven, u = s.setPort p { s.port p with sel, driven }
    ∧ (driven = none ∨ driven = (s.port p).driven)

theorem pinsMoved_refl (p : Port) (s : State) : PinsMoved p s s :=
  ⟨(s.port p).sel, (s.port p).driven, (setPort_port_self s p).symm, .inr rfl⟩

theorem PinsMoved.deselect {p : Port} {s u : State} (h : PinsMoved p s u) :
    PinsMoved p s (deselect u p) := by
  obtain ⟨sel, driven, rfl, -⟩ := h
  exact ⟨.high, none, by simp [Machine.deselect], .inl rfl⟩

/-- The begin of a transaction is its port's selection alone (R2, R168). -/
theorem pinsMoved_beginTransaction {s : State} (hp : s.power ≠ .active) (p : Port) :
    PinsMoved p s (beginTransaction s p) := by
  by_cases hs : (s.port p).sel = .high
  · by_cases hd : s.power = .dormant
    · exact ⟨_, _, beginTransaction_dormant hs hd, .inr rfl⟩
    · exact ⟨_, _, beginTransaction_dark hs hp hd, .inr rfl⟩
  · rw [beginTransaction_selected hs]
    exact pinsMoved_refl p s

theorem PinsMoved.power {p : Port} {s u : State} (h : PinsMoved p s u) : u.power = s.power := by
  obtain ⟨sel, driven, rfl, -⟩ := h
  exact State.setPort_power ..

theorem PinsMoved.withoutPins {p : Port} {s u : State} (h : PinsMoved p s u) :
    withoutPins u = withoutPins s := by
  obtain ⟨sel, driven, rfl, -⟩ := h
  cases p <;> rfl

theorem PinsMoved.driven {p : Port} {s u : State} (h : PinsMoved p s u) (q : Port) :
    (u.port q).driven = none ∨ (u.port q).driven = (s.port q).driven := by
  obtain ⟨sel, driven, rfl, hd⟩ := h
  obtain rfl | rfl := eq_or_otherPort p q
  · rwa [port_setPort_same]
  · exact .inr (by rw [port_setPort_other])

theorem PinsMoved.serial {p : Port} {s u : State} (h : PinsMoved p s u) : serial u = serial s := by
  obtain ⟨sel, driven, rfl, -⟩ := h
  exact (rowEffect_setPort s p _).serial

@[simp] theorem withoutPins_driveIrq (s : State) : withoutPins (driveIrq s) = withoutPins s := rfl

/-- The causes of an interrupt output are none of the pins (R159). -/
theorem irqLow_withoutPins (s : State) (p : Port) : irqLow (withoutPins s) p = irqLow s p := by
  cases p <;> rfl

/-- Outputs at the level of their causes keep it over a change of one port's pins, whether or not the
instant ends there (R159). -/
theorem PinsMoved.irq_driveIrq {p : Port} {s u : State} (h : PinsMoved p s u) (ho : OutputsRight s) :
    (driveIrq u).irqA = s.irqA ∧ (driveIrq u).irqM = s.irqM := by
  obtain ⟨hA, hM⟩ := ho
  have causes (q : Port) : irqLow u q = irqLow s q := by
    rw [← irqLow_withoutPins u, h.withoutPins, irqLow_withoutPins]
  have kept := h.serial
  simp only [Machine.serial, Serial.mk.injEq] at kept
  obtain ⟨-, -, -, keptA, keptM⟩ := kept
  cases hend : instantEnds u with
  | false =>
    obtain ⟨hA', hM'⟩ := driveIrq_within hend
    exact ⟨hA'.trans keptA, hM'.trans keptM⟩
  | true =>
    obtain ⟨hA', hM'⟩ := outputsRight_driveIrq hend
    rw [irqLow_driveIrq, causes] at hA' hM'
    exact ⟨hA'.trans hA.symm, hM'.trans hM.symm⟩

/-! ### The rows of a port and the events inside the device -/

/-- The outcome is a next state, with such a change before the outputs are driven. -/
def MovesPins (s : State) (o : Host.Outcome State Fault Refusal) : Prop :=
  ∃ p u, o = finish u ∧ PinsMoved p s u

theorem movesPins_refl (s : State) : MovesPins s (finish s) := ⟨.a, s, rfl, pinsMoved_refl .a s⟩

theorem movesPins_ignoredTransactionEnd (s : State) (p : Port) :
    MovesPins s (execIgnoredTransactionEnd p s) := by
  have deselected : MovesPins s (finish (deselect s p)) := ⟨p, _, rfl, (pinsMoved_refl p s).deselect⟩
  unfold execIgnoredTransactionEnd
  split
  · exact movesPins_refl s
  · exact deselected
  · split
    · exact movesPins_refl s
    · exact deselected

section
variable {s : State} (hp : s.power ≠ .active)
include hp

/-- A transaction that ends has no effect of its own (R2, R168). -/
theorem movesPins_endTransaction (p : Port) (fits : Tx → Bool) (act : Tx → State → State) :
    MovesPins s (endTransaction s p fits act) := by
  have begun := pinsMoved_beginTransaction hp p
  obtain h | h | h | ⟨tx, live, -⟩ := endTransaction_cases s p fits act
  · exact h ▸ movesPins_refl s
  · exact ⟨p, _, h, begun⟩
  · exact ⟨p, _, h, begun.deselect⟩
  · exact absurd live.1 hp

theorem movesPins_request {i : Instr} {p : Port} {c : Command} {f : Frame}
    (h : requestOf i = some (p, c, f)) : MovesPins s (exec i s) := by
  obtain ⟨act, hact⟩ := exec_request h
  rw [hact]
  exact movesPins_endTransaction hp p _ _

theorem movesPins_read {i : Instr} {p : Port} {c : Command} {f : Frame}
    (h : readOf i = some (p, c, f)) : MovesPins s (exec i s) := by
  obtain ⟨act, hact⟩ := exec_read h
  rw [hact]
  exact movesPins_endTransaction hp p _ _

/-- A fetch drives nothing, as no transaction of an ACTIVE device is under way (R161, R162, R168). -/
theorem exec_dataByteFetch_of_not_active (p : Port) (w : List Byte) :
    exec (.dataByteFetch p w) s = finish s := by
  have power : ((beginTransaction s p).power != .active) = true := by
    rw [(pinsMoved_beginTransaction hp p).power, bne_iff_ne]
    exact hp
  unfold exec execDataByteFetch
  dsimp only
  split
  · rfl
  · rfl
  · exact if_pos (by rw [power, Bool.or_true])

/-- No read is under way: a transaction of a DORMANT device began while it was DORMANT (R168). -/
theorem readUnderWay_of_not_active (hs : SelectionSound s) (p : Port) : readUnderWay s p = none := by
  unfold readUnderWay
  split
  · rename_i tx h
    obtain ⟨active | ⟨-, dormant⟩, unread⟩ := hs p tx h
    · exact absurd active hp
    · exact unread dormant
  · rfl
  · rfl

theorem exec_completionPop_of_not_active (hs : SelectionSound s) (p : Port) :
    exec (.completionPop p) s = finish s :=
  if_neg (by simp [readUnderWay_of_not_active hp hs])

theorem exec_eventPop_of_not_active (hs : SelectionSound s) : exec .eventPop s = finish s :=
  if_neg (by simp [readUnderWay_of_not_active hp hs, isEventRead])

/-- The sequencer, the engine, the timers and the watchdog stand still (R161, R162, R167). -/
theorem exec_device_of_not_active {i : Instr} (hr : rowPort i = none) (hi : isPowerEvent i = false)
    (hg : ∀ b, i ≠ .guardNChange b) : exec i s = finish s := by
  cases i
  case guardNChange high => exact absurd rfl (hg high)
  case powerOn | powerLoss | resetNAssert | resetNRelease => cases hi
  case releasingSlotEntry | operationCompletion | jobStepIssue | chunkRead | tick => exact if_neg hp
  case entryStart | entryRestart | suspendTaken | runQuantumExpiry | holdDeadlineExpiry
      | trapDeadlineExpiry | watchdogWarningPoint | watchdogLapse =>
    exact if_neg fun h => hp h.1
  all_goals cases hr

/-- Every row of a port but WAKE, which a DORMANT device takes (R168, R169). -/
theorem movesPins_row {i : Instr} {p : Port} (hs : SelectionSound s) (hr : rowPort i = some p)
    (hw : ∀ q f, i ≠ .wake q f) : MovesPins s (exec i s) := by
  cases hq : requestOf i with
  | some r => exact movesPins_request hp hq
  | none =>
    cases hd : readOf i with
    | some r => exact movesPins_read hp hd
    | none =>
      cases i
      case wake q f => exact absurd rfl (hw q f)
      case continuationTransaction q f =>
        rw [exec, execContinuationTransaction]
        exact movesPins_endTransaction hp q _ _
      case unknownCommand q code f =>
        rw [exec, execUnknownCommand]
        exact movesPins_endTransaction hp q _ _
      case transactionBegin q => exact ⟨q, _, rfl, pinsMoved_beginTransaction hp q⟩
      case ignoredTransactionEnd q => exact movesPins_ignoredTransactionEnd s q
      case dataByteFetch q w => exact exec_dataByteFetch_of_not_active hp q w ▸ movesPins_refl s
      case completionPop q => exact exec_completionPop_of_not_active hp hs q ▸ movesPins_refl s
      case eventPop => exact exec_eventPop_of_not_active hp hs ▸ movesPins_refl s
      all_goals simp [requestOf, readOf, rowPort] at hq hd hr

end

/-- Settles O13: each command moves the pins of one port at most, by `movesPins_row` and
`exec_device_of_not_active`. -/
theorem nothingChangesWhileNotActive : Obligations.NothingChangesWhileNotActive := by
  unfold Obligations.NothingChangesWhileNotActive
  intro i s hp hs hi hw hg
  have moves : MovesPins s (exec i s) := by
    cases hr : rowPort i with
    | some p => exact movesPins_row hp hs hr hw
    | none => exact exec_device_of_not_active hp hr hi hg ▸ movesPins_refl s
  obtain ⟨p, u, hu, moved⟩ := moves
  refine ⟨driveIrq u, hu, by rw [withoutPins_driveIrq, moved.withoutPins], fun q => ?_, moved.irq_driveIrq⟩
  rw [port_driveIrq]
  exact moved.driven q

end Sys2Proof.Machine

namespace Sys2Proof.Machine

-- As in the tests: a task for each proof would need more threads than the check's memory leaves.
set_option Elab.async false

/-! ## The configuration edits (R63 to R66, R70, R110, R134) -/

/-! ### What the edits look at, after the end of their transaction -/

section
variable (s : State) (p : Port)

@[simp] theorem guardPermits_ended : guardPermits (ended s p) = guardPermits s := by
  obtain ⟨ps, h⟩ := ended_eq s p
  rw [h, guardPermits_setPort]
@[simp] theorem barrierPending_ended : barrierPending (ended s p) = barrierPending s := by
  obtain ⟨ps, h⟩ := ended_eq s p
  rw [h, barrierPending_setPort]
@[simp] theorem ended_activeImage : (ended s p).activeImage = s.activeImage := by
  obtain ⟨ps, h⟩ := ended_eq s p
  rw [h, State.setPort_activeImage]
@[simp] theorem ended_stagingImage : (ended s p).stagingImage = s.stagingImage := by
  obtain ⟨ps, h⟩ := ended_eq s p
  rw [h, State.setPort_stagingImage]
@[simp] theorem ended_started : (ended s p).started = s.started := by
  obtain ⟨ps, h⟩ := ended_eq s p
  rw [h, State.setPort_started]

end

section
variable {s : State} {f : Frame}

/-- The two checks that every edit makes first pass (R63, R134). -/
theorem decided_editChecks (hg : guardPermits s = true) (hb : barrierPending s = false) (p : Port)
    (more : List (Bool × RefusalCode)) (accept : State → State) :
    decided s p (editChecks s ++ more) accept = decided s p more accept := by
  rw [editChecks, List.cons_append, List.cons_append, List.nil_append,
    decided_pass (by rw [hg]; rfl), decided_pass hb]

/-- An edit that the guard and the barrier let through goes by its further checks. -/
theorem exec_edit_of_arrives {i : Instr} {c : Command} {more : List (Bool × RefusalCode)}
    {accept : State → State} (hg : guardPermits s = true) (hb : barrierPending s = false)
    (h : Arrives s .m c f)
    (he : exec i s = requestEnd s .m c f fun _ t => decided t .m (editChecks t ++ more) accept) :
    exec i s = finish (decided (ended s .m) .m more accept) := by
  rw [he, requestEnd_of_arrives h fun t => decided t .m (editChecks t ++ more) accept,
    decided_editChecks (by rw [guardPermits_ended, hg]) (by rw [barrierPending_ended, hb])]

theorem tableIndex_of_eq {b : Byte} {i : Fin 16} (h : b.toNat = i.val) : tableIndex b = some i := by
  rw [tableIndex, dif_pos (h ▸ i.isLt)]
  exact congrArg some (Fin.ext h)

theorem tableIndex_of_le {b : Byte} (h : 16 ≤ b.toNat) : tableIndex b = none := dif_neg (by omega)

theorem val_of_tableIndex {b : Byte} {i : Fin 16} (h : tableIndex b = some i) : b.toNat = i.val := by
  unfold tableIndex at h
  split at h
  · rw [← Option.some.inj h]
  · cases h

/-! ### The staging edits -/

/-- A staging entry at the index that a field names, BAD_ARGUMENT where it names none (R64, R65). -/
def putStagingEntry (s : State) (index : Byte) (e : PartEntry) : State :=
  match tableIndex index with
  | some i => setStagingEntry s i e
  | none => refuse s .m .badArgument

theorem exec_tableWriteEntry (hg : guardPermits s = true) (hb : barrierPending s = false)
    (h : Arrives s .m .tableWriteEntry f) : exec (.tableWriteEntry .m f) s = finish
      (decided (ended s .m) .m [(!entryInRange (entryOf (f.bytes.drop 1)), .badArgument)] fun t =>
        putStagingEntry t (byteAt f.bytes 0) (entryOf (f.bytes.drop 1))) :=
  exec_edit_of_arrives hg hb h rfl

theorem exec_tableClearEntry (hg : guardPermits s = true) (hb : barrierPending s = false)
    (h : Arrives s .m .tableClearEntry f) : exec (.tableClearEntry .m f) s
      = finish (putStagingEntry (ended s .m) (byteAt f.bytes 0) clearedEntry) :=
  exec_edit_of_arrives (more := []) (accept := fun t => putStagingEntry t (byteAt f.bytes 0) clearedEntry)
    hg hb h rfl

theorem exec_stageFromActive (hg : guardPermits s = true) (hb : barrierPending s = false)
    (h : Arrives s .m .stageFromActive f) : exec (.stageFromActive .m f) s
      = finish { ended s .m with stagingImage := (ended s .m).activeImage } :=
  exec_edit_of_arrives (more := []) (accept := fun t => { t with stagingImage := t.activeImage }) hg hb h rfl

theorem exec_settingsWriteStaged (hg : guardPermits s = true) (hb : barrierPending s = false)
    (h : Arrives s .m .settingsWriteStaged f) : exec (.settingsWriteStaged .m f) s = finish
      (decided (ended s .m) .m
        [(!(decide ((byteAt f.bytes 0).toNat ≤ 12)
          && settingInRange (byteAt f.bytes 0).toNat (byteAt f.bytes 1)), .badArgument)] fun t =>
        { t with stagingImage := { t.stagingImage with
          settings := settingsPut t.stagingImage.settings (byteAt f.bytes 0).toNat (byteAt f.bytes 1) } }) :=
  exec_edit_of_arrives hg hb h rfl

theorem putStagingEntry_of_eq {b : Byte} {i : Fin 16} (h : b.toNat = i.val) (s : State) (e : PartEntry) :
    putStagingEntry s b e = { s with
      stagingImage := { s.stagingImage with entries := s.stagingImage.entries.set i e } } := by
  rw [putStagingEntry, tableIndex_of_eq h]
  rfl

theorem putStagingEntry_of_le {b : Byte} (h : 16 ≤ b.toNat) (s : State) (e : PartEntry) :
    putStagingEntry s b e = refuse s .m .badArgument := by
  rw [putStagingEntry, tableIndex_of_le h]

/-! ### The ranges of the fields (R64, R132) -/

/-- The flags byte has its two low bits alone (section 4.1). -/
theorem toNat_lt_four_iff (b : Byte) : b.toNat < 4 ↔ b.extractLsb' 2 6 = 0 := by
  rw [← BitVec.toNat_inj, BitVec.extractLsb'_toNat, Nat.shiftRight_eq_div_pow]
  have := b.isLt
  change _ ↔ _ = 0
  omega

theorem byte_eq_iff (b : Byte) (n : Nat) (hn : n < 256) : b = BitVec.ofNat 8 n ↔ b.toNat = n := by
  rw [← BitVec.toNat_inj, BitVec.toNat_ofNat, Nat.mod_eq_of_lt hn]

/-- The checks of an entry's fields (R64). -/
theorem entryInRange_iff (e : PartEntry) : entryInRange e = true ↔ e.flags.extractLsb' 2 6 = 0
    ∧ (e.flags.getLsbD 0 = true → e.physBase.toNat ≤ 511 ∧ 1 ≤ e.length.toNat ∧ e.length.toNat ≤ 512
      ∧ (e.viewBase.toNat ≤ 511 ∨ e.viewBase = 0xFFFF)
      ∧ e.aRights.toNat ≤ 2 ∧ (e.mRights = 1 ∨ e.mRights = 2) ∧ e.trapPolicy.toNat ≤ 2
      ∧ e.defaultAction.toNat ≤ 1 ∧ (e.aliasIndex.toNat ≤ 15 ∨ e.aliasIndex = 0xFF)) := by
  have rights : (e.mRights = 1 ∨ e.mRights = 2) ↔ 1 ≤ e.mRights.toNat ∧ e.mRights.toNat ≤ 2 := by
    rw [show e.mRights = 1 ↔ _ from byte_eq_iff _ 1 (by decide),
      show e.mRights = 2 ↔ _ from byte_eq_iff _ 2 (by decide)]
    omega
  rw [← toNat_lt_four_iff, rights, entryInRange, entryValid]
  cases e.flags.getLsbD 0 <;> simp [and_assoc]

/-- The range of each settings byte (R132). -/
theorem settingInRange_iff {n : Nat} (h : n ≤ 12) (v : Byte) : settingInRange n v = true ↔
    (n = 0 ∨ n = 1 → v.toNat ≤ 2) ∧ (n = 2 ∨ n = 3 → v.toNat ≤ 15)
      ∧ (n = 4 ∨ n = 5 → v.toNat ≤ 3) ∧ (n = 11 → v ≠ 0) ∧ (n = 12 → v.toNat ≤ 1) := by
  have positive : v ≠ 0 ↔ 1 ≤ v.toNat := by
    rw [Ne, show v = 0 ↔ _ from byte_eq_iff v 0 (by decide)]
    omega
  rw [positive]
  interval_cases n <;> simp [settingInRange]

/-- A write of one settings byte replaces that byte (R134). -/
theorem settingsBytes_settingsPut (t : Settings) {n : Nat} (h : n ≤ 12) (v : Byte) :
    settingsBytes (settingsPut t n v) = (settingsBytes t).set n v := by
  interval_cases n <;> rfl

theorem byteAt_set {bs : List Byte} {n : Nat} (h : n < bs.length) (v : Byte) (m : Nat) :
    byteAt (bs.set n v) m = if m = n then v else byteAt bs m := by
  unfold byteAt
  split
  · next hm => simp [hm, h]
  · next hm => simp [Ne.symm hm]

end

/-- Settles O33. -/
theorem stagingEdits : Obligations.StagingEdits := by
  unfold Obligations.StagingEdits
  refine ⟨entryInRange_iff, fun bs => ⟨rfl, rfl, rfl, rfl, rfl, rfl, rfl, rfl, rfl⟩,
    fun t n v hn => ⟨settingInRange_iff hn v, fun m _ => ?_⟩, fun s f hg hb =>
    ⟨fun i h hi hr => ?_, fun h hr => ?_, fun h => ?_, fun h hn hr => ?_, fun h hr => ?_⟩⟩
  · rw [settingsBytes_settingsPut t hn, byteAt_set (by rw [settingsBytes_length]; omega)]
  · rw [exec_tableWriteEntry hg hb h, decided_pass (by rw [hr]; rfl), decided_nil,
      putStagingEntry_of_eq hi, ended_stagingImage]
    rfl
  · rw [exec_tableWriteEntry hg hb h]
    cases hin : entryInRange (entryOf (f.bytes.drop 1)) with
    | false => rw [decided_fail (by rfl)]; rfl
    | true =>
      have past := hr.resolve_right (by rw [hin]; decide)
      rw [decided_pass (by rfl), decided_nil, putStagingEntry_of_le past]
      rfl
  · rw [exec_stageFromActive hg hb h, ended_activeImage]
    rfl
  · rw [exec_settingsWriteStaged hg hb h, decided_pass (by rw [decide_eq_true hn, hr]; rfl), decided_nil,
      ended_stagingImage]
    rfl
  · rw [exec_settingsWriteStaged hg hb h, decided_fail]
    · rfl
    · obtain hn | hr := hr
      · rw [decide_eq_false (by omega)]; rfl
      · rw [hr, Bool.and_false]; rfl

/-! ### TABLE_CLEAR_ENTRY (R65) -/

/-- An entry that names a cleared one as its partner has fault code 6 (R67). -/
theorem aliasFault_of_cleared {im : Image} {i q : Fin 16} {e : PartEntry} (hi : im.entries[i] = clearedEntry)
    (ha : e.aliasIndex.toNat = i.val) : aliasFault im q e = true := by
  have named : e.aliasIndex ≠ 0xFF#8 := by
    intro h
    rw [h] at ha
    have := i.isLt
    exact absurd ha (by change 255 ≠ i.val; omega)
  have partner : aliasEntry im e.aliasIndex = some clearedEntry := by
    rw [aliasEntry, dif_pos (ha ▸ i.isLt), ← hi]
    simp only [ha]
    rfl
  rw [aliasFault, partner]
  simp [named, clearedEntry, entryValid]

/-- Settles O34. -/
theorem tableClearEntry : Obligations.TableClearEntry := by
  unfold Obligations.TableClearEntry
  intro s f hg hb _ h
  rw [exec_tableClearEntry hg hb h]
  refine ⟨fun i hi => ?_, fun hi => by rw [putStagingEntry_of_le hi]; rfl⟩
  rw [putStagingEntry_of_eq hi, ended_stagingImage]
  refine ⟨rfl, fun t ht => ?_⟩
  obtain rfl : driveIrq _ = t := Host.Outcome.next.inj ht
  have cleared : (s.stagingImage.entries.set i clearedEntry)[i] = clearedEntry := by simp
  refine ⟨congrArg entryBytes cleared, congrArg entryValid cleared, fun q hq => ?_⟩
  have kept : (s.stagingImage.entries.set i clearedEntry)[q] = s.stagingImage.entries[q] :=
    Vector.getElem_set_ne _ _ (Fin.val_ne_of_ne hq.symm)
  refine ⟨kept, fun ha => aliasFault_of_cleared cleared ?_⟩
  exact (congrArg (·.aliasIndex.toNat) kept).trans ha

end Sys2Proof.Machine

namespace Sys2Proof.Machine

-- As in the tests: a task for each proof would need more threads than the check's memory leaves.
set_option Elab.async false

/-! ### What a new watchdog_interval does to the watchdog (R110) -/

section
variable {s : State}

theorem watchdogWritten_of_disabled_zero (hw : s.watchdog.state = .disabled)
    (hv : s.activeImage.settings.watchdogInterval = 0) : watchdogWritten s = s := by
  simp only [watchdogWritten, if_pos hv, hw]

theorem watchdogWritten_of_armed_zero (hw : s.watchdog.state = .armed)
    (hv : s.activeImage.settings.watchdogInterval = 0) :
    watchdogWritten s = { s with watchdog := ⟨.disabled, 0, 0, false⟩ } := by
  simp only [watchdogWritten, if_pos hv, hw]
  rfl

theorem watchdogWritten_of_lapsed_zero (hw : s.watchdog.state = .lapsed)
    (hv : s.activeImage.settings.watchdogInterval = 0) : watchdogWritten s
      = logEvent { s with watchdog := ⟨.disabled, 0, 0, false⟩ } .watchdogDisabled 2 0 0 0xFFFFFFFF := by
  simp only [watchdogWritten, if_pos hv, hw]
  rfl

theorem watchdogWritten_of_lapsed_ne (hw : s.watchdog.state = .lapsed)
    (hv : s.activeImage.settings.watchdogInterval ≠ 0) : watchdogWritten s = s := by
  simp only [watchdogWritten, if_neg hv, hw]

theorem watchdogWritten_of_ne (hw : s.watchdog.state ≠ .lapsed)
    (hv : s.activeImage.settings.watchdogInterval ≠ 0) : watchdogWritten s = { s with
      watchdog := ⟨.armed, s.activeImage.settings.watchdogInterval.toNat * 10,
        s.activeImage.settings.watchdogInterval.toNat * 5, false⟩
      started := { s.started with watchdog := true } } := by
  cases hs : s.watchdog.state with
  | lapsed => exact absurd hs hw
  | disabled | armed =>
    simp only [watchdogWritten, if_neg hv, hs]
    rfl

end

/-! ### SETTINGS_WRITE_LIVE (R110, R134) -/

section
variable {s : State} {f : Frame}

/-- The range of a live write's offset and value (R134). -/
def liveInRange (off : Nat) (v : Byte) : Bool :=
  decide (8 ≤ off) && decide (off ≤ 11) && settingInRange off v

theorem exec_settingsWriteLive (hg : guardPermits s = true) (hb : barrierPending s = false)
    (h : Arrives s .m .settingsWriteLive f) : exec (.settingsWriteLive .m f) s = finish
      (decided (ended s .m) .m
        [(!liveInRange (byteAt f.bytes 0).toNat (byteAt f.bytes 1), .badArgument)] fun t =>
        writeLive t (byteAt f.bytes 0).toNat (byteAt f.bytes 1)) :=
  exec_edit_of_arrives hg hb h rfl

theorem liveInRange_iff {n : Nat} {v : Byte} :
    liveInRange n v = true ↔ n = 8 ∨ n = 9 ∨ n = 10 ∨ n = 11 ∧ v ≠ 0 := by
  rw [liveInRange, Bool.and_eq_true, Bool.and_eq_true, decide_eq_true_eq, decide_eq_true_eq]
  constructor
  · rintro ⟨⟨lo, hi⟩, hr⟩
    obtain ⟨-, -, -, positive, -⟩ := (settingInRange_iff (by omega) v).mp hr
    obtain rfl | rfl | rfl | rfl : n = 8 ∨ n = 9 ∨ n = 10 ∨ n = 11 := by omega
    · exact .inl rfl
    · exact .inr (.inl rfl)
    · exact .inr (.inr (.inl rfl))
    · exact .inr (.inr (.inr ⟨rfl, positive rfl⟩))
  · intro h
    have le : n ≤ 12 := by omega
    refine ⟨by omega, (settingInRange_iff le v).mpr ⟨?_, ?_, ?_, fun he => ?_, ?_⟩⟩
    · omega
    · omega
    · omega
    · exact (h.resolve_left (by omega)).resolve_left (by omega) |>.resolve_left (by omega) |>.2
    · omega

theorem exec_settingsWriteLive_accepted (hg : guardPermits s = true) (hb : barrierPending s = false)
    (h : Arrives s .m .settingsWriteLive f)
    (hr : liveInRange (byteAt f.bytes 0).toNat (byteAt f.bytes 1) = true) :
    exec (.settingsWriteLive .m f) s
      = finish (writeLive (ended s .m) (byteAt f.bytes 0).toNat (byteAt f.bytes 1)) := by
  rw [exec_settingsWriteLive hg hb h, decided_pass (by rw [hr]; rfl), decided_nil]

/-- A live write of a byte other than the interval changes the active image and DIRTY alone (R134). -/
theorem writeLive_of_ne {off : Nat} (h : off ≠ 10) (s : State) (v : Byte) : writeLive s off v = { s with
    activeImage := { s.activeImage with settings := settingsPut s.activeImage.settings off v }
    dirty := true } := if_neg h

/-! ### SWAP_VIEWS (R70) -/

/-- The views of the pair that two fields name are swapped, BAD_ARGUMENT where they name none (R70). -/
def swapNamed (s : State) (a b : Byte) : State :=
  match tableIndex a, tableIndex b with
  | some i, some j =>
    if swapPair s.activeImage i j then
      { s with
        activeImage := { s.activeImage with entries := swapViews s.activeImage.entries i j }, dirty := true }
    else refuse s .m .badArgument
  | _, _ => refuse s .m .badArgument

theorem exec_swapViews (h : Arrives s .m .swapViews f) : exec (.swapViews .m f) s = finish
    (decided (ended s .m) .m [(s.sessionLock, .guarded), (barrierPending s, .storeUpdating)] fun t =>
      swapNamed t (byteAt f.bytes 0) (byteAt f.bytes 1)) := by
  rw [← ended_sessionLock s .m, ← barrierPending_ended s .m]
  exact requestEnd_of_arrives h fun t => decided t .m
    [(t.sessionLock, .guarded), (barrierPending t, .storeUpdating)] fun t =>
      swapNamed t (byteAt f.bytes 0) (byteAt f.bytes 1)

theorem swapNamed_of_pair {a b : Byte} {i j : Fin 16} (ha : a.toNat = i.val) (hb : b.toNat = j.val)
    (hp : swapPair s.activeImage i j = true) : swapNamed s a b = { s with
      activeImage := { s.activeImage with entries := swapViews s.activeImage.entries i j }
      dirty := true } := by
  simp only [swapNamed, tableIndex_of_eq ha, tableIndex_of_eq hb, if_pos hp]

theorem swapNamed_of_no_pair {a b : Byte} (h : ∀ i j : Fin 16, a.toNat = i.val → b.toNat = j.val →
    swapPair s.activeImage i j = false) : swapNamed s a b = refuse s .m .badArgument := by
  unfold swapNamed
  split
  · next i j hi hj => rw [if_neg (Bool.eq_false_iff.mp (h i j (val_of_tableIndex hi) (val_of_tableIndex hj)))]
  · rfl

end

theorem swapPair_iff (im : Image) (i j : Fin 16) : swapPair im i j = true ↔ i ≠ j
    ∧ (im.entries[i].flags.getLsbD 0 = true ∧ im.entries[i].flags.getLsbD 1 = true
      ∧ im.entries[i].aliasIndex.toNat = j.val)
    ∧ (im.entries[j].flags.getLsbD 0 = true ∧ im.entries[j].flags.getLsbD 1 = true
      ∧ im.entries[j].aliasIndex.toNat = i.val) := by
  simp only [swapPair, entryValid, entrySwappable, Bool.and_eq_true, bne_iff_ne, beq_iff_eq]
  tauto

/-- Settles O35: a live write by its offset, that of the interval by the watchdog's state; a swap by its two
checks and the pair that the fields name. -/
theorem liveEditsAndSwaps : Obligations.LiveEditsAndSwaps := by
  unfold Obligations.LiveEditsAndSwaps
  refine ⟨fun s f hb => ?_, fun s f h => ⟨fun hl => ?_, fun hl hb => ?_, fun hl hb hp => ?_⟩, swapPair_iff⟩
  · dsimp only
    refine ⟨fun n hg h hn hr => ?_, fun hg h hn => ?_, fun hg h hr => ?_, fun i j hl h hi hj hp => ?_⟩
    · have range : liveInRange n (byteAt f.bytes 1) = true := liveInRange_iff.mpr (by tauto)
      rw [exec_settingsWriteLive_accepted hg hb h (by rw [hn, range]), hn, writeLive_of_ne (by omega),
        ended_activeImage]
      rfl
    · have offset : (byteAt f.bytes 0).toNat = 10 := by rw [hn]; rfl
      rw [exec_settingsWriteLive_accepted hg hb h (by rw [offset]; rfl), offset, writeLive, if_pos rfl,
        ended_activeImage]
      have state : (ended s .m).watchdog.state = s.watchdog.state := congrArg (·.state) (ended_watchdog s .m)
      cases hw : s.watchdog.state with
      | disabled =>
        by_cases hv : byteAt f.bytes 1 = 0
        · rw [decide_eq_true hv, watchdogWritten_of_disabled_zero]
          · rfl
          · exact state.trans hw
          · exact hv
        · rw [decide_eq_false hv, watchdogWritten_of_ne, ended_started]
          · rfl
          · exact (state.trans hw).trans_ne WatchState.noConfusion
          · exact hv
      | armed =>
        by_cases hv : byteAt f.bytes 1 = 0
        · rw [decide_eq_true hv, watchdogWritten_of_armed_zero]
          · rfl
          · exact state.trans hw
          · exact hv
        · rw [decide_eq_false hv, watchdogWritten_of_ne, ended_started]
          · rfl
          · exact (state.trans hw).trans_ne WatchState.noConfusion
          · exact hv
      | lapsed =>
        by_cases hv : byteAt f.bytes 1 = 0
        · rw [decide_eq_true hv, watchdogWritten_of_lapsed_zero]
          · rfl
          · exact state.trans hw
          · exact hv
        · rw [decide_eq_false hv, watchdogWritten_of_lapsed_ne]
          · rfl
          · exact state.trans hw
          · exact hv
    · rw [exec_settingsWriteLive hg hb h, decided_fail]
      · rfl
      · rw [Bool.not_eq_true', Bool.eq_false_iff, Ne, liveInRange_iff]
        obtain hn | hn | ⟨hn, hv⟩ := hr
        · omega
        · omega
        · rw [hn]
          simp [hv]
    · rw [exec_swapViews h, decided_pass hl, decided_pass hb, decided_nil, swapNamed_of_pair hi hj,
        ended_activeImage]
      · rfl
      · rw [ended_activeImage, hp]
  · rw [exec_swapViews h, decided_fail hl]
    rfl
  · rw [exec_swapViews h, decided_pass hl, decided_fail hb]
    rfl
  · rw [exec_swapViews h, decided_pass hl, decided_pass hb, decided_nil, swapNamed_of_no_pair]
    · rfl
    · rwa [ended_activeImage]

end Sys2Proof.Machine

namespace Sys2Proof.Machine

-- As in the tests: a task for each proof would need more threads than the check's memory leaves.
set_option Elab.async false

/-! ## COMMIT and GUARD_FUSE (R69, R140, R144) -/

section
variable {s b : State} {f : Frame}

/-- The checks on Port M's room (R140, R144), in their order. -/
def portMRoomChecks (s : State) : List (Bool × RefusalCode) :=
  [(decide (4 ≤ outstanding s .m), .portLimit), (queueFull s, .queueFull)]

/-- The checks of COMMIT behind the guard's and the barrier's (R140), in their order. -/
def commitChecks (s : State) : List (Bool × RefusalCode) :=
  ((tableFault s.stagingImage).isSome, .tableInvalid) ::
    (s.generation == 0xFFFFFFFF, .storeExhausted) :: portMRoomChecks s

/-- An armed request that makes the guard's and the barrier's checks is decided by its further ones, in the
state with the latch consumed (R140, R144). -/
theorem exec_barrier_of_arrives {i : Instr} {c : Command} {more : State → List (Bool × RefusalCode)}
    {accept : State → State} (hw : s.portM.wel = true) (hg : guardPermits s = true)
    (hp : barrierPending s = false) (h : Arrives s .m c f)
    (he : exec i s = requestEnd s .m c f fun _ t =>
      armedDecision t .m fun t => decided t .m (editChecks t ++ more t) accept)
    (hb : b = consumed (ended s .m) .m) : exec i s = finish (decided b .m (more b) accept) := by
  have armed : ((ended s .m).port .m).wel = true := (ended_wel h).trans hw
  rw [he, requestEnd_of_arrives h fun t =>
      armedDecision t .m fun t => decided t .m (editChecks t ++ more t) accept,
    armedDecision_of_armed armed, ← hb, decided_editChecks]
  · rw [hb, consumed, guardPermits_setPort, guardPermits_ended, hg]
  · rw [hb, consumed, barrierPending_setPort, barrierPending_ended, hp]

/-- A COMMIT with WEL 1 writes the validation detail and is decided by its checks on the arrival's state. -/
theorem exec_commit (hw : s.portM.wel = true) (hg : guardPermits s = true) (hp : barrierPending s = false)
    (h : Arrives s .m .commit f) (hb : b = consumed (ended s .m) .m) :
    exec (.commit .m f) s = finish (decided { b with validation := validationDetail s.stagingImage } .m
      (commitChecks s) fun t => acceptEntry t .commit .nothing none) := by
  obtain ⟨ps, he, -⟩ := consumed_ended_of_arrives h
  have run := exec_barrier_of_arrives (i := .commit .m f) (more := fun _ => []) (accept := fun t =>
    let u := { t with validation := validationDetail t.stagingImage }
    decided u .m ([((tableFault t.stagingImage).isSome, .tableInvalid),
      (u.generation == 0xFFFFFFFF#32, .storeExhausted)] ++ roomChecks u) fun u =>
        acceptEntry u .commit .nothing none) hw hg hp h (by simp only [List.append_nil]; rfl) hb
  rw [run, decided_nil, hb, he]
  rfl

/-- A GUARD_FUSE with WEL 1 is decided by its checks on the arrival's state. -/
theorem exec_guardFuse (hw : s.portM.wel = true) (hg : guardPermits s = true)
    (hp : barrierPending s = false) (h : Arrives s .m .guardFuse f) (hb : b = consumed (ended s .m) .m) :
    exec (.guardFuse .m f) s = finish (decided b .m ((s.dirty, .dirty) :: portMRoomChecks s) fun t =>
      acceptEntry t .guardFuse .nothing none) := by
  obtain ⟨ps, he, -⟩ := consumed_ended_of_arrives h
  have run := exec_barrier_of_arrives (i := .guardFuse .m f) (more := fun t => (t.dirty, .dirty) :: roomChecks t)
    (accept := fun t => acceptEntry t .guardFuse .nothing none) hw hg hp h rfl hb
  rw [run, hb, he]
  rfl

section
variable {accept : State → State}

theorem decided_portLimit (h : 4 ≤ outstanding s .m) :
    decided b .m (portMRoomChecks s) accept = refuse b .m .portLimit := decided_fail (decide_eq_true h)

theorem decided_queueFull (h : outstanding s .m < 4) (hq : 8 ≤ s.queue.length) :
    decided b .m (portMRoomChecks s) accept = refuse b .m .queueFull := by
  rw [portMRoomChecks, decided_pass (decide_eq_false (by omega)), decided_fail (queueFull_eq_true.mpr hq)]

theorem decided_room (h : outstanding s .m < 4) (hq : s.queue.length < 8) :
    decided b .m (portMRoomChecks s) accept = accept b := by
  rw [portMRoomChecks, decided_pass (decide_eq_false (by omega)), decided_pass (queueFull_eq_false.mpr hq),
    decided_nil]

/-- The checks of COMMIT before those on the room pass (R140). -/
theorem decided_commitChecks (hv : tableFault s.stagingImage = none) (hn : s.generation ≠ 0xFFFFFFFF) :
    decided b .m (commitChecks s) accept = decided b .m (portMRoomChecks s) accept := by
  rw [commitChecks, decided_pass (by rw [hv]; rfl), decided_pass (beq_eq_false_iff_ne.mpr hn)]

end

end

/-- Settles O36: each request runs down its checks in order. -/
theorem barrierRequests : Obligations.BarrierRequests := by
  unfold Obligations.BarrierRequests
  intro s f hw hg hp
  dsimp only
  refine ⟨fun h => ?_, fun h => ?_⟩
  · obtain ⟨ps, hb, ht⟩ := consumed_ended_of_arrives h
    have accepted := acceptEntry_setPort (s := { s with validation := validationDetail s.stagingImage })
      (b := { consumed (ended s .m) .m with validation := validationDetail s.stagingImage })
      (by rw [hb]; rfl) ht .commit .nothing none
    rw [exec_commit hw hg hp h rfl]
    refine ⟨fun hv => ?_, fun hv hn => ?_, fun hv hn ⟨ho, hq⟩ => ?_, fun hv hn ho => ?_,
      fun hv hn ho hq => ?_⟩
    · rw [commitChecks, decided_fail (Option.isSome_iff_ne_none.mpr hv)]
      rfl
    · rw [commitChecks, decided_pass (by rw [hv]; rfl), decided_fail (beq_iff_eq.mpr hn)]
      rfl
    · rw [decided_commitChecks hv hn, decided_room ho hq, accepted]
      rfl
    · rw [decided_commitChecks hv hn, decided_portLimit ho]
      rfl
    · rw [decided_commitChecks hv hn, decided_queueFull ho hq]
      rfl
  · obtain ⟨ps, hb, ht⟩ := consumed_ended_of_arrives h
    rw [exec_guardFuse hw hg hp h rfl]
    refine ⟨fun hd => ?_, fun hd ⟨ho, hq⟩ => ?_, fun hd ho => ?_, fun hd ho hq => ?_⟩
    · rw [decided_fail hd]
      rfl
    · rw [decided_pass hd, decided_room ho hq, acceptEntry_setPort hb ht]
      rfl
    · rw [decided_pass hd, decided_portLimit ho]
      rfl
    · rw [decided_pass hd, decided_queueFull ho hq]
      rfl

end Sys2Proof.Machine

namespace Sys2Proof.Machine

-- As in the tests: a task for each proof would need more threads than the check's memory leaves.
set_option Elab.async false

/-! ## The completion of a COMMIT (R82, R83, R110, R142) -/

/-! ### The staging image is applied -/

/-- The watchdog once the staging image is active (R110): as it was where the interval is the same. -/
def stagedWatchdog (s : State) : Watchdog :=
  let v := s.stagingImage.settings.watchdogInterval
  if v = s.activeImage.settings.watchdogInterval then s.watchdog
  else match s.watchdog.state, decide (v = 0) with
    | .disabled, true | .lapsed, false => s.watchdog
    | .armed, true | .lapsed, true => ⟨.disabled, 0, 0, false⟩
    | .disabled, false | .armed, false => ⟨.armed, v.toNat * 10, v.toNat * 5, false⟩

/-- A countdown that the application starts is noted (R15). -/
def stagedStarted (s : State) : StartedTimers :=
  let v := s.stagingImage.settings.watchdogInterval
  if v ≠ s.activeImage.settings.watchdogInterval ∧ v ≠ 0 ∧ s.watchdog.state ≠ .lapsed then
    { s.started with watchdog := true }
  else s.started

/-- The staging image replaces the active one, DIRTY 0, before anything follows from it (R142). -/
def imageTaken (s : State) : State := { s with activeImage := s.stagingImage, dirty := false }

/-- The state with the staging image applied, the event of a LAPSED watchdog that it stops apart (R142). -/
def staged (s : State) : State :=
  { s with
    activeImage := s.stagingImage, dirty := false, watchdog := stagedWatchdog s, started := stagedStarted s }

/-- Applying the staging image takes a LAPSED watchdog to DISABLED (R110). -/
def DisablesLapsed (s : State) : Prop :=
  s.stagingImage.settings.watchdogInterval = 0 ∧ s.activeImage.settings.watchdogInterval ≠ 0
    ∧ s.watchdog.state = .lapsed

section
variable {s : State}

theorem applyDisablesLapsed_iff : applyDisablesLapsed s = true ↔ DisablesLapsed s := by
  simp only [applyDisablesLapsed, DisablesLapsed, Bool.and_eq_true, beq_iff_eq, bne_iff_ne]
  tauto

theorem stagedWatchdog_of_same
    (h : s.stagingImage.settings.watchdogInterval = s.activeImage.settings.watchdogInterval) :
    stagedWatchdog s = s.watchdog := if_pos h

theorem stagedStarted_of_not
    (h : s.stagingImage.settings.watchdogInterval = s.activeImage.settings.watchdogInterval
      ∨ s.stagingImage.settings.watchdogInterval = 0 ∨ s.watchdog.state = .lapsed) :
    stagedStarted s = s.started := if_neg (by tauto)

theorem applyStaging_of_same
    (h : s.stagingImage.settings.watchdogInterval = s.activeImage.settings.watchdogInterval) :
    applyStaging s = staged s := by
  rw [staged, stagedWatchdog_of_same h, stagedStarted_of_not (.inl h), applyStaging, if_pos h]

theorem applyStaging_of_ne
    (h : s.stagingImage.settings.watchdogInterval ≠ s.activeImage.settings.watchdogInterval) :
    applyStaging s = watchdogWritten (imageTaken s) := if_neg h

/-- Where no LAPSED watchdog is stopped, the application logs nothing (R110, R142). -/
theorem applyStaging_of_not_disables (hd : ¬ DisablesLapsed s) : applyStaging s = staged s := by
  by_cases h : s.stagingImage.settings.watchdogInterval = s.activeImage.settings.watchdogInterval
  · exact applyStaging_of_same h
  · rw [applyStaging_of_ne h]
    by_cases hv : s.stagingImage.settings.watchdogInterval = 0
    · rw [staged, stagedStarted_of_not (.inr (.inl hv)), stagedWatchdog, if_neg h, decide_eq_true hv]
      cases hw : s.watchdog.state with
      | disabled =>
        rw [watchdogWritten_of_disabled_zero (s := imageTaken s) hw hv]
        rfl
      | armed =>
        rw [watchdogWritten_of_armed_zero (s := imageTaken s) hw hv]
        rfl
      | lapsed => exact absurd ⟨hv, fun ha => h (hv.trans ha.symm), hw⟩ hd
    · rw [staged, stagedWatchdog, if_neg h, decide_eq_false hv]
      cases hw : s.watchdog.state with
      | lapsed =>
        rw [watchdogWritten_of_lapsed_ne (s := imageTaken s) hw hv, stagedStarted_of_not (.inr (.inr hw))]
        rfl
      | disabled | armed =>
        have running : s.watchdog.state ≠ .lapsed := hw.trans_ne WatchState.noConfusion
        rw [watchdogWritten_of_ne (s := imageTaken s) running hv, stagedStarted, if_pos ⟨h, hv, running⟩]
        rfl

/-- Where one is stopped, it logs that (R110). -/
theorem applyStaging_of_disables (hd : DisablesLapsed s) :
    applyStaging s = logEvent (staged s) .watchdogDisabled 2 0 0 0xFFFFFFFF := by
  obtain ⟨hv, ha, hw⟩ := hd
  have ne : s.stagingImage.settings.watchdogInterval ≠ s.activeImage.settings.watchdogInterval :=
    fun h => ha (h.symm.trans hv)
  rw [applyStaging_of_ne ne, watchdogWritten_of_lapsed_zero (s := imageTaken s) hw hv, staged,
    stagedStarted_of_not (.inr (.inl hv)), stagedWatchdog, if_neg ne, decide_eq_true hv, hw]
  rfl

/-- The log and the application do not meet. -/
theorem staged_logEvent (s : State) (k : EventKind) (o t d : Byte) (a : Word) :
    staged (logEvent s k o t d a) = logEvent (staged s) k o t d a := by
  have length : (staged s).log.length = s.log.length := rfl
  rw [logEvent, logEvent, length]
  split <;> rfl

theorem disablesLapsed_logEvent (k : EventKind) (o t d : Byte) (a : Word) :
    DisablesLapsed (logEvent s k o t d a) ↔ DisablesLapsed s := by simp [DisablesLapsed]

variable {k : EventKind} {t d : Byte} {a : Word}

theorem applyCommit_of_not_disables (hd : ¬ DisablesLapsed s) :
    applyCommit s k t d a = logEvent (staged s) k 2 t d a := by
  rw [applyCommit, Bool.eq_false_iff.mpr (mt applyDisablesLapsed_iff.mp hd), Bool.false_and,
    if_neg Bool.false_ne_true, applyStaging_of_not_disables (mt (disablesLapsed_logEvent ..).mp hd), staged_logEvent]

theorem applyCommit_of_first (hd : DisablesLapsed s) (hf : Config.commitEventFirst = true) :
    applyCommit s k t d a
      = logEvent (logEvent (staged s) k 2 t d a) .watchdogDisabled 2 0 0 0xFFFFFFFF := by
  rw [applyCommit, hf, Bool.not_true, Bool.and_false, if_neg Bool.false_ne_true,
    applyStaging_of_disables ((disablesLapsed_logEvent ..).mpr hd), staged_logEvent]

theorem applyCommit_of_second (hd : DisablesLapsed s) (hf : Config.commitEventFirst = false) :
    applyCommit s k t d a
      = logEvent (logEvent (staged s) .watchdogDisabled 2 0 0 0xFFFFFFFF) k 2 t d a := by
  rw [applyCommit, hf, applyDisablesLapsed_iff.mpr hd, Bool.not_false, Bool.and_true, if_pos rfl,
    applyStaging_of_disables hd]

end

/-! ### The completion -/

/-- A COMMIT is over: what its result leaves, the run discarded, the entry gone and its outcome reported. -/
def CommitReported (s : State) (e : Entry) (stuck : StuckBits) (b : State) (out : OpOutcome) : Prop :=
  let gone := releaseBuffer { b with
    queue := s.queue.eraseP isActive, suspend := .none, quantum := none, commitRun := none } e.buffer
  exec (.operationCompletion stuck) s = .next (driveIrq (fillFromMailbox
    (if e.orphan then gone else pushCompletion gone .m ⟨e.tag, .commit, out, e.redirected, e.auto⟩)))

section
variable {s b : State} {e : Entry} {stuck : StuckBits}

theorem logEvent_commitRun_none (b : State) (k : EventKind) (o t d : Byte) (a : Word) :
    logEvent { b with commitRun := none } k o t d a = { logEvent b k o t d a with commitRun := none } := by
  rw [logEvent, logEvent]
  dsimp only
  split <;> rfl

theorem commitReported_of_result (hp : s.power = .active) (ha : activeEntry s = some e) (hk : e.kind = .commit)
    (ho : e.origin = .m) {out : OpOutcome}
    (hr : commitResult s e.tag stuck = ({ b with commitRun := none }, out)) (hq : b.queue = s.queue) :
    CommitReported s e stuck b out := by
  have result : operationResult s e stuck = ({ b with commitRun := none }, out) := by
    rw [operationResult, hk]
    exact hr
  have done := exec_operationCompletion_of_portM hp ha ho (by rw [hk]; rfl) result hq
  rw [hk] at done
  exact done

/-- A COMMIT that is DONE has its event logged, and WATCHDOG_DISABLED beside it where a LAPSED watchdog is
stopped (R110, R142). -/
theorem commitReported_of_applied (hp : s.power = .active) (ha : activeEntry s = some e) (hk : e.kind = .commit)
    (ho : e.origin = .m) {w : State} {k : EventKind} {d : Byte} {a : Word}
    (hr : commitResult s e.tag stuck = (applyCommit w k e.tag d a, .done))
    (hw : staged w = { b with commitRun := none }) (hq : b.queue = s.queue) :
    (¬ DisablesLapsed w → CommitReported s e stuck (logEvent b k 2 e.tag d a) .done)
      ∧ (DisablesLapsed w →
        (Config.commitEventFirst = true → CommitReported s e stuck
          (logEvent (logEvent b k 2 e.tag d a) .watchdogDisabled 2 0 0 0xFFFFFFFF) .done)
        ∧ (Config.commitEventFirst = false → CommitReported s e stuck
          (logEvent (logEvent b .watchdogDisabled 2 0 0 0xFFFFFFFF) k 2 e.tag d a) .done)) := by
  refine ⟨fun hd => ?_, fun hd => ⟨fun hf => ?_, fun hf => ?_⟩⟩
  · refine commitReported_of_result hp ha hk ho ?_ (by simp [hq])
    rw [hr, applyCommit_of_not_disables hd, hw, logEvent_commitRun_none]
  · refine commitReported_of_result hp ha hk ho ?_ (by simp [hq])
    rw [hr, applyCommit_of_first hd hf, hw, logEvent_commitRun_none, logEvent_commitRun_none]
  · refine commitReported_of_result hp ha hk ho ?_ (by simp [hq])
    rw [hr, applyCommit_of_second hd hf, hw, logEvent_commitRun_none, logEvent_commitRun_none]

variable {i : SlotId} {t : Byte}

/-- The slot of a COMMIT that wrote it rightly is VALID and selected, with the next generation (R142). -/
def slotWritten (s : State) (i : SlotId) : State :=
  { State.setStoreClass (State.setStore { s with commitRun := none } i (commitBytes s)) i .valid with
    selected := some i, generation := s.generation + 1 }

theorem commitResult_of_written (hr : s.commitRun = some (.writing i))
    (hs : slotWithStuck (commitBytes s) stuck = commitBytes s) : commitResult s t stuck
      = (applyCommit (slotWritten s i) .commitDone t (slotCode i) (s.generation + 1), .done) := by
  simp only [commitResult, hr, if_pos hs]
  rfl

theorem commitResult_of_unchanged (hr : s.commitRun = some .unchanged) (hs : s.selected = some i) :
    commitResult s t stuck
      = (applyCommit { s with commitRun := none } .commitUnchanged t (slotCode i) s.generation, .done) := by
  simp only [commitResult, hr, hs, Option.getD_some]

theorem commitResult_of_failed (hr : s.commitRun = some (.writing i))
    (hs : slotWithStuck (commitBytes s) stuck ≠ commitBytes s) : commitResult s t stuck
      = (logEvent (State.setStoreClass (State.setStore { s with commitRun := none } i
          (unfinishedSlot (slotWithStuck (commitBytes s) stuck))) i .torn)
        .commitFailed 2 t (slotCode i) (s.generation + 1), .failed) := by
  simp only [commitResult, hr, if_neg hs]

end

/-- Settles O49: the result by the run and the bytes read back, the report by the entry. -/
theorem commitCompletes : Obligations.CommitCompletes := by
  unfold Obligations.CommitCompletes
  intro s stuck e hp ha hk ho
  dsimp only
  refine ⟨fun i hr hs => ?_, fun i hr hs => ?_, fun i hr hs => ?_, fun bs =>
    ⟨unfinishedSlot_of_not_valid, fun h => if_pos h, unfinishedSlot_not_valid bs⟩⟩
  · cases i <;> exact commitReported_of_applied (w := slotWritten s _) hp ha hk ho
      (commitResult_of_written hr hs) rfl rfl
  · exact commitReported_of_applied (w := { s with commitRun := none }) hp ha hk ho
      (commitResult_of_unchanged hr hs) rfl rfl
  · refine commitReported_of_result hp ha hk ho ?_ (by simp)
    rw [commitResult_of_failed hr hs, ← logEvent_commitRun_none]
    cases i <;> rfl

end Sys2Proof.Machine

namespace Sys2Proof.Machine

-- As in the tests: a task for each proof would need more threads than the check's memory leaves.
set_option Elab.async false

/-! ## Validation of the partition table, its lookups and its swaps (R56, R58, R59, R67, R68, R70) -/

/-! ### The questions that validation asks -/

/-- The two ranges of blocks share one (R67 codes 2 and 4). -/
def ShareBlock (b l b' l' : Half) : Prop :=
  ∃ n, b.toNat ≤ n ∧ n < b.toNat + l.toNat ∧ b'.toNat ≤ n ∧ n < b'.toNat + l'.toNat

/-- The entry is VALID (section 4.1). -/
def IsValid (e : PartEntry) : Prop := e.flags.getLsbD 0 = true

/-- The entry is SWAPPABLE (section 4.1). -/
def IsSwappable (e : PartEntry) : Prop := e.flags.getLsbD 1 = true

/-- The entry has a view (R54). -/
def HasView (e : PartEntry) : Prop := e.viewBase ≠ 0xFFFF

section
variable {e q : PartEntry}

theorem entryValid_iff : entryValid e = true ↔ IsValid e := Iff.rfl

theorem entrySwappable_iff : entrySwappable e = true ↔ IsSwappable e := Iff.rfl

theorem entryHasView_iff : entryHasView e = true ↔ HasView e := bne_iff_ne

theorem rangesMeet_iff_shareBlock (b l b' l' : Half) :
    rangesMeet b.toNat l.toNat b'.toNat l'.toNat = true ↔ ShareBlock b l b' l' :=
  (rangesMeet_iff ..).trans (exists_congr fun n => by tauto)

theorem ShareBlock.symm {b l b' l' : Half} (h : ShareBlock b l b' l') : ShareBlock b' l' b l := by
  obtain ⟨n, lo, hi, lo', hi'⟩ := h
  exact ⟨n, lo', hi', lo, hi⟩

end

/-! ### The seven faults of an entry (R67) -/

section
variable (im : Image) (i : Fin 16)

/-- Code 1. -/
def PastArray : Prop := 512 < im.entries[i].physBase.toNat + im.entries[i].length.toNat

/-- Code 2. -/
def Overlaps : Prop := ∃ j : Fin 16, j < i ∧ IsValid im.entries[j]
  ∧ ShareBlock im.entries[i].physBase im.entries[i].length im.entries[j].physBase im.entries[j].length

/-- Code 3. -/
def ViewPast : Prop :=
  HasView im.entries[i] ∧ 512 < im.entries[i].viewBase.toNat + im.entries[i].length.toNat

/-- Code 4. -/
def ViewOverlaps : Prop := HasView im.entries[i] ∧ ∃ j : Fin 16, j < i ∧ IsValid im.entries[j]
  ∧ HasView im.entries[j]
  ∧ ShareBlock im.entries[i].viewBase im.entries[i].length im.entries[j].viewBase im.entries[j].length

/-- Code 5. -/
def RightsMismatch : Prop :=
  im.entries[i].aRights = 0 ∧ HasView im.entries[i] ∨ im.entries[i].aRights ≠ 0 ∧ ¬ HasView im.entries[i]

/-- The entry `q` is no partner for the entry at index `i` (R67 code 6). -/
def NoPartner (q : PartEntry) : Prop :=
  ¬ IsValid q ∨ q.aliasIndex.toNat ≠ i.val ∨ q.length ≠ im.entries[i].length
    ∨ ¬ (IsSwappable im.entries[i] ∧ IsSwappable q) ∨ ¬ (HasView im.entries[i] ∧ HasView q)

/-- Code 6. -/
def AliasWrong : Prop :=
  (im.entries[i].aliasIndex ≠ 0xFF ∨ IsSwappable im.entries[i])
    ∧ (im.entries[i].aliasIndex = 0xFF ∨ im.entries[i].aliasIndex.toNat = i.val
      ∨ ∀ j : Fin 16, j.val = im.entries[i].aliasIndex.toNat → NoPartner im i im.entries[j])

/-- Code 7. -/
def TrapsUnwritable : Prop := im.entries[i].trapPolicy ≠ 0 ∧ im.entries[i].aRights ≠ 2

variable {im i}

theorem lowerEntry_iff {has : PartEntry → Bool} : lowerEntry im i has = true
    ↔ ∃ j : Fin 16, j < i ∧ IsValid im.entries[j] ∧ has im.entries[j] = true := by
  simp [lowerEntry, entryValid_iff, and_assoc]

theorem pastArray_iff : im.entries[i].physBase.toNat + im.entries[i].length.toNat > Config.blocks
    ↔ PastArray im i := Iff.rfl

theorem overlaps_iff : (lowerEntry im i fun q => rangesMeet im.entries[i].physBase.toNat
    im.entries[i].length.toNat q.physBase.toNat q.length.toNat) = true ↔ Overlaps im i := by
  simp only [lowerEntry_iff, rangesMeet_iff_shareBlock, Overlaps]

theorem viewPast_iff : (entryHasView im.entries[i]
      && decide (im.entries[i].viewBase.toNat + im.entries[i].length.toNat > Config.blocks)) = true
    ↔ ViewPast im i := by
  rw [Bool.and_eq_true, entryHasView_iff, decide_eq_true_iff]
  rfl

theorem viewOverlaps_iff : (entryHasView im.entries[i] && lowerEntry im i fun q => entryHasView q
      && rangesMeet im.entries[i].viewBase.toNat im.entries[i].length.toNat q.viewBase.toNat q.length.toNat) = true
    ↔ ViewOverlaps im i := by
  simp only [Bool.and_eq_true, entryHasView_iff, lowerEntry_iff, rangesMeet_iff_shareBlock, ViewOverlaps]

theorem rightsMismatch_iff : ((im.entries[i].aRights == 0#8) == entryHasView im.entries[i]) = true
    ↔ RightsMismatch im i := by
  rw [beq_iff_eq, Bool.eq_iff_iff, beq_iff_eq, entryHasView_iff, RightsMismatch]
  change (_ = 0 ↔ _) ↔ _
  tauto

theorem aliasEntry_of_eq {a : Byte} {j : Fin 16} (h : j.val = a.toNat) : aliasEntry im a = some im.entries[j] := by
  rw [aliasEntry, dif_pos (h ▸ j.isLt)]
  simp only [← h]
  rfl

/-- What code 6 asks of the partner that an entry names, if any (R67). -/
def partnerFault (i : Fin 16) (e : PartEntry) : Option PartEntry → Bool
  | none => true
  | some q =>
    !entryValid q || q.aliasIndex.toNat != i.val || q.length != e.length
      || !entrySwappable e || !entrySwappable q || !entryHasView e || !entryHasView q

theorem aliasFault_eq (e : PartEntry) : aliasFault im i e = ((e.aliasIndex != 0xFF || entrySwappable e)
    && (e.aliasIndex == 0xFF || e.aliasIndex.toNat == i.val
      || partnerFault i e (aliasEntry im e.aliasIndex))) := rfl

theorem partnerFault_some_iff {q : PartEntry} :
    partnerFault i im.entries[i] (some q) = true ↔ NoPartner im i q := by
  rw [NoPartner, ← entryValid_iff, ← entrySwappable_iff, ← entrySwappable_iff, ← entryHasView_iff,
    ← entryHasView_iff]
  simp [partnerFault, or_assoc, imp_iff_not_or]

/-- An index out of range names no partner (assumption 20), one in range exactly one entry. -/
theorem partnerFault_iff : partnerFault i im.entries[i] (aliasEntry im im.entries[i].aliasIndex) = true
    ↔ ∀ j : Fin 16, j.val = im.entries[i].aliasIndex.toNat → NoPartner im i im.entries[j] := by
  by_cases h : im.entries[i].aliasIndex.toNat < 16
  · have hj : (⟨_, h⟩ : Fin 16).val = im.entries[i].aliasIndex.toNat := rfl
    rw [aliasEntry_of_eq hj, partnerFault_some_iff]
    exact ⟨fun one k hk => Fin.ext (hj.trans hk.symm) ▸ one, fun all => all _ hj⟩
  · rw [aliasEntry, dif_neg h]
    exact iff_of_true rfl fun j hj => absurd (hj ▸ j.isLt) h

theorem aliasFault_iff : aliasFault im i im.entries[i] = true ↔ AliasWrong im i := by
  rw [aliasFault_eq, Bool.and_eq_true, Bool.or_eq_true, Bool.or_eq_true, Bool.or_eq_true, bne_iff_ne,
    entrySwappable_iff, beq_iff_eq, beq_iff_eq, partnerFault_iff, or_assoc, AliasWrong]

theorem trapsUnwritable_iff : (im.entries[i].trapPolicy != 0#8 && im.entries[i].aRights != 2#8) = true
    ↔ TrapsUnwritable im i := by
  rw [Bool.and_eq_true, bne_iff_ne, bne_iff_ne]
  rfl

end

/-- The first fault that holds, in the order of the codes (R67). -/
theorem entryFault_of_faults (im : Image) (i : Fin 16) :
    (PastArray im i → entryFault im i = 1)
      ∧ (¬ PastArray im i → Overlaps im i → entryFault im i = 2)
      ∧ (¬ PastArray im i → ¬ Overlaps im i → ViewPast im i → entryFault im i = 3)
      ∧ (¬ PastArray im i → ¬ Overlaps im i → ¬ ViewPast im i → ViewOverlaps im i → entryFault im i = 4)
      ∧ (¬ PastArray im i → ¬ Overlaps im i → ¬ ViewPast im i → ¬ ViewOverlaps im i → RightsMismatch im i →
        entryFault im i = 5)
      ∧ (¬ PastArray im i → ¬ Overlaps im i → ¬ ViewPast im i → ¬ ViewOverlaps im i → ¬ RightsMismatch im i →
        AliasWrong im i → entryFault im i = 6)
      ∧ (¬ PastArray im i → ¬ Overlaps im i → ¬ ViewPast im i → ¬ ViewOverlaps im i → ¬ RightsMismatch im i →
        ¬ AliasWrong im i → (TrapsUnwritable im i → entryFault im i = 7)
          ∧ (¬ TrapsUnwritable im i → entryFault im i = 0)) := by
  refine ⟨fun h => if_pos h, fun h1 h2 => ?_, fun h1 h2 h3 => ?_, fun h1 h2 h3 h4 => ?_,
    fun h1 h2 h3 h4 h5 => ?_, fun h1 h2 h3 h4 h5 h6 => ?_,
    fun h1 h2 h3 h4 h5 h6 => ⟨fun h7 => ?_, fun h7 => ?_⟩⟩
  all_goals
    unfold entryFault
    dsimp only
    rw [if_neg (mt pastArray_iff.mp h1)]
  · rw [if_pos (overlaps_iff.mpr h2)]
  all_goals rw [if_neg (mt overlaps_iff.mp h2)]
  · rw [if_pos (viewPast_iff.mpr h3)]
  all_goals rw [if_neg (mt viewPast_iff.mp h3)]
  · rw [if_pos (viewOverlaps_iff.mpr h4)]
  all_goals rw [if_neg (mt viewOverlaps_iff.mp h4)]
  · rw [if_pos (rightsMismatch_iff.mpr h5)]
  all_goals rw [if_neg (mt rightsMismatch_iff.mp h5)]
  · rw [if_pos (aliasFault_iff.mpr h6)]
  all_goals rw [if_neg (mt aliasFault_iff.mp h6)]
  · rw [if_pos (trapsUnwritable_iff.mpr h7)]
  · rw [if_neg (mt trapsUnwritable_iff.mp h7)]

theorem entryFault_le (im : Image) (i : Fin 16) : entryFault im i ≤ 7 := by
  unfold entryFault
  dsimp only
  repeat' split
  all_goals decide

section
variable {im : Image} {i j : Fin 16}

/-- An entry with none of the seven faults (R67). -/
structure Faultless (im : Image) (i : Fin 16) : Prop where
  inArray : ¬ PastArray im i
  apart : ¬ Overlaps im i
  viewIn : ¬ ViewPast im i
  viewApart : ¬ ViewOverlaps im i
  rights : ¬ RightsMismatch im i
  partner : ¬ AliasWrong im i
  traps : ¬ TrapsUnwritable im i

theorem entryFault_eq_zero_iff : entryFault im i = 0 ↔ Faultless im i := by
  obtain ⟨f1, f2, f3, f4, f5, f6, f7⟩ := entryFault_of_faults im i
  constructor
  · intro h
    rw [h] at f1 f2 f3 f4 f5 f6 f7
    have h1 : ¬ PastArray im i := fun hp => absurd (f1 hp) (by decide)
    have h2 : ¬ Overlaps im i := fun hp => absurd (f2 h1 hp) (by decide)
    have h3 : ¬ ViewPast im i := fun hp => absurd (f3 h1 h2 hp) (by decide)
    have h4 : ¬ ViewOverlaps im i := fun hp => absurd (f4 h1 h2 h3 hp) (by decide)
    have h5 : ¬ RightsMismatch im i := fun hp => absurd (f5 h1 h2 h3 h4 hp) (by decide)
    have h6 : ¬ AliasWrong im i := fun hp => absurd (f6 h1 h2 h3 h4 h5 hp) (by decide)
    exact ⟨h1, h2, h3, h4, h5, h6, fun hp => absurd ((f7 h1 h2 h3 h4 h5 h6).1 hp) (by decide)⟩
  · rintro ⟨h1, h2, h3, h4, h5, h6, h7⟩
    exact (f7 h1 h2 h3 h4 h5 h6).2 h7

/-! ### What validation reports (R68) -/

theorem tableFault_eq_none_iff :
    tableFault im = none ↔ ∀ i : Fin 16, IsValid im.entries[i] → entryFault im i = 0 := by
  simp [tableFault, List.findSome?_eq_none_iff, entryValid_iff]

theorem tableFault_eq_some_iff {code : Nat} : tableFault im = some (i, code) ↔
    (IsValid im.entries[i] ∧ entryFault im i = code ∧ code ≠ 0)
      ∧ ∀ j < i, IsValid im.entries[j] → entryFault im j = 0 := by
  have failing (j : Fin 16) (r : Fin 16 × Nat) :
      (if entryValid im.entries[j] && entryFault im j != 0 then some (j, entryFault im j) else none) = some r
        ↔ IsValid im.entries[j] ∧ entryFault im j ≠ 0 ∧ (j, entryFault im j) = r := by
    rw [← entryValid_iff]
    simp [and_assoc]
  have passing (j : Fin 16) :
      (if entryValid im.entries[j] && entryFault im j != 0 then some (j, entryFault im j) else none) = none
        ↔ (IsValid im.entries[j] → entryFault im j = 0) := by
    rw [← entryValid_iff]
    simp
  rw [tableFault, ← Fin.findSome?_eq_findSome?_finRange, Fin.findSome?_eq_some_iff]
  simp only [failing, passing, Prod.mk.injEq]
  constructor
  · rintro ⟨k, ⟨hv, hne, rfl, rfl⟩, lower⟩
    exact ⟨⟨hv, rfl, hne⟩, lower⟩
  · rintro ⟨⟨hv, rfl, hne⟩, lower⟩
    exact ⟨i, ⟨hv, hne, rfl, rfl⟩, lower⟩

theorem validationDetail_of_some {code : Nat} (h : tableFault im = some (i, code)) :
    validationDetail im = BitVec.ofNat 8 (16 * i.val + code) := by
  rw [validationDetail, h]

/-! ### A table that passes (R56) -/

/-- A table that passes validation, with no order among its entries. -/
structure TableSound (im : Image) : Prop where
  inArray : ∀ i, IsValid im.entries[i] → ¬ PastArray im i
  apart : ∀ i j : Fin 16, i ≠ j → IsValid im.entries[i] → IsValid im.entries[j] →
    ¬ ShareBlock im.entries[i].physBase im.entries[i].length im.entries[j].physBase im.entries[j].length
  viewIn : ∀ i, IsValid im.entries[i] → ¬ ViewPast im i
  viewApart : ∀ i j : Fin 16, i ≠ j → IsValid im.entries[i] → IsValid im.entries[j] →
    HasView im.entries[i] → HasView im.entries[j] →
    ¬ ShareBlock im.entries[i].viewBase im.entries[i].length im.entries[j].viewBase im.entries[j].length
  rights : ∀ i, IsValid im.entries[i] → ¬ RightsMismatch im i
  partner : ∀ i, IsValid im.entries[i] → ¬ AliasWrong im i
  traps : ∀ i, IsValid im.entries[i] → ¬ TrapsUnwritable im i

theorem tableFault_eq_none_iff_sound : tableFault im = none ↔ TableSound im := by
  rw [tableFault_eq_none_iff]
  constructor
  · intro h
    have faultless (i : Fin 16) (hi : IsValid im.entries[i]) := entryFault_eq_zero_iff.mp (h i hi)
    refine ⟨fun i hi => (faultless i hi).inArray, fun i j hij hi hj hs => ?_,
      fun i hi => (faultless i hi).viewIn, fun i j hij hi hj vi vj hs => ?_,
      fun i hi => (faultless i hi).rights, fun i hi => (faultless i hi).partner,
      fun i hi => (faultless i hi).traps⟩
    · obtain lt | gt := lt_or_gt_of_ne hij
      · exact (faultless j hj).apart ⟨i, lt, hi, hs.symm⟩
      · exact (faultless i hi).apart ⟨j, gt, hj, hs⟩
    · obtain lt | gt := lt_or_gt_of_ne hij
      · exact (faultless j hj).viewApart ⟨vj, i, lt, hi, vi, hs.symm⟩
      · exact (faultless i hi).viewApart ⟨vi, j, gt, hj, vj, hs⟩
  · intro h i hi
    refine entryFault_eq_zero_iff.mpr ⟨h.inArray i hi, ?_, h.viewIn i hi, ?_, h.rights i hi, h.partner i hi,
      h.traps i hi⟩
    · rintro ⟨j, lt, hj, hs⟩
      exact h.apart i j lt.ne' hi hj hs
    · rintro ⟨vi, j, lt, hj, vj, hs⟩
      exact h.viewApart i j lt.ne' hi hj vi vj hs

/-! ### The lookups of an address (R58, R59) -/

theorem viewCovers_iff {e : PartEntry} {b : Nat} : viewCovers e b = true
    ↔ IsValid e ∧ HasView e ∧ e.viewBase.toNat ≤ b ∧ b < e.viewBase.toNat + e.length.toNat := by
  rw [← entryValid_iff, ← entryHasView_iff]
  simp [viewCovers, and_assoc]

theorem physCovers_iff {e : PartEntry} {b : Nat} : physCovers e b = true
    ↔ IsValid e ∧ e.physBase.toNat ≤ b ∧ b < e.physBase.toNat + e.length.toNat := by
  rw [← entryValid_iff]
  simp [physCovers, and_assoc]

/-- No two entries of a table that passes cover one physical block (R59). -/
theorem TableSound.physCovers_unique (h : TableSound im) (hij : i ≠ j) (b : Nat) :
    ¬ (physCovers im.entries[i] b = true ∧ physCovers im.entries[j] b = true) := by
  rw [physCovers_iff, physCovers_iff]
  rintro ⟨⟨hi, lo, hi'⟩, hj, lo', hj'⟩
  exact h.apart i j hij hi hj ⟨b, lo, hi', lo', hj'⟩

/-- Nor one logical block by their views (R58). -/
theorem TableSound.viewCovers_unique (h : TableSound im) (hij : i ≠ j) (b : Nat) :
    ¬ (viewCovers im.entries[i] b = true ∧ viewCovers im.entries[j] b = true) := by
  rw [viewCovers_iff, viewCovers_iff]
  rintro ⟨⟨hi, vi, lo, hi'⟩, hj, vj, lo', hj'⟩
  exact h.viewApart i j hij hi hj vi vj ⟨b, lo, hi', lo', hj'⟩

/-- The entry of lowest index with a property. -/
theorem findEntry_eq_some_iff {has : PartEntry → Bool} : findEntry im has = some i
    ↔ has im.entries[i] = true ∧ ∀ j < i, ¬ has im.entries[j] = true := by
  rw [findEntry, ← Fin.find?_eq_find?_finRange, Fin.find?_eq_some_iff]
  simp only [Bool.not_eq_true]

theorem findEntry_eq_none_iff {has : PartEntry → Bool} :
    findEntry im has = none ↔ ∀ j : Fin 16, ¬ has im.entries[j] = true := by
  simp only [findEntry, List.find?_eq_none, List.mem_finRange, forall_const]

theorem translate_eq_some_iff {l phys : Nat} : translate im l = some (i, phys)
    ↔ coveringEntry im l = some i ∧ phys = physicalOf im.entries[i] l := by
  unfold translate
  cases coveringEntry im l with
  | none => simp
  | some k =>
    simp only [Option.some.injEq, Prod.mk.injEq]
    constructor
    · rintro ⟨rfl, rfl⟩
      exact ⟨rfl, rfl⟩
    · rintro ⟨rfl, rfl⟩
      exact ⟨rfl, rfl⟩

theorem translate_eq_none_iff {l : Nat} : translate im l = none ↔ coveringEntry im l = none := by
  unfold translate
  cases coveringEntry im l <;> simp

/-! ### A swap keeps a table valid (R70) -/

/-- What two entries have alike, the ones that a swap exchanges have alike. -/
theorem swap_invariant {α : Type} {f : Fin 16 → α} (h : f j = f i) (q : Fin 16) : f (Equiv.swap i j q) = f q := by
  obtain rfl | hi := eq_or_ne q i
  · rw [Equiv.swap_apply_left, h]
  · obtain rfl | hj := eq_or_ne q j
    · rw [Equiv.swap_apply_right, h]
    · rw [Equiv.swap_apply_of_ne_of_ne hi hj]

/-- A swap gives each entry the view of the one that it changes places with, and nothing else. -/
theorem getElem_swapViews (es : Vector PartEntry 16) (i j q : Fin 16) :
    (swapViews es i j)[q] = { es[q] with viewBase := es[Equiv.swap i j q].viewBase } := by
  obtain rfl | hj := eq_or_ne q j
  · have hσ : Equiv.swap i q q = i := Equiv.swap_apply_right i q
    simp only [hσ]
    simp [swapViews]
  · obtain rfl | hi := eq_or_ne q i
    · have hσ : Equiv.swap q j q = j := Equiv.swap_apply_left q j
      simp only [hσ]
      simp [swapViews, Ne.symm (Fin.val_ne_of_ne hj)]
    · have hσ : Equiv.swap i j q = q := Equiv.swap_apply_of_ne_of_ne hi hj
      simp only [hσ]
      simp [swapViews, Ne.symm (Fin.val_ne_of_ne hj), Ne.symm (Fin.val_ne_of_ne hi)]

theorem swapViews_swapViews (es : Vector PartEntry 16) (i j : Fin 16) :
    swapViews (swapViews es i j) i j = es := by
  refine Vector.ext fun q hq => ?_
  have twice (q : Fin 16) : (swapViews (swapViews es i j) i j)[q] = es[q] := by
    rw [getElem_swapViews, getElem_swapViews es i j q, getElem_swapViews es i j (Equiv.swap i j q)]
    simp only [Equiv.swap_apply_self]
  exact twice ⟨q, hq⟩

/-- A swap leaves the fields that make two entries a swap pair. -/
theorem swapPair_swapViews :
    swapPair { im with entries := swapViews im.entries i j } i j = swapPair im i j := by
  simp only [swapPair, getElem_swapViews]
  rfl

/-- The partners of a pair in a table that passes have views of one length (R67 code 6). -/
theorem TableSound.views_of_swapPair (h : TableSound im) (pair : swapPair im i j = true) :
    im.entries[j].length = im.entries[i].length ∧ HasView im.entries[i] ∧ HasView im.entries[j] := by
  obtain ⟨-, ⟨valid, swappable, named⟩, -⟩ := (swapPair_iff im i j).mp pair
  have partner : ¬ NoPartner im i im.entries[j] := fun wrong =>
    h.partner i valid ⟨.inr swappable, .inr (.inr fun k hk => Fin.ext (hk.trans named) ▸ wrong)⟩
  unfold NoPartner at partner
  tauto

/-- A swap moves views of one length, so that each stays in Port A's space and no two come to meet. -/
theorem TableSound.swap (h : TableSound im) (pair : swapPair im i j = true) :
    TableSound { im with entries := swapViews im.entries i j } := by
  obtain ⟨hlen, vi, vj⟩ := h.views_of_swapPair pair
  obtain ⟨-, ⟨validI, -, -⟩, ⟨validJ, -, -⟩⟩ := (swapPair_iff im i j).mp pair
  have valid (q : Fin 16) : IsValid im.entries[Equiv.swap i j q] = IsValid im.entries[q] :=
    swap_invariant (f := fun q => IsValid im.entries[q]) (propext (iff_of_true validJ validI)) q
  have view (q : Fin 16) : HasView im.entries[Equiv.swap i j q] = HasView im.entries[q] :=
    swap_invariant (f := fun q => HasView im.entries[q]) (propext (iff_of_true vj vi)) q
  have len (q : Fin 16) : im.entries[Equiv.swap i j q].length = im.entries[q].length :=
    swap_invariant (f := fun q => im.entries[q].length) hlen q
  have validS (q : Fin 16) : IsValid (swapViews im.entries i j)[q] = IsValid im.entries[q] := by
    rw [getElem_swapViews]
    rfl
  have viewS (q : Fin 16) : HasView (swapViews im.entries i j)[q] = HasView im.entries[q] := by
    rw [getElem_swapViews, ← view]
    rfl
  refine ⟨fun q hq => ?_, fun q r hqr hq hr => ?_, fun q hq => ?_, fun q r hqr hq hr vq vr => ?_, fun q hq => ?_,
    fun q hq => ?_, fun q hq => ?_⟩
  · have old := h.inArray q (validS q ▸ hq)
    unfold PastArray at old ⊢
    simpa only [getElem_swapViews] using old
  · have old := h.apart q r hqr (validS q ▸ hq) (validS r ▸ hr)
    simpa only [getElem_swapViews] using old
  · have old := h.viewIn (Equiv.swap i j q) (valid q ▸ validS q ▸ hq)
    unfold ViewPast at old ⊢
    rw [viewS]
    rw [view, len] at old
    simpa only [getElem_swapViews] using old
  · have old := h.viewApart (Equiv.swap i j q) (Equiv.swap i j r) ((Equiv.swap i j).injective.ne hqr)
      (valid q ▸ validS q ▸ hq) (valid r ▸ validS r ▸ hr) (view q ▸ viewS q ▸ vq) (view r ▸ viewS r ▸ vr)
    rw [len, len] at old
    simpa only [getElem_swapViews] using old
  · have old := h.rights q (validS q ▸ hq)
    unfold RightsMismatch at old ⊢
    rw [viewS]
    simpa only [getElem_swapViews] using old
  · have old := h.partner q (validS q ▸ hq)
    unfold AliasWrong NoPartner at old ⊢
    simp only [validS, viewS]
    simpa only [getElem_swapViews, IsSwappable] using old
  · have old := h.traps q (validS q ▸ hq)
    unfold TrapsUnwritable at old ⊢
    simpa only [getElem_swapViews] using old

end

/-- Settles O59: the report by the first entry that fails, the seven faults in their order, the lookups by the
entry of lowest index that covers the block, and a swap by what it leaves of the table. -/
theorem validationReport : Obligations.ValidationReport := by
  unfold Obligations.ValidationReport
  refine ⟨fun im => ⟨tableFault_eq_none_iff, fun i code h => ?_⟩, entryFault_of_faults,
    fun im i j b h hij => ?_, fun im a => ?_, fun im i j h pair => ?_⟩
  · obtain ⟨⟨valid, hcode, hne⟩, lower⟩ := tableFault_eq_some_iff.mp h
    exact ⟨valid, hcode, Nat.one_le_iff_ne_zero.mpr hne, hcode ▸ entryFault_le im i, lower,
      validationDetail_of_some h⟩
  · have sound := tableFault_eq_none_iff_sound.mp h
    exact ⟨sound.physCovers_unique hij b, sound.viewCovers_unique hij b⟩
  · dsimp only
    refine ⟨fun j phys => ?_, ?_, fun j => ?_, ?_⟩
    · rw [translate_eq_some_iff, coveringEntry, findEntry_eq_some_iff, and_assoc]
      simp only [viewCovers_iff]
      rfl
    · rw [translate_eq_none_iff, coveringEntry, findEntry_eq_none_iff]
      simp only [viewCovers_iff]
      rfl
    · rw [partitionOf, findEntry_eq_some_iff]
      simp only [physCovers_iff]
      rfl
    · rw [partitionOf, findEntry_eq_none_iff]
      simp only [physCovers_iff]
      rfl
  · have sound := (tableFault_eq_none_iff_sound.mp h).swap pair
    exact ⟨tableFault_eq_none_iff_sound.mpr sound, swapPair_swapViews.trans pair, swapViews_swapViews ..⟩

end Sys2Proof.Machine

namespace Sys2Proof.Machine

-- As in the tests: a task for each proof would need more threads than the check's memory leaves.
set_option Elab.async false

/-! ## The shipped device after power-on (section 10.4, R138) -/

theorem tableFault_factoryImage : tableFault factoryImage = none := by decide +kernel

@[simp] theorem getElem_pool_reset (i : Fin 6) : State.reset.pool[i] = none :=
  Vector.getElem_replicate i.isLt

/-- The 205 bytes of section 10.4: the settings of R132, entry 0 over the array, 15 cleared entries. -/
theorem imageToBytes_factoryImage :
    imageToBytes factoryImage = [0, 0, 8, 8, 2, 2, 0, 0, 0xFF, 50, 0, 20, 0]
      ++ [1, 0, 0, 2, 0, 0, 0, 2, 2, 0, 0, 0xFF]
      ++ (List.replicate 15 (0x00#8 :: List.replicate 11 0xFF#8)).flatten := by
  decide +kernel

theorem canonical_reset : Canonical State.reset :=
  ⟨reset_memories_wf.1, reset_memories_wf.2, fun i _ hb => nomatch (getElem_pool_reset i).symm.trans hb⟩

theorem withinCapacity_reset : WithinCapacity State.reset := by
  unfold WithinCapacity
  decide

theorem sequencerSound_reset : SequencerSound State.reset :=
  ⟨Nat.zero_le _, Nat.zero_le _, fun _ he => absurd he List.not_mem_nil,
    fun _ he => absurd he List.not_mem_nil, fun h => absurd rfl h⟩

theorem mailboxSound_reset : MailboxSound State.reset := fun _ h => by
  obtain h | h := h <;> cases h

theorem selectionSound_reset : SelectionSound State.reset := fun p _ h => by
  cases p <;> cases h

theorem tagsSound_reset : TagsSound State.reset := by
  unfold TagsSound
  decide

theorem storeSound_reset : StoreSound State.reset :=
  ⟨length_slotOf 1 factoryImage, List.length_replicate⟩

theorem buffersSound_reset : BuffersSound State.reset :=
  buffersSound_of_none rfl (fun i => by cases i <;> rfl) getElem_pool_reset

/-- The one VALID slot of the shipped device holds the factory image (R138). -/
theorem imagesValid_reset : ImagesValid State.reset := by
  refine ⟨tableFault_factoryImage, fun ⟨_, he, _⟩ => absurd he List.not_mem_nil, fun slot h => ?_⟩
  cases slot with
  | s0 =>
    change tableFault (imageOf (slotImageBytes (slotOf 1 factoryImage))) = none
    rw [slotImageBytes_slotOf, imageOf_imageToBytes, tableFault_factoryImage]
  | s1 => exact absurd (classify_blankSlot.symm.trans h) (by decide)

/-- The power-on column of section 10.4 for a port. -/
theorem port_reset (p : Port) : State.reset.port p = PortState.reset := by
  cases p <;> rfl

/-- Settles O4: each field as the reset state gives it, the image by evaluation, soundness one predicate at a
time. -/
theorem resetState : Obligations.ResetState := by
  unfold Obligations.ResetState
  simp only [port_reset]
  exact ⟨⟨rfl, rfl, rfl, rfl, rfl, rfl, rfl, getElem_pool_reset, rfl, rfl, rfl, rfl, rfl, rfl, rfl, rfl, rfl, rfl,
      rfl, fun _ => ⟨rfl, rfl, rfl, rfl, rfl, rfl, rfl, rfl, rfl, rfl, rfl, rfl, rfl, rfl, rfl⟩,
      rfl, rfl, rfl, rfl, rfl, rfl, rfl, rfl, rfl⟩,
    imageToBytes_factoryImage, canonical_reset, withinCapacity_reset, sequencerSound_reset, mailboxSound_reset,
    selectionSound_reset, tagsSound_reset, storeSound_reset, ⟨rfl, rfl⟩, buffersSound_reset, imagesValid_reset,
    Nat.le_refl 0⟩

end Sys2Proof.Machine

namespace Sys2Proof.Machine

-- As in the tests: a task for each proof would need more threads than the check's memory leaves.
set_option Elab.async false

/-! ## A COMMIT that a mailbox slot passes to the queue (R56, R100) -/

/-- A staging image that fails validation: its entry 0 reaches past the array (R67 code 1). -/
def overlongImage : Image :=
  { factoryImage with entries := factoryImage.entries.set 0 { factoryEntry with length := 513 } }

/-- A RELEASING slot that holds a COMMIT, which no request of Port A ever puts there (R95), with the queue
empty and the overlong image staged; the row RELEASING_SLOT_ENTRY waits. -/
def releasingCommit : State :=
  { State.reset with
    stagingImage := overlongImage, slot0 := { emptySlot with state := .releasing, kind := .commit }
    store0 := blankSlot, pending := [.releasingSlotEntry] }

theorem tableFault_overlongImage : tableFault overlongImage = some (0, 1) := by decide

theorem sequencerSound_releasingCommit : SequencerSound releasingCommit :=
  ⟨Nat.zero_le _, Nat.zero_le _, fun _ he => absurd he List.not_mem_nil,
    fun _ he => absurd he List.not_mem_nil, fun h => absurd rfl h⟩

theorem storeSound_releasingCommit : StoreSound releasingCommit :=
  ⟨List.length_replicate, List.length_replicate⟩

theorem imagesValid_releasingCommit : ImagesValid releasingCommit := by
  refine ⟨by decide, fun ⟨_, he, _⟩ => absurd he List.not_mem_nil, fun slot h => ?_⟩
  cases slot <;> exact absurd (classify_blankSlot.symm.trans h) SlotClass.noConfusion

/-- The COMMIT joins the queue, and the staging image is as it was (R100). -/
theorem step_releasingCommit : ∃ t, step releasingCommit = .next t
    ∧ (∃ e ∈ t.queue, e.kind = .commit) ∧ t.stagingImage = overlongImage :=
  ⟨_, rfl, ⟨_, List.mem_singleton_self _, rfl⟩, rfl⟩

/-- Refutes O60: the premises say nothing of what the mailbox slots hold. A RELEASING slot with a COMMIT passes
it to the queue without the validation that an accepted COMMIT has had (R140), over a staging image that may fail
it. -/
theorem not_activeImageStaysValid : ¬ Obligations.ActiveImageStaysValid := by
  unfold Obligations.ActiveImageStaysValid
  intro h
  obtain ⟨t, ht, queued, staged⟩ := step_releasingCommit
  obtain ⟨-, valid, -⟩ := h releasingCommit t sequencerSound_releasingCommit storeSound_releasingCommit
    imagesValid_releasingCommit ht
  have passes := valid queued
  rw [staged, tableFault_overlongImage] at passes
  cases passes

end Sys2Proof.Machine
